-- ==== Sys2Proof/Word.lean ====
section
/-! DEFINITION. The byte that crosses the DW32's links (spec/11), and the 16-bit word of its check.

Everything the manual counts (watts, credits, seconds, receipt numbers, ports) is a `Nat` or an `Int` in
this model; only what the manual treats as bits is a bit vector. -/

namespace Sys2Proof

/-- One byte of a frame or of a tariff slot. -/
abbrev Byte := BitVec 8

/-- The CRC-16 register of R175. -/
abbrev Check := BitVec 16

end Sys2Proof
end

