-- ==== Sys2Proof/Syntax.lean ====
section
/-! DEFINITION. The commands of the DW32: one constructor for each row of spec/opcode_table.json.

The rows carry no bits. Three kinds of row are told apart by what their operands are:

* a frame or byte that arrives on a link, or an event on the field link, carries what arrived;
* a request carries the link it arrived on, its tag and its payload: the fields of R176, or `misfit` for a
  payload that does not fit the layout of its kind (step 3 of R164);
* an event that one block sends to another, or a timer's expiry, names only WHICH event is taken (a port, a
  unit, a session): what the event carries was written by the sending block and waits in State (log 2).

A field is a `Nat` as it stands in the frame, codes included, so that a value the owning rule refuses can be
written down. `WellFormed` bounds each field by its width. -/

namespace Sys2Proof

/-- The two serial links that carry requests (chapter 10). -/
inductive Link where
  | site
  | till
  deriving DecidableEq, Repr

/-- A request's payload at step 3 of R164. -/
inductive Payload (α : Type) where
  | fits (fields : α)
  | misfit
  deriving DecidableEq, Repr

/-- A text field as received (R174): absent, or its bytes. -/
abbrev Text := Option (List Byte)

/-- SET_SITE (R41, R143). -/
structure SiteFields where
  importLimit : Nat
  margin : Nat
  exportLimit : Nat
  storePeak : Nat
  fallback : Nat
  nextReceipt : Nat
  deriving DecidableEq, Repr

/-- SET_FEEDER (R48). -/
structure FeederFields where
  feeder : Nat
  cap : Nat
  deriving DecidableEq, Repr

/-- SET_PORT (R1); the yes-or-no fields and the class as their codes. -/
structure PortFields where
  port : Nat
  present : Nat
  feeder : Nat
  cls : Nat
  ratedMax : Nat
  minimum : Nat
  address : Nat
  freeVend : Nat
  deriving DecidableEq, Repr

/-- SET_UNIT (R89). -/
structure UnitFields where
  kind : Nat
  inverter : Nat
  address : Nat
  rated : Nat
  present : Nat
  deriving DecidableEq, Repr

/-- SET_BATTERY_POLICY (R73). -/
structure PolicyFields where
  hardFloor : Nat
  softReserve : Nat
  fullLimit : Nat
  dischargeCap : Nat
  chargeCap : Nat
  topUp : Nat
  deriving DecidableEq, Repr

/-- SET_TIMERS (R26, R32, R51, R96). -/
structure TimerFields where
  authorization : Nat
  dormant : Nat
  closing : Nat
  stale : Nat
  restore : Nat
  fallbackHold : Nat
  period : Nat
  reply : Nat
  deriving DecidableEq, Repr

/-- SET_WATERMARKS (R63). -/
structure WatermarkFields where
  high : Nat
  urgent : Nat
  deriving DecidableEq, Repr

/-- SET_NOTICE_ROUTE (R171). -/
structure RouteFields where
  kind : Nat
  route : Nat
  priority : Nat
  deriving DecidableEq, Repr

/-- SET_TILL_ACCESS (R166). -/
structure TillFields where
  grant : Nat
  first : Nat
  last : Nat
  deriving DecidableEq, Repr

/-- SET_QUEUE_LEVELS (R159). -/
structure LevelFields where
  notify : Nat
  high : Nat
  deriving DecidableEq, Repr

/-- AUTHORIZE (R8); a departure time of 0 is absent. -/
structure AuthorizeFields where
  port : Nat
  departure : Nat
  customer : Text
  deriving DecidableEq, Repr

/-- SET_DEPARTURE (R23). -/
structure DepartureFields where
  session : Nat
  departure : Nat
  deriving DecidableEq, Repr

/-- LINK_PURCHASE (R22). -/
structure PurchaseFields where
  session : Nat
  amount : Nat
  reference : Text
  deriving DecidableEq, Repr

/-- The tariff record as PROGRAM_TARIFF carries it (R122, R177). -/
structure TariffFields where
  id : Nat
  solarRate : Nat
  batteryRate : Nat
  gridRate : Nat
  idleGrace : Nat
  idleRate : Nat
  idleCap : Nat
  step : Nat
  perStep : Nat
  allowanceCap : Nat
  label : Text
  deriving DecidableEq, Repr

/-- PROGRAM_TARIFF (R123). -/
structure ProgramFields where
  slot : Nat
  record : TariffFields
  deriving DecidableEq, Repr

/-- RECEIPT_COPY (R148). -/
structure CopyFields where
  selector : Nat
  value : Nat
  deriving DecidableEq, Repr

/-- A complete reply frame on the field link (11.6), with the check sequence it arrived with. -/
structure FieldFrame where
  address : Byte
  kind : Byte
  payload : List Byte
  check : Check
  deriving DecidableEq, Repr

/-- The commands: requests, link and field-link events, timer expiries and the events between blocks. -/
inductive Instr where
  | powerOnReset
  | interByteTimeout (l : Link)
  | frameDiscard (l : Link)
  | busyRefusal (l : Link) (kind tag : Byte)
  | unknownKind (l : Link) (kind tag : Byte)
  | transmitEnd (l : Link)
  | siteClockTick
  | setSite (l : Link) (tag : Byte) (p : Payload SiteFields)
  | setFeeder (l : Link) (tag : Byte) (p : Payload FeederFields)
  | setPort (l : Link) (tag : Byte) (p : Payload PortFields)
  | setUnit (l : Link) (tag : Byte) (p : Payload UnitFields)
  | setBatteryPolicy (l : Link) (tag : Byte) (p : Payload PolicyFields)
  | setTimers (l : Link) (tag : Byte) (p : Payload TimerFields)
  | setWatermarks (l : Link) (tag : Byte) (p : Payload WatermarkFields)
  | setNoticeRoute (l : Link) (tag : Byte) (p : Payload RouteFields)
  | setTillAccess (l : Link) (tag : Byte) (p : Payload TillFields)
  | setQueueLevels (l : Link) (tag : Byte) (p : Payload LevelFields)
  /-- The payload is the site time. -/
  | setTime (l : Link) (tag : Byte) (p : Payload Nat)
  | goLive (l : Link) (tag : Byte) (p : Payload Unit)
  /-- The payload is the mode code. -/
  | restart (l : Link) (tag : Byte) (p : Payload Nat)
  | authorize (l : Link) (tag : Byte) (p : Payload AuthorizeFields)
  /-- The payload is the port. -/
  | holdPort (l : Link) (tag : Byte) (p : Payload Nat)
  /-- The payload is the port. -/
  | releasePort (l : Link) (tag : Byte) (p : Payload Nat)
  /-- The payload is the session number. -/
  | stopSession (l : Link) (tag : Byte) (p : Payload Nat)
  | setDeparture (l : Link) (tag : Byte) (p : Payload DepartureFields)
  /-- The payload is the session number. -/
  | sessionStatus (l : Link) (tag : Byte) (p : Payload Nat)
  /-- The payload is the port. -/
  | portStatus (l : Link) (tag : Byte) (p : Payload Nat)
  | linkPurchase (l : Link) (tag : Byte) (p : Payload PurchaseFields)
  | programTariff (l : Link) (tag : Byte) (p : Payload ProgramFields)
  /-- The payload is the slot. -/
  | eraseTariff (l : Link) (tag : Byte) (p : Payload Nat)
  /-- The payload is the slot. -/
  | activateTariff (l : Link) (tag : Byte) (p : Payload Nat)
  /-- The payload is the slot. -/
  | readTariff (l : Link) (tag : Byte) (p : Payload Nat)
  | readReceipt (l : Link) (tag : Byte) (p : Payload Unit)
  | setMark (l : Link) (tag : Byte) (p : Payload Unit)
  | rewind (l : Link) (tag : Byte) (p : Payload Unit)
  | releaseMark (l : Link) (tag : Byte) (p : Payload Unit)
  | flushQueue (l : Link) (tag : Byte) (p : Payload Unit)
  | receiptCopy (l : Link) (tag : Byte) (p : Payload CopyFields)
  | queueStatus (l : Link) (tag : Byte) (p : Payload Unit)
  | readDiscrepancy (l : Link) (tag : Byte) (p : Payload Unit)
  | clearDiscrepancy (l : Link) (tag : Byte) (p : Payload Unit)
  /-- The payload is the page. -/
  | siteStatus (l : Link) (tag : Byte) (p : Payload Nat)
  /-- The payload is the page. -/
  | allocStatus (l : Link) (tag : Byte) (p : Payload Nat)
  /-- The payload is the unit index. -/
  | unitStatus (l : Link) (tag : Byte) (p : Payload Nat)
  | pollEnd
  | fieldReply (f : FieldFrame)
  | replyTimeout
  | chargerReport (port : Nat)
  | chargerTarget (port : Nat)
  | readingApplied (port : Nat)
  | authorizationTimeout (session : Nat)
  | dormantTimeout (session : Nat)
  | idleSecondTick (session : Nat)
  | closingTimeout (session : Nat)
  | allocationResultSessions
  | reclassification
  | siteStateChangeSessions
  | chargerHealthChange (port : Nat)
  | activationEvent
  | reportArrival (unit : Nat)
  | staleTimerExpiry (unit : Nat)
  | unitHealthChange (unit : Nat)
  | fallbackHoldExpiry (port : Nat)
  | restoreTimerExpiry
  | dischargeAllowanceChange
  | earlyRequest
  | roundPeriodExpiry
  | spacingTimerExpiry
  | resultApplied
  | allocationResultField
  | allocationResultDispatch
  | batteryReport
  | batteryFreshnessChange
  | siteStateChangeDispatch
  | dispatchHandover
  | readingApplication (port : Nat)
  | erasingEnd
  | writingEnd
  /-- Whether the whole slot read back as intended (R124). -/
  | operationCompletion (verified : Bool)
  | siteStateChangeStore
  | handOver
  | storeFree
  | roomEvent
  | receivedByte (l : Link) (b : Byte)
  deriving DecidableEq, Repr

end Sys2Proof
end

