-- ==== Sys2Proof/Decode.lean ====
section
/-! DEFINITION. Reading a command from the bits of a table word. No row of spec/opcode_table.json gives bits
("fields" is empty in every row and none has "fixed"), so no word spells a command. The bytes of the part's own
frames are read in Machine/Operands.lean and Machine/Receiver.lean. -/

namespace Sys2Proof

/-- No row of the table gives bits: every word is refused. -/
def decodeTableWord (_nbits _w : Nat) : Option Instr := none

end Sys2Proof
end

