-- ==== Sys2Proof/Config.lean ====
section
/-! DEFINITION. What the part fixes once and for all (its sizes and fixed times), and the free values: the
points where the manual gives an effect but not the value. A free value has no body, so no proof can see it. -/

namespace Sys2Proof.Config

/-- Session table entries (section 1.4). -/
abbrev tableCapacity : Nat := 48

/-- Receipts the queue can retain (R149). -/
abbrev queueCapacity : Nat := 64

/-- Purchase links a session can hold (R22). -/
abbrev linkCapacity : Nat := 4

/-- The largest budget in credits (R42). -/
abbrev budgetMax : Nat := 8000

/-- The cap of E_total in Wh (R115). -/
abbrev energyCap : Nat := 4000000

/-- The least distance between an early round and the round before it, in ms (R52). -/
abbrev roundSpacing : Nat := 250

/-- The longest gap between two bytes of a link frame, in ms (R161). -/
abbrev interByteGap : Nat := 20

/-- 2^32, the modulus of the site clock and of four-byte fields. -/
abbrev word32 : Nat := 4294967296

/-- The removal figure of a change to ISLAND_SUPPORT (R92). -/
abbrev islandFigure : Nat := 2147483647

/-- The points at which the manual gives a field but not its value. -/
inductive OpenPoint where
  /-- The kind byte of a reply to a kind of 0x80 or above: R163's sum does not fit the byte (log 5). -/
  | replyKind (kind : Byte)
  /-- A feeder room below 0 in the two unsigned bytes of ALLOC_STATUS (log 6). -/
  | negativeRoom (room : Int)
  /-- The room and allocated sum of a feeder before the first result, in ALLOC_STATUS (log 6). -/
  | absentFeederFigure (feeder : Nat)
  /-- A total of the last result when there is none, in ALLOC_STATUS (log 6). -/
  | absentTotal (field : Nat)
  /-- Whole seconds of a remaining time that is not a whole number of seconds (log 7). -/
  | secondsRemaining (ms : Nat)
  /-- The state of charge of a battery copy or record without a value, in a status reply (log 6). -/
  | absentPerMille
  /-- A W figure of a status reply that does not fit signed 32 bits (log 6). -/
  | wideWatts (w : Int)
  deriving DecidableEq, Repr

/-- The free value at a point the manual leaves open. No body: every claim holds whatever it is. -/
opaque openValue : OpenPoint → Nat

/-- The bytes of a tariff slot whose erasing or writing was cut short, or whose verify failed: R125 leaves
"whatever has been written to it". The first argument is a counter of State, so every cut is a fresh draw. -/
opaque cutShortByte : Nat → Nat → Byte

end Sys2Proof.Config
end

