-- ==== Sys2Proof/Machine/Bytes.lean ====
section
/-! DEFINITION. Byte order, two's complement and the CRC-16: the encodings of R174 and R175. -/

namespace Sys2Proof.Machine

/-- A number in `k` bytes, least significant first (R174); a number that needs more bytes is cut to its low ones. -/
def le : Nat → Nat → List Byte
  | 0, _ => []
  | k + 1, n => BitVec.ofNat 8 (n % 256) :: le k (n / 256)

/-- The number that bytes stand for, least significant first (R174). -/
def ofLe : List Byte → Nat
  | [] => 0
  | b :: rest => b.toNat + 256 * ofLe rest

/-- The unsigned field of `k` bytes at an offset of a payload. -/
def field (payload : List Byte) (offset k : Nat) : Nat := ofLe ((payload.drop offset).take k)

/-- A 32-bit field read as two's complement (R174). -/
def signed32 (n : Nat) : Int := if n < 2147483648 then (n : Int) else (n : Int) - 4294967296

/-- The signed W field of four bytes at an offset of a report. -/
def wattsField (payload : List Byte) (offset : Nat) : Int := signed32 (field payload offset 4)

/-- A W quantity in four bytes, two's complement (R174, R179); one that does not fit is a free value (log 6). -/
def watts (w : Int) : List Byte :=
  if -2147483648 ≤ w ∧ w ≤ 2147483647 then le 4 (w % 4294967296).toNat
  else le 4 (Config.openValue (.wideWatts w))

/-- Yes is 1, no is 0 (R176). -/
def yesNo (b : Bool) : Byte := if b then 1 else 0

/-- One byte of a small number. -/
def byte (n : Nat) : Byte := BitVec.ofNat 8 n

/-- A set in one byte, bit 0 for the first member (R174). -/
def bits : List Bool → Nat
  | [] => 0
  | b :: rest => (if b then 1 else 0) + 2 * bits rest

/-- A text field: its length byte and its bytes, or 0xFF when absent (R174). -/
def textBytes : Option (List Byte) → List Byte
  | none => [0xFF#8]
  | some t => byte t.length :: t

/-- A list of variable length: a count byte and the entries (R179). -/
def counted {α : Type} (entry : α → List Byte) (xs : List α) : List Byte := byte xs.length :: xs.flatMap entry

/-- One bit of the polynomial x^16 + x^12 + x^5 + 1, most significant bit first (R175). -/
def crcBit (c : Check) : Check := if c.getLsbD 15 then (c <<< 1) ^^^ 0x1021#16 else c <<< 1

/-- One byte into the register (R175). -/
def crcByte (c : Check) (b : Byte) : Check :=
  crcBit (crcBit (crcBit (crcBit (crcBit (crcBit (crcBit (crcBit (c ^^^ (b.setWidth 16 <<< 8)))))))))

/-- The CRC-16 of R175: register from 0xFFFF, no final inversion. -/
def crc16 (bytes : List Byte) : Check := bytes.foldl crcByte 0xFFFF#16

/-- A check's two bytes, low byte first (section 11.2). -/
def checkBytes (c : Check) : List Byte := le 2 c.toNat

end Sys2Proof.Machine
end

