-- ==== Sys2Proof/Machine/State.lean ====
section
/-! DEFINITION. The state of the DW32, block by block, as plain data, and its value after reset.

A table with a fixed number of places is a `Vector`; place 0 belongs to number 1 where the manual numbers from 1
(`nth` and `put` of Machine/Ops.lean make that step once). Every timer is the run time of its expiry in ms, or
`none` when it is stopped. -/

namespace Sys2Proof.Machine

/-! ### Names -/

/-- R165. -/
inductive PartState where
  | setup | live
  deriving DecidableEq, Repr

/-- Section 2.2. -/
inductive SiteState where
  | none | starting | normal | island | restoring
  deriving DecidableEq, Repr

/-- R3. -/
inductive PortState where
  | free | inSession | waiting | blocked
  deriving DecidableEq, Repr

/-- R1. -/
inductive PortClass where
  | ac1 | ac3 | dc
  deriving DecidableEq, Repr

/-- Section 1.4. -/
inductive SessionState where
  | plugged | active | dormant | held | closing | pricing | waitQueue
  deriving DecidableEq, Repr

/-- Section 1.4; absent before authorization. -/
inductive Authorizer where
  | site | till | free
  deriving DecidableEq, Repr

/-- R15. -/
inductive HoldReason where
  | island | siteHold | fault | chargerLost
  deriving DecidableEq, Repr

/-- R62. -/
inductive SessionClass where
  | normal | high | urgent
  deriving DecidableEq, Repr

/-- R90. -/
inductive ChargerMode where
  | lockout | pause | run
  deriving DecidableEq, Repr

/-- R90. -/
inductive BatteryCommand where
  | idle
  | charge (w : Nat)
  | discharge (w : Nat)
  | islandSupport
  deriving DecidableEq, Repr

/-- R28, R180. -/
inductive BatteryState where
  | ready | fault | islanded
  deriving DecidableEq, Repr

/-- R90: the command a unit is given or has confirmed. An inverter without a rated power has no limit to name. -/
inductive Command where
  | charger (mode : ChargerMode) (setpoint : Nat)
  | battery (c : BatteryCommand)
  | inverter (limit : Option Nat)
  | meter
  deriving DecidableEq, Repr

/-- R97. -/
inductive Health where
  | unpolled | ok | missed | lost
  deriving DecidableEq, Repr

/-- R120. -/
inductive SlotState where
  | empty | valid | bad | busy
  deriving DecidableEq, Repr

/-- Chapter 7. -/
inductive StoreKind where
  | program | erase
  deriving DecidableEq, Repr

/-- R124. -/
inductive StorePhase where
  | erasing | writing | verifying
  deriving DecidableEq, Repr

/-- R131. -/
inductive StoreResult where
  | ok | failed | aborted
  deriving DecidableEq, Repr

/-- R118. -/
inductive DiscrepancyKind where
  | minor | major
  deriving DecidableEq, Repr

/-- R118. -/
inductive LockState where
  | empty | holdingMinor | holdingMajor
  deriving DecidableEq, Repr

/-- R78. -/
inductive DispatchCase where
  | peak | surplus | topUp | balanced | island | restoring
  deriving DecidableEq, Repr

/-- R78. -/
inductive DispatchTrigger where
  | result | siteState | policy | battery
  deriving DecidableEq, Repr

/-- R171, in the order of the kind numbers. -/
inductive NoticeKind where
  | receiptsPending | queueHigh | queueFull | sessionChange | sessionAbandoned | tableFull | unitLost | unitBack
  | importOverrun | storeOverload | gridLost | gridBack | meterDiscrepancy | tariffDone | urgentSession | chargerFault
  deriving DecidableEq, Repr

/-- R171. -/
inductive Route where
  | none | site | till | both
  deriving DecidableEq, Repr

/-- R163, in the order of the status codes. -/
inductive Status where
  | ok | accepted | unknownKind | notPermitted | badLength | outOfRange | wrongState | notLive | inUse | busy | supply
  | full | empty | notFound | tooLate | duplicate | noMark | noTariff | badConfig
  deriving DecidableEq, Repr

/-! ### Link Controller (chapter 10) -/

/-- A reply: the kind byte it is sent with, the tag of its request, its status and what follows the status. -/
structure Reply where
  kind : Byte
  tag : Byte
  status : Status
  body : List Byte
  deriving DecidableEq, Repr

/-- A notice frame's content (R173). -/
structure Notice where
  kind : NoticeKind
  count : Nat
  data : Nat
  deriving DecidableEq, Repr

/-- A frame a transmitter sends. -/
inductive LinkFrame where
  | reply (r : Reply)
  | notice (n : Notice)
  deriving DecidableEq, Repr

/-- Where the frame being sent came from; `detached` when a RESTART emptied its place meanwhile (R169). -/
inductive TransmitSource where
  | slot | holder | notice | detached
  deriving DecidableEq, Repr

/-- R163. -/
inductive Transmitter where
  | idle
  | sending (source : TransmitSource) (frame : LinkFrame)
  deriving DecidableEq, Repr

/-- R161: COLLECTING holds the bytes received since the start byte and the inter-byte timer's expiry. -/
inductive Receiver where
  | hunting
  | collecting (gathered : List Byte) (expiry : Nat)
  deriving DecidableEq, Repr

/-- A pending entry of one notice kind (R172); a clear entry is `none`. -/
structure PendingNotice where
  count : Nat
  data : Nat
  deriving DecidableEq, Repr

/-- One link: receiver, receive slot (`none` is FREE), refusal holder, transmitter, pending notices. -/
structure LinkPort where
  receiver : Receiver
  slot : Option Reply
  holder : Option Reply
  transmitter : Transmitter
  notices : Vector (Option PendingNotice) 16
  deriving DecidableEq, Repr

/-- R171. -/
structure NoticeRoute where
  route : Route
  priority : Nat
  deriving DecidableEq, Repr

/-- R170; `nextTick` is the run time of the next advance. -/
structure SiteClock where
  time : Nat
  isSet : Bool
  nextTick : Nat
  deriving DecidableEq, Repr

structure LinkController where
  part : PartState
  routes : Vector NoticeRoute 16
  tillGrant : Bool
  tillFirst : Nat
  tillLast : Nat
  clock : SiteClock
  site : LinkPort
  till : LinkPort
  deriving DecidableEq, Repr

/-! ### Field Link Controller (chapter 5) -/

/-- R88. -/
structure FieldUnit where
  present : Bool
  address : Option Nat
  rated : Option Nat
  health : Health
  misses : Nat
  lastReport : Option Nat
  target : Command
  delivered : Command
  deriving DecidableEq, Repr

/-- R100. -/
structure UrgentEntry where
  unit : Nat
  figure : Nat
  deriving DecidableEq, Repr

/-- R95: the poll in flight, the command it carries, the reply timeout it was begun with (R96), and the reply
timer, which is `none` until the last byte of the poll has been sent. -/
structure Transaction where
  unit : Nat
  command : Command
  urgent : Bool
  timeout : Nat
  replyTimer : Option Nat
  deriving DecidableEq, Repr

/-- `reports` numbers the valid replies, so that a report and the reading it carried are known for one (log 8). -/
structure FieldLinkController where
  units : Vector FieldUnit 39
  urgent : List UrgentEntry
  decrease : List Nat
  cycle : List Nat
  position : Nat
  transaction : Option Transaction
  replyTimeout : Nat
  reports : Nat
  deriving DecidableEq, Repr

/-! ### Site Balance Unit (chapter 2) -/

/-- R28: a measurement record; one without a value is stale. -/
structure Measurement (α : Type) where
  value : Option α
  arrival : Option Nat
  fresh : Bool
  timer : Option Nat
  deriving DecidableEq, Repr

structure GridValues where
  power : Int
  present : Bool
  deriving DecidableEq, Repr

structure InverterValues where
  output : Nat
  available : Nat
  curtailed : Bool
  deriving DecidableEq, Repr

structure BatteryValues where
  soc : Nat
  power : Int
  maxCharge : Nat
  maxDischarge : Nat
  state : BatteryState
  deriving DecidableEq, Repr

/-- R38: the setpoint the reservation started at, its present value, and the fallback hold timer. -/
structure Phantom where
  start : Nat
  current : Nat
  timer : Option Nat
  deriving DecidableEq, Repr

/-- R41. -/
structure SiteSettings where
  importLimit : Nat
  margin : Nat
  exportLimit : Nat
  storePeak : Nat
  fallback : Nat
  deriving DecidableEq, Repr

/-- R44. -/
structure Mix where
  solar : Nat
  battery : Nat
  grid : Nat
  deriving DecidableEq, Repr

/-- R46. -/
structure BalanceFlags where
  storeStale : Bool
  pvPartial : Bool
  batteryStale : Bool
  gridStale : Bool
  storeOverload : Bool
  importOverrun : Bool
  deriving DecidableEq, Repr

/-- R46. -/
structure BalanceRecord where
  siteState : SiteState
  budget : Nat
  budgetW : Int
  phantomTotal : Nat
  phantomFeeder : Vector Nat 4
  storeEff : Nat
  pvEff : Nat
  batteryEff : Nat
  mix : Mix
  flags : BalanceFlags
  deriving DecidableEq, Repr

structure SiteBalanceUnit where
  settings : SiteSettings
  siteState : SiteState
  restoreTimer : Option Nat
  grid : Measurement GridValues
  overrun : Bool
  store : Measurement Nat
  inverters : Vector (Measurement InverterValues) 4
  battery : Measurement BatteryValues
  chargers : Vector Nat 32
  phantoms : Vector (Option Phantom) 32
  allowance : Nat
  record : BalanceRecord
  staleTime : Nat
  restoreDelay : Nat
  fallbackHold : Nat
  deriving DecidableEq, Repr

/-! ### Battery Dispatch Unit (chapter 4) -/

/-- R73. -/
structure BatteryPolicy where
  hardFloor : Nat
  softReserve : Nat
  fullLimit : Nat
  dischargeCap : Nat
  chargeCap : Nat
  topUp : Nat
  deriving DecidableEq, Repr

/-- R78. -/
structure DispatchRecord where
  basis : Option Nat
  trigger : DispatchTrigger
  case : DispatchCase
  net : Int
  limit : Int
  surplus : Option Int
  charge : Option Int
  remaining : Option Int
  curtail : Option Nat
  target : BatteryCommand
  limits : List (Nat × Nat)
  deriving DecidableEq, Repr

/-- R72; `basis` is the round number of the last result, which the dispatch record repeats. -/
structure BatteryDispatchUnit where
  policy : BatteryPolicy
  copy : Option BatteryValues
  fresh : Bool
  allowance : Nat
  urgent : Bool
  lastTotal : Option Nat
  basis : Option Nat
  record : Option DispatchRecord
  target : BatteryCommand
  limits : Vector (Option Nat) 4
  deriving DecidableEq, Repr

/-! ### Session Controller (chapter 1) -/

/-- R1; an absent port has no entry. -/
structure PortEntry where
  feeder : Nat
  cls : PortClass
  ratedMax : Nat
  minimum : Nat
  address : Nat
  freeVend : Bool
  deriving DecidableEq, Repr

/-- R2, the Session Controller's fields; `applied` is the number of the last report whose reading-applied event
it has taken (R113). The delivered setpoint is the charger unit's delivered command. -/
structure PortRecord where
  state : Option PortState
  fault : Bool
  acceptance : Option Int
  applied : Option Nat
  deriving DecidableEq, Repr

structure Holds where
  island : Bool
  siteHold : Bool
  fault : Bool
  chargerLost : Bool
  deriving DecidableEq, Repr

structure SessionFlags where
  clamped : Bool
  estimated : Bool
  timeUnset : Bool
  gridLost : Bool
  chargerLost : Bool
  stopped : Bool
  deriving DecidableEq, Repr

structure PurchaseLink where
  reference : List Byte
  amount : Nat
  deriving DecidableEq, Repr

/-- R19: the final report a session in CLOSING has taken. -/
structure FinalReport where
  report : Nat
  connected : Bool
  hasReading : Bool
  deriving DecidableEq, Repr

/-- Section 1.4. `handedOver` says the final reading has been taken and the port released, while the Receipt
Builder has not yet taken the hand-over (log 9). `nextIdle` is the run time of the next idle second. -/
structure Session where
  number : Nat
  port : Nat
  state : SessionState
  holds : Holds
  customer : Text
  authorizer : Option Authorizer
  slot : Option Nat
  created : Nat
  authorized : Option Nat
  ended : Option Nat
  departure : Option Nat
  demand : Nat
  effMin : Nat
  allocation : Nat
  highest : Nat
  deferral : Nat
  cls : SessionClass
  meterStart : Option Nat
  total : Nat
  solarAcc : Nat
  batteryAcc : Nat
  idle : Nat
  links : List PurchaseLink
  flags : SessionFlags
  authorizationTimer : Option Nat
  dormantTimer : Option Nat
  closingTimer : Option Nat
  nextIdle : Option Nat
  final : Option FinalReport
  handedOver : Bool
  deriving DecidableEq, Repr

/-- The sessions stand in the order of their creation. -/
structure SessionController where
  ports : Vector (Option PortEntry) 32
  records : Vector PortRecord 32
  table : List Session
  waiting : List Nat
  counter : Nat
  authorizationTimeout : Nat
  dormantDelay : Nat
  closingTimeout : Nat
  deriving DecidableEq, Repr

/-! ### Power Allocator (chapter 3) -/

/-- R64. -/
structure CandidateEntry where
  session : Nat
  port : Nat
  allocation : Nat
  count : Nat
  cls : SessionClass
  admitted : Bool
  deriving DecidableEq, Repr

/-- R65. -/
structure PortTarget where
  port : Nat
  session : Option Nat
  setpoint : Nat
  deriving DecidableEq, Repr

/-- A configured feeder in a result (R64). -/
structure FeederFigure where
  feeder : Nat
  room : Int
  allocated : Nat
  deriving DecidableEq, Repr

/-- R64. -/
structure AllocationResult where
  round : Nat
  siteState : SiteState
  budget : Nat
  phantomTotal : Nat
  feeders : List FeederFigure
  entries : List CandidateEntry
  targets : List PortTarget
  total : Nat
  unspent : Nat
  deferred : Nat
  urgent : Nat
  deriving DecidableEq, Repr

/-- R50, R48. -/
structure PowerAllocator where
  high : Nat
  urgent : Nat
  period : Nat
  feeders : Vector (Option Nat) 4
  round : Nat
  lastRun : Option Nat
  periodTimer : Option Nat
  pending : Bool
  spacing : Option Nat
  last : Option AllocationResult
  applied : Bool
  deriving DecidableEq, Repr

/-! ### Metering Unit (chapter 6) -/

/-- R106. -/
structure PortMeter where
  last : Option Nat
  arrival : Option Nat
  unbilled : Nat
  deriving DecidableEq, Repr

/-- R118. -/
structure Discrepancy where
  kind : DiscrepancyKind
  port : Nat
  session : Option Nat
  reading : Nat
  last : Nat
  bound : Option Nat
  time : Nat
  deriving DecidableEq, Repr

/-- R118. -/
structure DiscrepancyLog where
  record : Option Discrepancy
  lock : LockState
  minor : Nat
  major : Nat
  deriving DecidableEq, Repr

structure MeteringUnit where
  meters : Vector PortMeter 32
  log : DiscrepancyLog
  deriving DecidableEq, Repr

/-! ### Tariff Store (chapter 7) -/

/-- A slot: its 37 bytes of non-volatile memory, its state and its use count. -/
structure TariffSlot where
  bytes : List Byte
  state : SlotState
  uses : Nat
  deriving DecidableEq, Repr

/-- The operation in flight; `image` is the slot content it intends (R124). -/
structure StoreOperation where
  slot : Nat
  kind : StoreKind
  image : List Byte
  phase : StorePhase
  deriving DecidableEq, Repr

structure TariffStore where
  slots : Vector TariffSlot 8
  active : Option Nat
  operation : Option StoreOperation
  siteCopy : SiteState
  deriving DecidableEq, Repr

/-! ### Receipt Builder (chapter 8) and Receipt Queue (chapter 9) -/

/-- A figure for each of the three sources. -/
structure BySource where
  solar : Nat
  battery : Nat
  grid : Nat
  deriving DecidableEq, Repr

/-- R142. -/
structure Receipt where
  number : Nat
  session : Nat
  port : Nat
  authorizer : Option Authorizer
  customer : Text
  slot : Nat
  tariffId : Nat
  label : List Byte
  created : Nat
  authorized : Nat
  ended : Nat
  priced : Nat
  total : Nat
  energy : BySource
  rate : BySource
  links : List PurchaseLink
  purchases : Nat
  earned : Nat
  applied : Nat
  taken : BySource
  billed : BySource
  line : BySource
  idle : Nat
  billableMinutes : Nat
  idleFee : Nat
  amount : Nat
  flags : SessionFlags
  deriving DecidableEq, Repr

/-- R133; `ringPosition` is the entry to be written next, 0 to 15. -/
structure ReceiptBuilder where
  next : Nat
  pricing : List Nat
  waiting : List Receipt
  ring : Vector (Option Receipt) 16
  ringPosition : Nat
  deriving DecidableEq, Repr

/-- R149: `read` is the number of retained receipts before the read position. -/
structure ReceiptQueue where
  retained : List Receipt
  read : Nat
  mark : Bool
  notify : Nat
  high : Nat
  deriving DecidableEq, Repr

/-! ### Events sent by one block and not yet taken by another (log 2) -/

/-- R99, to the Session Controller. -/
structure ChargerReport where
  port : Nat
  connected : Bool
  acceptance : Int
  power : Int
  fault : Bool
  hasReading : Bool
  report : Nat
  deriving DecidableEq, Repr

/-- R99, to the Metering Unit; no value when the report marks its reading unavailable. -/
structure MeterReading where
  port : Nat
  value : Option Nat
  arrival : Nat
  report : Nat
  deriving DecidableEq, Repr

/-- R107 step 7. -/
structure ReadingApplied where
  port : Nat
  value : Option Nat
  arrival : Nat
  report : Nat
  deriving DecidableEq, Repr

/-- R98. -/
structure HealthChange where
  unit : Nat
  before : Health
  after : Health
  deriving DecidableEq, Repr

/-- R33. -/
structure SiteChange where
  before : SiteState
  after : SiteState
  deriving DecidableEq, Repr

/-- A report on its way to the Site Balance Unit, values as received (R99). -/
inductive ReportValues where
  | charger (power : Int)
  | grid (power : Int) (present : Bool)
  | store (load : Int)
  | inverter (output available : Int) (curtailed : Bool)
  | battery (soc : Nat) (power maxCharge maxDischarge : Int) (state : BatteryState)
  deriving DecidableEq, Repr

structure Report where
  unit : Nat
  values : ReportValues
  deriving DecidableEq, Repr

/-- What the allocator sends the Session Controller, in order (R63). -/
inductive AllocatorMessage where
  | result (r : AllocationResult)
  | reclassify (high urgent : Nat)
  deriving DecidableEq, Repr

/-- R12, R91. -/
structure ChargerTarget where
  port : Nat
  mode : ChargerMode
  setpoint : Nat
  deriving DecidableEq, Repr

/-- R86; `follows` is the round of the result it follows, if it follows one. -/
structure Handover where
  battery : Option BatteryCommand
  limits : List (Nat × Nat)
  follows : Option Nat
  deriving DecidableEq, Repr

/-- Each list oldest first; a `Nat` counts events that carry nothing. -/
structure Events where
  chargerReports : List ChargerReport
  chargerHealth : List HealthChange
  readingsApplied : List ReadingApplied
  allocatorMessages : List AllocatorMessage
  siteToSessions : List SiteChange
  activations : List Nat
  reports : List Report
  unitHealth : List HealthChange
  allowances : List Nat
  earlyRequests : Nat
  resultsApplied : Nat
  resultsToField : List AllocationResult
  chargerTargets : List ChargerTarget
  handovers : List Handover
  resultsToDispatch : List AllocationResult
  batteryReports : List ReportValues
  freshness : List Bool
  siteToDispatch : List SiteChange
  readings : List MeterReading
  siteToStore : List SiteChange
  handOvers : List Nat
  storeFree : Nat
  rooms : Nat
  deriving DecidableEq, Repr

/-! ### The whole part -/

/-- `pending` is the queue of commands; `runTime` is in ms and has no bound (DESIGN CHOICE,
log 15); `draws` counts the free values drawn (log 4). -/
structure State where
  pending : List Instr
  runTime : Nat
  draws : Nat
  links : LinkController
  field : FieldLinkController
  balance : SiteBalanceUnit
  dispatch : BatteryDispatchUnit
  sessions : SessionController
  allocator : PowerAllocator
  metering : MeteringUnit
  store : TariffStore
  builder : ReceiptBuilder
  queue : ReceiptQueue
  events : Events
  deriving DecidableEq, Repr

/-- The DW32 has no fault that stops it: every command of the table has a next state in every state. Nothing
raises a fault; that the type is empty is safe, since no claim can be about a fault. -/
inductive Fault where
  deriving DecidableEq, Repr

/-- Why a command has no meaning. -/
inductive Refusal where
  /-- Raised by an arm of `exec` whose command has not been given its meaning; no arm does. Safe: the model stops
  where the part goes on. -/
  | notModelled (mnemonic : String)
  deriving DecidableEq, Repr

/-! ### Values after power-on and RESTART -/

def NoticeRoute.reset : NoticeRoute := { route := .site, priority := 4 }

/-- R161, R162, R172. DESIGN CHOICE (log 42): the transmitter is IDLE after power-on, and POWER_ON_RESET cuts a frame being
sent. -/
def LinkPort.reset : LinkPort :=
  { receiver := .hunting, slot := none, holder := none, transmitter := .idle, notices := Vector.replicate 16 none }

/-- R161, R162, R165, R166, R170, R171, R172. -/
def LinkController.reset : LinkController :=
  { part := .setup, routes := Vector.replicate 16 NoticeRoute.reset, tillGrant := false, tillFirst := 1, tillLast := 32,
    clock := { time := 0, isSet := false, nextTick := 1000 }, site := LinkPort.reset, till := LinkPort.reset }

/-- R88: the reset target and delivered command of a unit index. -/
def FieldUnit.resetCommand (unit : Nat) : Command :=
  if unit ≤ 32 then .charger .lockout 0
  else if unit ≤ 34 then .meter
  else if unit ≤ 38 then .inverter none
  else .battery .idle

/-- R88. -/
def FieldUnit.reset (unit : Nat) : FieldUnit :=
  { present := false, address := none, rated := none, health := .unpolled, misses := 0, lastReport := none,
    target := FieldUnit.resetCommand unit, delivered := FieldUnit.resetCommand unit }

/-- R88, R93, R94, R96, R101. -/
def FieldLinkController.reset : FieldLinkController :=
  { units := ⟨((List.range' 1 39).map FieldUnit.reset).toArray, by simp⟩, urgent := [], decrease := [], cycle := [],
    position := 0, transaction := none, replyTimeout := 40, reports := 0 }

/-- R28. -/
def Measurement.reset {α : Type} : Measurement α := { value := none, arrival := none, fresh := false, timer := none }

/-- R46. -/
def BalanceRecord.reset : BalanceRecord :=
  { siteState := .none, budget := 0, budgetW := 0, phantomTotal := 0, phantomFeeder := Vector.replicate 4 0,
    storeEff := 0, pvEff := 0, batteryEff := 0, mix := { solar := 0, battery := 0, grid := 1024 },
    flags := { storeStale := false, pvPartial := false, batteryStale := false, gridStale := false,
               storeOverload := false, importOverrun := false } }

/-- R28, R32, R37, R41, R46. -/
def SiteBalanceUnit.reset : SiteBalanceUnit :=
  { settings := { importLimit := 100, margin := 5, exportLimit := 0, storePeak := 100, fallback := 42 },
    siteState := .none, restoreTimer := none, grid := Measurement.reset, overrun := false, store := Measurement.reset,
    inverters := Vector.replicate 4 Measurement.reset, battery := Measurement.reset, chargers := Vector.replicate 32 0,
    phantoms := Vector.replicate 32 none, allowance := 0, record := BalanceRecord.reset, staleTime := 6,
    restoreDelay := 60, fallbackHold := 60 }

/-- R72, R73. -/
def BatteryDispatchUnit.reset : BatteryDispatchUnit :=
  { policy := { hardFloor := 200, softReserve := 400, fullLimit := 950, dischargeCap := 50000, chargeCap := 50000,
                topUp := 10000 },
    copy := none, fresh := false, allowance := 0, urgent := false, lastTotal := none, basis := none, record := none,
    target := .idle, limits := Vector.replicate 4 none }

/-- R2. -/
def PortRecord.reset : PortRecord := { state := none, fault := false, acceptance := none, applied := none }

/-- R2, R4, R6, R26, R27. -/
def SessionController.reset : SessionController :=
  { ports := Vector.replicate 32 none, records := Vector.replicate 32 PortRecord.reset, table := [], waiting := [],
    counter := 1, authorizationTimeout := 180, dormantDelay := 120, closingTimeout := 30 }

/-- R48, R50. -/
def PowerAllocator.reset : PowerAllocator :=
  { high := 4, urgent := 8, period := 2, feeders := Vector.replicate 4 none, round := 0, lastRun := none,
    periodTimer := none, pending := false, spacing := none, last := none, applied := true }

/-- R106. -/
def PortMeter.reset : PortMeter := { last := none, arrival := none, unbilled := 0 }

/-- R118. -/
def DiscrepancyLog.reset : DiscrepancyLog := { record := none, lock := .empty, minor := 0, major := 0 }

/-- R106, R118. -/
def MeteringUnit.reset : MeteringUnit := { meters := Vector.replicate 32 PortMeter.reset, log := DiscrepancyLog.reset }

/-- R177: 37 bytes of 0xFF. -/
def erasedPattern : List Byte := List.replicate 37 0xFF#8

/-- R120, R121. DESIGN CHOICE (log 10): the manual does not say what the slots hold when the part is first powered;
the model's first slots are erased, and the examination makes them EMPTY. -/
def TariffStore.reset : TariffStore :=
  { slots := Vector.replicate 8 { bytes := erasedPattern, state := .empty, uses := 0 }, active := none,
    operation := none, siteCopy := .none }

/-- R133. -/
def ReceiptBuilder.reset : ReceiptBuilder :=
  { next := 1, pricing := [], waiting := [], ring := Vector.replicate 16 none, ringPosition := 0 }

/-- R149. -/
def ReceiptQueue.reset : ReceiptQueue := { retained := [], read := 0, mark := false, notify := 1, high := 56 }

/-- Nothing is on its way between the blocks. -/
def Events.reset : Events :=
  { chargerReports := [], chargerHealth := [], readingsApplied := [], allocatorMessages := [], siteToSessions := [],
    activations := [], reports := [], unitHealth := [], allowances := [], earlyRequests := 0, resultsApplied := 0,
    resultsToField := [], chargerTargets := [], handovers := [], resultsToDispatch := [], batteryReports := [],
    freshness := [], siteToDispatch := [], readings := [], siteToStore := [], handOvers := [], storeFree := 0,
    rooms := 0 }

/-- The part right after power-on reset, with no command waiting. -/
def State.reset : State :=
  { pending := [], runTime := 0, draws := 0, links := LinkController.reset, field := FieldLinkController.reset,
    balance := SiteBalanceUnit.reset, dispatch := BatteryDispatchUnit.reset, sessions := SessionController.reset,
    allocator := PowerAllocator.reset, metering := MeteringUnit.reset, store := TariffStore.reset,
    builder := ReceiptBuilder.reset, queue := ReceiptQueue.reset, events := Events.reset }

end Sys2Proof.Machine
end

