-- ==== Sys2Proof/Machine/Ops.lean ====
section
/-! DEFINITION. The operations every block's commands share: tables, timers, notices, the transmitters, sending an
event, and serving a request. -/

namespace Sys2Proof.Machine

/-! ### Tables numbered from 1 -/

/-- Entry `i` of a table numbered from 1; `d` outside it. -/
def nth {α : Type} {n : Nat} (v : Vector α n) (d : α) (i : Nat) : α :=
  if i = 0 then d else (v[i - 1]?).getD d

/-- Replace entry `i` of a table numbered from 1; nothing outside it. -/
def put {α : Type} {n : Nat} (v : Vector α n) (i : Nat) (x : α) : Vector α n :=
  if i = 0 then v else v.setIfInBounds (i - 1) x

/-- The port numbers 1 to 32. -/
def portNumbers : List Nat := List.range' 1 32

/-- The oldest element that meets the test, and the list without it. -/
def takeFirst {α : Type} (p : α → Bool) : List α → Option (α × List α)
  | [] => none
  | x :: rest => if p x then some (x, rest) else (takeFirst p rest).map fun r => (r.1, x :: r.2)

/-! ### One block of the state replaced -/

def State.setLinks (s : State) (x : LinkController) : State := { s with links := x }
def State.setField (s : State) (x : FieldLinkController) : State := { s with field := x }
def State.setBalance (s : State) (x : SiteBalanceUnit) : State := { s with balance := x }
def State.setDispatch (s : State) (x : BatteryDispatchUnit) : State := { s with dispatch := x }
def State.setSessions (s : State) (x : SessionController) : State := { s with sessions := x }
def State.setAllocator (s : State) (x : PowerAllocator) : State := { s with allocator := x }
def State.setMetering (s : State) (x : MeteringUnit) : State := { s with metering := x }
def State.setStore (s : State) (x : TariffStore) : State := { s with store := x }
def State.setBuilder (s : State) (x : ReceiptBuilder) : State := { s with builder := x }
def State.setQueue (s : State) (x : ReceiptQueue) : State := { s with queue := x }
def State.setEvents (s : State) (x : Events) : State := { s with events := x }

/-- A timer's expiry comes no earlier than its run time: the run time is at least the expiry (log 3). -/
def State.reach (s : State) (expiry : Nat) : State := { s with runTime := max s.runTime expiry }

/-- The expiry of a timer started now with a duration in seconds. -/
def State.after (s : State) (seconds : Nat) : Nat := s.runTime + 1000 * seconds

/-! ### The two links -/

def LinkController.port (c : LinkController) : Link → LinkPort
  | .site => c.site
  | .till => c.till

def LinkController.setPort (c : LinkController) (l : Link) (p : LinkPort) : LinkController :=
  match l with
  | .site => { c with site := p }
  | .till => { c with till := p }

/-! ### Notices (R171 to R173) -/

/-- The fixed kind number, 1 to 16 (R171). -/
def NoticeKind.number : NoticeKind → Nat
  | .receiptsPending => 1
  | .queueHigh => 2
  | .queueFull => 3
  | .sessionChange => 4
  | .sessionAbandoned => 5
  | .tableFull => 6
  | .unitLost => 7
  | .unitBack => 8
  | .importOverrun => 9
  | .storeOverload => 10
  | .gridLost => 11
  | .gridBack => 12
  | .meterDiscrepancy => 13
  | .tariffDone => 14
  | .urgentSession => 15
  | .chargerFault => 16

/-- The sixteen kinds in number order. -/
def noticeKinds : List NoticeKind :=
  [.receiptsPending, .queueHigh, .queueFull, .sessionChange, .sessionAbandoned, .tableFull, .unitLost, .unitBack,
   .importOverrun, .storeOverload, .gridLost, .gridBack, .meterDiscrepancy, .tariffDone, .urgentSession, .chargerFault]

/-- A route of SITE or BOTH reaches the site link, one of TILL or BOTH the till link (R172). -/
def Route.reaches : Route → Link → Bool
  | .none, _ => false
  | .site, .site => true
  | .site, .till => false
  | .till, .site => false
  | .till, .till => true
  | .both, _ => true

def LinkController.route (c : LinkController) (k : NoticeKind) : NoticeRoute := nth c.routes NoticeRoute.reset k.number

/-- A link's pending entry of a kind. -/
def LinkPort.entry (p : LinkPort) (k : NoticeKind) : Option PendingNotice := nth p.notices none k.number

/-- R172: a clear entry becomes pending with count 1; a pending one counts the raise, to 255 at most, and takes its
data. -/
def PendingNotice.raised (e : Option PendingNotice) (data : Nat) : PendingNotice :=
  match e with
  | none => { count := 1, data := data }
  | some n => { count := min 255 (n.count + 1), data := data }

def LinkPort.raise (p : LinkPort) (k : NoticeKind) (data : Nat) : LinkPort :=
  { p with notices := put p.notices k.number (some (PendingNotice.raised (p.entry k) data)) }

/-- R172: a raise acts on the entry of each link the kind's route reaches. -/
def LinkController.raise (c : LinkController) (k : NoticeKind) (data : Nat) : LinkController :=
  { c with
    site := if (c.route k).route.reaches .site then c.site.raise k data else c.site
    till := if (c.route k).route.reaches .till then c.till.raise k data else c.till }

/-- A raise of a notice kind by any block. -/
def State.raise (s : State) (k : NoticeKind) (data : Nat) : State := s.setLinks (s.links.raise k data)

/-! ### The transmitter (R163, R173) -/

/-- Of the pending kinds met so far, the one to send: a later kind replaces it only with a higher priority, so among
equal priorities the lowest kind number stands (R173). -/
def LinkController.better (c : LinkController) (p : LinkPort) (best : Option NoticeKind) (k : NoticeKind) :
    Option NoticeKind :=
  match p.entry k, best with
  | none, _ => best
  | some _, none => some k
  | some _, some b => if (c.route b).priority < (c.route k).priority then some k else some b

/-- The notice kind a link sends next, if any is pending (R173). -/
def LinkController.nextNotice (c : LinkController) (p : LinkPort) : Option NoticeKind :=
  noticeKinds.foldl (c.better p) none

/-- What an IDLE transmitter does (R163): the slot's reply, else the BUSY reply, else a notice, whose entry becomes
clear as its frame is begun. A transmitter that is SENDING is left alone. -/
def LinkController.begin (c : LinkController) (p : LinkPort) : LinkPort :=
  match p.transmitter with
  | .sending _ _ => p
  | .idle =>
    match p.slot, p.holder, c.nextNotice p with
    | some r, _, _ => { p with transmitter := .sending .slot (.reply r) }
    | none, some r, _ => { p with transmitter := .sending .holder (.reply r) }
    | none, none, some k =>
      match p.entry k with
      | none => p
      | some e =>
        { p with transmitter := .sending .notice (.notice { kind := k, count := e.count, data := e.data }),
                 notices := put p.notices k.number none }
    | none, none, none => p

/-- Both transmitters choose (log 11). -/
def LinkController.settle (c : LinkController) : LinkController := { c with site := c.begin c.site, till := c.begin c.till }

/-- The transmitters choose at the end of an event (log 11). -/
def State.settle (s : State) : State := s.setLinks s.links.settle

/-- The end of every command that acts. -/
def done (s : State) : Host.Outcome State Fault Refusal := .next s.settle

/-- A command whose event does not occur in this state: nothing waits to be taken, or the timer is stopped (log 2). -/
def nothing (s : State) : Host.Outcome State Fault Refusal := .next s

/-! ### Serving a request (R162 to R165) -/

/-- The part states in which a request kind is allowed (R165). -/
inductive Allowed where
  | setupOnly | always | liveOnly
  deriving DecidableEq, Repr

/-- The refusal of a kind the part state does not allow (R165). -/
def Allowed.refusal : Allowed → PartState → Option Status
  | .setupOnly, .live => some .wrongState
  | .liveOnly, .setup => some .notLive
  | _, _ => none

/-- What the owning block makes of a request: the state after it, the status and what follows the status. -/
structure Handled where
  state : State
  status : Status
  body : List Byte
  deriving DecidableEq, Repr

/-- A request refused, with no effect. -/
def refuse (s : State) (status : Status) : Handled := { state := s, status := status, body := [] }

/-- A request taken with a bare OK. -/
def ok (s : State) : Handled := { state := s, status := .ok, body := [] }

/-- A reply's kind: the request's kind with 0x80 added (R163); for a kind of 0x80 or above the sum does not fit the
byte and is a free value (log 5). -/
def replyKind (kind : Byte) : Byte :=
  if kind.toNat < 128 then BitVec.ofNat 8 (kind.toNat + 128) else BitVec.ofNat 8 (Config.openValue (.replyKind kind))

def mkReply (kind tag : Byte) (status : Status) (body : List Byte) : Reply :=
  { kind := replyKind kind, tag := tag, status := status, body := body }

/-- The receiver returns to HUNTING at a frame's completion (R161). -/
def State.frameEnd (s : State) (l : Link) : State :=
  s.setLinks (s.links.setPort l { s.links.port l with receiver := .hunting })

/-- The reply is placed in the receive slot (R162). -/
def State.place (s : State) (l : Link) (r : Reply) : State :=
  s.setLinks (s.links.setPort l { s.links.port l with slot := some r })

/-- R162: a frame that finds the slot HELD is answered BUSY through the refusal holder, or not at all when the holder
is full. -/
def State.refuseBusy (s : State) (l : Link) (kind tag : Byte) : State :=
  match (s.links.port l).holder with
  | some _ => s
  | none => s.setLinks (s.links.setPort l { s.links.port l with holder := some (mkReply kind tag .busy []) })

/-- The checks of R164 from step 2 on, then the owning block. `till` says whether the kind may come from the till,
`grant` is step 5. -/
def answer {α : Type} (l : Link) (till : Bool) (allowed : Allowed) (grant : State → α → Bool)
    (handle : State → α → Handled) (p : Payload α) (s : State) : Handled :=
  if l = .till ∧ till = false then refuse s .notPermitted
  else match p with
    | .misfit => refuse s .badLength
    | .fits f =>
      match allowed.refusal s.links.part with
      | some status => refuse s status
      | none => if l = .till ∧ grant s f = false then refuse s .notPermitted else handle s f

/-- A complete frame of a request kind on a link: refused BUSY when the slot is HELD, executed at once otherwise, its
reply placed in the slot at this same event (R162, R164). -/
def serve {α : Type} (l : Link) (kind tag : Byte) (till : Bool) (allowed : Allowed) (grant : State → α → Bool)
    (handle : State → α → Handled) (p : Payload α) (s : State) : Host.Outcome State Fault Refusal :=
  let s := s.frameEnd l
  match (s.links.port l).slot with
  | some _ => done (s.refuseBusy l kind tag)
  | none =>
    let h := answer l till allowed grant handle p s
    done (h.state.place l (mkReply kind tag h.status h.body))

/-- Step 5 of R164 applies to AUTHORIZE alone. -/
def noGrant {α : Type} (_ : State) (_ : α) : Bool := true

/-! ### Sending an event to another block -/

def State.sendReport (s : State) (r : Report) : State :=
  s.setEvents { s.events with reports := s.events.reports ++ [r] }

def State.sendHealth (s : State) (h : HealthChange) : State :=
  s.setEvents { s.events with unitHealth := s.events.unitHealth ++ [h] }

def State.sendChargerHealth (s : State) (h : HealthChange) : State :=
  s.setEvents { s.events with chargerHealth := s.events.chargerHealth ++ [h] }

def State.sendChargerReport (s : State) (r : ChargerReport) : State :=
  s.setEvents { s.events with chargerReports := s.events.chargerReports ++ [r] }

def State.sendReading (s : State) (r : MeterReading) : State :=
  s.setEvents { s.events with readings := s.events.readings ++ [r] }

def State.sendReadingApplied (s : State) (r : ReadingApplied) : State :=
  s.setEvents { s.events with readingsApplied := s.events.readingsApplied ++ [r] }

def State.sendBatteryReport (s : State) (r : ReportValues) : State :=
  s.setEvents { s.events with batteryReports := s.events.batteryReports ++ [r] }

def State.sendFreshness (s : State) (fresh : Bool) : State :=
  s.setEvents { s.events with freshness := s.events.freshness ++ [fresh] }

/-- R33: a change of site state is sent to three blocks. -/
def State.sendSiteChange (s : State) (c : SiteChange) : State :=
  s.setEvents { s.events with
    siteToSessions := s.events.siteToSessions ++ [c]
    siteToDispatch := s.events.siteToDispatch ++ [c]
    siteToStore := s.events.siteToStore ++ [c] }

def State.sendAllowance (s : State) (w : Nat) : State :=
  s.setEvents { s.events with allowances := s.events.allowances ++ [w] }

def State.sendEarlyRequest (s : State) : State :=
  s.setEvents { s.events with earlyRequests := s.events.earlyRequests + 1 }

def State.sendResultApplied (s : State) : State :=
  s.setEvents { s.events with resultsApplied := s.events.resultsApplied + 1 }

def State.sendAllocatorMessage (s : State) (m : AllocatorMessage) : State :=
  s.setEvents { s.events with allocatorMessages := s.events.allocatorMessages ++ [m] }

/-- R64: a result goes to the Session Controller, the Field Link Controller and the Battery Dispatch Unit; the
Metering Unit takes it through the session record. -/
def State.sendResult (s : State) (r : AllocationResult) : State :=
  s.setEvents { s.events with
    allocatorMessages := s.events.allocatorMessages ++ [.result r]
    resultsToField := s.events.resultsToField ++ [r]
    resultsToDispatch := s.events.resultsToDispatch ++ [r] }

def State.sendChargerTarget (s : State) (t : ChargerTarget) : State :=
  s.setEvents { s.events with chargerTargets := s.events.chargerTargets ++ [t] }

def State.sendHandover (s : State) (h : Handover) : State :=
  s.setEvents { s.events with handovers := s.events.handovers ++ [h] }

def State.sendActivation (s : State) (slot : Nat) : State :=
  s.setEvents { s.events with activations := s.events.activations ++ [slot] }

def State.sendHandOver (s : State) (session : Nat) : State :=
  s.setEvents { s.events with handOvers := s.events.handOvers ++ [session] }

def State.sendStoreFree (s : State) : State :=
  s.setEvents { s.events with storeFree := s.events.storeFree + 1 }

def State.sendRoom (s : State) : State := s.setEvents { s.events with rooms := s.events.rooms + 1 }

/-! ### Reading what another block publishes -/

/-- The current site time (R170). -/
def State.siteTime (s : State) : Nat := s.links.clock.time

def FieldLinkController.unit (f : FieldLinkController) (u : Nat) : FieldUnit := nth f.units (FieldUnit.reset u) u

def FieldLinkController.setUnit (f : FieldLinkController) (u : Nat) (x : FieldUnit) : FieldLinkController :=
  { f with units := put f.units u x }

def SessionController.entry (c : SessionController) (p : Nat) : Option PortEntry := nth c.ports none p

def SessionController.record (c : SessionController) (p : Nat) : PortRecord := nth c.records PortRecord.reset p

def SessionController.setRecord (c : SessionController) (p : Nat) (r : PortRecord) : SessionController :=
  { c with records := put c.records p r }

/-- The present ports in number order. -/
def SessionController.presentPorts (c : SessionController) : List Nat := portNumbers.filter fun p => (c.entry p).isSome

/-- The setpoint part of a command: PAUSE and LOCKOUT count as 0 (R90). -/
def Command.setpoint : Command → Nat
  | .charger .run n => n
  | _ => 0

/-- The delivered setpoint of a port, the charger unit's delivered command (R2, R88). -/
def FieldLinkController.deliveredSetpoint (f : FieldLinkController) (p : Nat) : Nat := (f.unit p).delivered.setpoint

def TariffSlot.blank : TariffSlot := { bytes := erasedPattern, state := .empty, uses := 0 }

/-- Slot `k`, 0 to 7. -/
def TariffStore.slot (t : TariffStore) (k : Nat) : TariffSlot := (t.slots[k]?).getD TariffSlot.blank

def TariffStore.setSlot (t : TariffStore) (k : Nat) (x : TariffSlot) : TariffStore :=
  { t with slots := t.slots.setIfInBounds k x }

/-- 2^32 ends the range of times and counters that wrap or saturate there. -/
def saturate32 (n : Nat) : Nat := min n (Config.word32 - 1)

end Sys2Proof.Machine
end

