-- ==== Sys2Proof/Machine/Flags.lean ====
section
/-! DEFINITION. Every flag and class the part computes: the balance record's flags (R31, R43, R45), a session's class
(R62), its hold set and its flags (R15, R16), in the bit order of R174, R178 and R179. -/

namespace Sys2Proof.Machine

/-! ### Sessions -/

/-- R62. -/
def classOf (high urgent count : Nat) : SessionClass :=
  if urgent ≤ count then .urgent else if high ≤ count then .high else .normal

/-- URGENT before HIGH before NORMAL (R56). -/
def SessionClass.rank : SessionClass → Nat
  | .urgent => 0
  | .high => 1
  | .normal => 2

def Holds.none : Holds := { island := false, siteHold := false, fault := false, chargerLost := false }

def Holds.isEmpty (h : Holds) : Bool := !(h.island || h.siteHold || h.fault || h.chargerLost)

def Holds.has (h : Holds) : HoldReason → Bool
  | .island => h.island
  | .siteHold => h.siteHold
  | .fault => h.fault
  | .chargerLost => h.chargerLost

/-- Put a reason in or take it out; a set holds a reason once. -/
def Holds.set (h : Holds) (r : HoldReason) (b : Bool) : Holds :=
  match r with
  | .island => { h with island := b }
  | .siteHold => { h with siteHold := b }
  | .fault => { h with fault := b }
  | .chargerLost => { h with chargerLost := b }

/-- Bits 0 to 3 (R179). -/
def Holds.bits (h : Holds) : Nat := Machine.bits [h.island, h.siteHold, h.fault, h.chargerLost]

def SessionFlags.none : SessionFlags :=
  { clamped := false, estimated := false, timeUnset := false, gridLost := false, chargerLost := false, stopped := false }

/-- Bits 0 to 5 (R178). -/
def SessionFlags.bits (f : SessionFlags) : Nat :=
  Machine.bits [f.clamped, f.estimated, f.timeUnset, f.gridLost, f.chargerLost, f.stopped]

/-- R16: meeting a hold of these two kinds leaves a flag that stays. -/
def SessionFlags.meet (f : SessionFlags) (r : HoldReason) : SessionFlags :=
  match r with
  | .island => { f with gridLost := true }
  | .chargerLost => { f with chargerLost := true }
  | .siteHold => f
  | .fault => f

/-- R7, R9, R19, R142: a time recorded while the site clock has not been set marks the session or receipt. -/
def SessionFlags.timed (f : SessionFlags) (c : SiteClock) : SessionFlags :=
  { f with timeUnset := f.timeUnset || !c.isSet }

/-! ### The balance record -/

/-- R43: set in NORMAL while B_W is below 0, clear in every other site state. -/
def overloadFlag (site : SiteState) (budgetW : Int) : Bool :=
  match site with
  | .normal => decide (budgetW < 0)
  | _ => false

/-- R31, R43, R45. An inverter or battery that is not present sets no flag. -/
def balanceFlags (f : FieldLinkController) (b : SiteBalanceUnit) (budgetW : Int) : BalanceFlags :=
  { storeStale := !b.store.fresh
    pvPartial := [1, 2, 3, 4].any fun k => (f.unit (34 + k)).present && !(nth b.inverters Measurement.reset k).fresh
    batteryStale := (f.unit 39).present && !b.battery.fresh
    gridStale := !b.grid.fresh
    storeOverload := overloadFlag b.siteState budgetW
    importOverrun := b.overrun }

/-- Bit order of R46's list. -/
def BalanceFlags.bits (f : BalanceFlags) : Nat :=
  Machine.bits [f.storeStale, f.pvPartial, f.batteryStale, f.gridStale, f.storeOverload, f.importOverrun]

end Sys2Proof.Machine
end

