-- ==== Sys2Proof/Machine/Balance.lean ====
section
/-! DEFINITION. The Site Balance Unit (chapter 2): measurement records, site states, phantom reservations, the budget
and the mix, and its commands. -/

namespace Sys2Proof.Machine

/-! ### The balance record (R31, R40 to R46) -/

def SiteBalanceUnit.inverter (b : SiteBalanceUnit) (k : Nat) : Measurement InverterValues :=
  nth b.inverters Measurement.reset k

def SiteBalanceUnit.phantom (b : SiteBalanceUnit) (p : Nat) : Option Phantom := nth b.phantoms none p

/-- A phantom reservation in credits; a port without one counts 0. -/
def SiteBalanceUnit.reserved (b : SiteBalanceUnit) (p : Nat) : Nat :=
  match b.phantom p with
  | none => 0
  | some r => r.current

/-- R31: the store peak stands in for a stale store meter. -/
def SiteBalanceUnit.storeEff (b : SiteBalanceUnit) : Nat :=
  match b.store.fresh, b.store.value with
  | true, some load => load
  | _, _ => b.settings.storePeak * 1000

/-- The available power of a fresh inverter record, 0 for a stale one (R31, R42). -/
def Measurement.available (m : Measurement InverterValues) : Nat :=
  match m.fresh, m.value with
  | true, some v => v.available
  | _, _ => 0

/-- The output of a fresh inverter record, 0 for a stale one (R31, R44). -/
def Measurement.output (m : Measurement InverterValues) : Nat :=
  match m.fresh, m.value with
  | true, some v => v.output
  | _, _ => 0

/-- R42. -/
def SiteBalanceUnit.pvEff (b : SiteBalanceUnit) : Nat := ([1, 2, 3, 4].map fun k => (b.inverter k).available).sum

/-- R44. -/
def SiteBalanceUnit.pvOutput (b : SiteBalanceUnit) : Nat := ([1, 2, 3, 4].map fun k => (b.inverter k).output).sum

/-- R44: P_dis, 0 while the battery is stale or charging. -/
def SiteBalanceUnit.discharge (b : SiteBalanceUnit) : Nat :=
  match b.battery.fresh, b.battery.value with
  | true, some v => v.power.toNat
  | _, _ => 0

/-- R42. -/
def SiteBalanceUnit.budgetW (b : SiteBalanceUnit) : Int :=
  ((b.settings.importLimit : Int) - b.settings.margin) * 1000 - b.storeEff + b.pvEff + b.allowance

/-- R40: the total over all ports. -/
def SiteBalanceUnit.phantomTotal (b : SiteBalanceUnit) : Nat := (portNumbers.map b.reserved).sum

/-- R40: the sum over the ports configured on a feeder. -/
def phantomOn (c : SessionController) (b : SiteBalanceUnit) (feeder : Nat) : Nat :=
  ((portNumbers.filter fun p => (c.entry p).map PortEntry.feeder == some feeder).map b.reserved).sum

/-- R42: B = clamp(floor(B_W / 100) − phantom total, 0, 8,000) in NORMAL, 0 in every other site state. -/
def budgetOf (site : SiteState) (budgetW : Int) (phantomTotal : Nat) : Nat :=
  match site with
  | .normal => min (budgetW / 100 - phantomTotal).toNat Config.budgetMax
  | _ => 0

/-- R44: canopy first, battery second, the grid takes what is left and both remainders. -/
def mixOf (chargers pv battery : Nat) : Mix :=
  if chargers = 0 then { solar := 0, battery := 0, grid := 1024 }
  else
    let solar := min pv chargers
    let fromBattery := min battery (chargers - solar)
    let ms := 1024 * solar / chargers
    let mb := 1024 * fromBattery / chargers
    { solar := ms, battery := mb, grid := 1024 - ms - mb }

/-- R44: P_c, the charger powers of the present ports whose charger is not LOST. DESIGN CHOICE (log 34): LOST is read from
the unit table as it stands, whether or not the Site Balance Unit has taken the change. -/
def chargerPower (f : FieldLinkController) (c : SessionController) (b : SiteBalanceUnit) : Nat :=
  ((c.presentPorts.filter fun p => (f.unit p).health ≠ .lost).map fun p => nth b.chargers 0 p).sum

/-- The whole record from the current values (R46). -/
def balanceOf (f : FieldLinkController) (c : SessionController) (b : SiteBalanceUnit) : BalanceRecord :=
  { siteState := b.siteState
    budget := budgetOf b.siteState b.budgetW b.phantomTotal
    budgetW := b.budgetW
    phantomTotal := b.phantomTotal
    phantomFeeder := #v[phantomOn c b 1, phantomOn c b 2, phantomOn c b 3, phantomOn c b 4]
    storeEff := b.storeEff
    pvEff := b.pvEff
    batteryEff := b.allowance
    mix := mixOf (chargerPower f c b) b.pvOutput b.discharge
    flags := balanceFlags f b b.budgetW }

/-- A recomputation (R46): the record is replaced as a whole, and STORE_OVERLOAD is raised when its flag changes from
clear to set (R43). -/
def State.recompute (s : State) : State :=
  let r := balanceOf s.field s.sessions s.balance
  let s' := s.setBalance { s.balance with record := r }
  if s.balance.record.flags.storeOverload = false ∧ r.flags.storeOverload = true then
    s'.raise .storeOverload (-r.budgetW).toNat
  else s'

/-! ### Site states (R33 to R36) -/

/-- The site state changes: the change is sent to three blocks and the record recomputed (R33, R46). The restore timer
is stopped in every state but RESTORING (R35). -/
def State.changeSite (s : State) (new : SiteState) : State :=
  ((s.setBalance { s.balance with
    siteState := new, restoreTimer := if new = .restoring then s.balance.restoreTimer else none }).sendSiteChange
    { before := s.balance.siteState, after := new }).recompute

/-- R34: entry to ISLAND. -/
def State.enterIsland (s : State) : State := (s.raise .gridLost s.siteTime).changeSite .island

/-- R35: RESTORING with its restore timer. -/
def State.enterRestoring (s : State) : State :=
  (s.setBalance { s.balance with restoreTimer := some (s.after s.balance.restoreDelay) }).changeSite .restoring

/-- R33: both meters have had a first report, and the latest grid report shows the grid present. -/
def SiteBalanceUnit.metersReported (b : SiteBalanceUnit) : Bool :=
  b.store.value.isSome && (match b.grid.value with
    | some g => g.present
    | none => false)

/-- R33 to R35: what a grid or store report makes of the site state. `grid` is the presence a grid report carries. -/
def State.followGrid (s : State) (grid : Option Bool) : State :=
  match s.balance.siteState, grid with
  | .starting, some false => s.enterIsland
  | .starting, _ => if s.balance.metersReported then s.changeSite .normal else s
  | .normal, some false => s.enterIsland
  | .restoring, some false => s.enterIsland
  | .island, some true => s.enterRestoring
  | _, _ => s

/-- R45: a grid report with the grid present above the import limit is an overrun; any other clears the flag. DESIGN CHOICE
(log 44): the record is recomputed once more after the check, so that it shows the flag at the same arrival. -/
def State.checkOverrun (s : State) (power : Int) (present : Bool) : State :=
  if present = true ∧ (s.balance.settings.importLimit : Int) * 1000 < power then
    (((s.setBalance { s.balance with overrun := true }).raise .importOverrun power.toNat).sendEarlyRequest).recompute
  else (s.setBalance { s.balance with overrun := false }).recompute

/-! ### Arrivals (R29, R30) -/

/-- The record of a unit after an arrival: replaced as a whole, fresh, its stale timer started again (R29). -/
def arrived {α : Type} (s : State) (v : α) : Measurement α :=
  { value := some v, arrival := some s.runTime, fresh := true, timer := some (s.after s.balance.staleTime) }

/-- R29: an inverter cannot produce more than its potential, and neither figure is below 0. -/
def inverterValues (output available : Int) (curtailed : Bool) : InverterValues :=
  { output := output.toNat, available := max available.toNat output.toNat, curtailed := curtailed }

/-- R29, R74: a SoC above 1000 is stored as 1000, a power limit below 0 as 0, the battery power with its sign. -/
def batteryValues (soc : Nat) (power maxCharge maxDischarge : Int) (state : BatteryState) : BatteryValues :=
  { soc := min soc 1000, power := power, maxCharge := maxCharge.toNat, maxDischarge := maxDischarge.toNat, state := state }

/-- R74: a change of the battery record's freshness is sent to the Battery Dispatch Unit. -/
def State.freshen (s : State) (before : Bool) (after : Bool) : State :=
  if before = after then s else s.sendFreshness after

/-- R29, R33 to R36, R45, R46: a report taken by the Site Balance Unit. -/
def State.takeReport (s : State) (r : Report) : State :=
  match r.values with
  | .charger power => (s.setBalance { s.balance with chargers := put s.balance.chargers r.unit power.toNat }).recompute
  | .grid power present =>
    (((s.setBalance { s.balance with grid := arrived s { power := power, present := present } }).recompute.followGrid
      (some present)).checkOverrun power present)
  | .store load => (s.setBalance { s.balance with store := arrived s load.toNat }).recompute.followGrid none
  | .inverter output available curtailed =>
    (s.setBalance { s.balance with
      inverters := put s.balance.inverters (r.unit - 34) (arrived s (inverterValues output available curtailed)) }).recompute
  | .battery soc power maxCharge maxDischarge state =>
    ((s.setBalance { s.balance with
      battery := arrived s (batteryValues soc power maxCharge maxDischarge state) }).freshen s.balance.battery.fresh
        true).recompute

/-- REPORT_ARRIVAL (R29): the oldest report of the unit that waits for the Site Balance Unit. -/
def execReportArrival (unit : Nat) (s : State) : Host.Outcome State Fault Refusal :=
  match takeFirst (fun r => r.unit == unit) s.events.reports with
  | none => nothing s
  | some (r, rest) => done ((s.setEvents { s.events with reports := rest }).takeReport r)

/-- A measurement record made stale, its timer stopped and its values kept (R30). -/
def Measurement.stale {α : Type} (m : Measurement α) : Measurement α := { m with fresh := false, timer := none }

/-- The record of a unit index becomes stale: a stale grid record clears the overrun flag (R45), a stale battery
record is sent to the Battery Dispatch Unit (R74), and the balance record is recomputed (R30, R46). -/
def State.makeStale (s : State) (unit : Nat) : State :=
  if unit = 33 then (s.setBalance { s.balance with grid := s.balance.grid.stale, overrun := false }).recompute
  else if unit = 34 then (s.setBalance { s.balance with store := s.balance.store.stale }).recompute
  else if unit ≤ 38 then
    (s.setBalance { s.balance with
      inverters := put s.balance.inverters (unit - 34) (s.balance.inverter (unit - 34)).stale }).recompute
  else ((s.setBalance { s.balance with battery := s.balance.battery.stale }).freshen s.balance.battery.fresh false).recompute

/-- The stale timer of a unit index, 33 to 39. -/
def SiteBalanceUnit.staleTimer (b : SiteBalanceUnit) (unit : Nat) : Option Nat :=
  if unit = 33 then b.grid.timer
  else if unit = 34 then b.store.timer
  else if 35 ≤ unit ∧ unit ≤ 38 then (b.inverter (unit - 34)).timer
  else if unit = 39 then b.battery.timer
  else none

/-- STALE_TIMER_EXPIRY (R30). -/
def execStaleTimerExpiry (unit : Nat) (s : State) : Host.Outcome State Fault Refusal :=
  match s.balance.staleTimer unit with
  | none => nothing s
  | some expiry => done ((s.reach expiry).makeStale unit)

/-! ### Unit health and phantom reservations (R38, R39, R98) -/

/-- R38: the reservation starts at the delivered setpoint as it stands, with its fallback hold timer. -/
def State.startPhantom (s : State) (port : Nat) : State :=
  let d := s.field.deliveredSetpoint port
  let r : Phantom := { start := d, current := d, timer := some (s.after s.balance.fallbackHold) }
  s.setBalance { s.balance with phantoms := put s.balance.phantoms port (some r) }

/-- R39. -/
def State.endPhantom (s : State) (port : Nat) : State :=
  s.setBalance { s.balance with phantoms := put s.balance.phantoms port none }

/-- R98, R30, R38, R39: a unit's change of health, then the recomputation every such change leads to (R46). -/
def State.takeHealth (s : State) (h : HealthChange) : State :=
  if h.unit ≤ 32 then
    (if h.after = .lost then s.startPhantom h.unit
     else if h.before = .lost then s.endPhantom h.unit
     else s).recompute
  else if h.after = .lost then s.makeStale h.unit
  else s.recompute

/-- UNIT_HEALTH_CHANGE (R98): the oldest change of the unit that waits for the Site Balance Unit. -/
def execUnitHealthChange (unit : Nat) (s : State) : Host.Outcome State Fault Refusal :=
  match takeFirst (fun h => h.unit == unit) s.events.unitHealth with
  | none => nothing s
  | some (h, rest) => done ((s.setEvents { s.events with unitHealth := rest }).takeHealth h)

/-- FALLBACK_HOLD_EXPIRY (R38): the reservation becomes the smaller of the fallback credits and its start. -/
def execFallbackHoldExpiry (port : Nat) (s : State) : Host.Outcome State Fault Refusal :=
  match s.balance.phantom port with
  | none => nothing s
  | some r =>
    match r.timer with
    | none => nothing s
    | some expiry =>
      let s := s.reach expiry
      let fallen : Phantom := { r with current := min s.balance.settings.fallback r.start, timer := none }
      done (s.setBalance { s.balance with phantoms := put s.balance.phantoms port (some fallen) }).recompute

/-- RESTORE_TIMER_EXPIRY (R35). -/
def execRestoreTimerExpiry (s : State) : Host.Outcome State Fault Refusal :=
  match s.balance.siteState, s.balance.restoreTimer with
  | .restoring, some expiry =>
    let s := s.reach expiry
    done ((s.raise .gridBack s.siteTime).changeSite .normal)
  | _, _ => nothing s

/-- DISCHARGE_ALLOWANCE_CHANGE (R76): the oldest allowance published and not yet taken becomes P_bd. -/
def execDischargeAllowanceChange (s : State) : Host.Outcome State Fault Refusal :=
  match s.events.allowances with
  | [] => nothing s
  | w :: rest =>
    done (((s.setEvents { s.events with allowances := rest }).setBalance { s.balance with allowance := w }).recompute)

/-! ### SET_SITE (R41, R143) -/

/-- R41's ranges, and R143's. -/
def siteInRange (f : SiteFields) : Bool :=
  decide (1 ≤ f.importLimit ∧ f.importLimit ≤ 2000 ∧ f.margin ≤ 100 ∧ f.margin < f.importLimit ∧ f.exportLimit ≤ 2000 ∧
    1 ≤ f.storePeak ∧ f.storePeak ≤ 2000 ∧ 1 ≤ f.fallback ∧ f.fallback ≤ 220 ∧ f.nextReceipt < Config.word32)

/-- R41: every setting replaced, a next receipt number other than 0 taken (R143), the record recomputed in LIVE. -/
def handleSetSite (s : State) (f : SiteFields) : Handled :=
  if siteInRange f then
    let s := s.setBalance { s.balance with settings :=
      { importLimit := f.importLimit, margin := f.margin, exportLimit := f.exportLimit, storePeak := f.storePeak,
        fallback := f.fallback } }
    let s := if f.nextReceipt = 0 then s else s.setBuilder { s.builder with next := f.nextReceipt }
    ok (if s.links.part = .live then s.recompute else s)
  else refuse s .outOfRange

/-- SET_SITE. -/
def execSetSite (l : Link) (tag : Byte) (p : Payload SiteFields) (s : State) : Host.Outcome State Fault Refusal :=
  serve l 0x01#8 tag false .always noGrant handleSetSite p s

end Sys2Proof.Machine
end

