-- ==== Sys2Proof/Machine/Allocation.lean ====
section
/-! DEFINITION. The Power Allocator (chapter 3): feeders, the round (order, admission, dealing, counts), its triggers
and its commands. -/

namespace Sys2Proof.Machine

/-! ### Candidates (R55, R56) -/

/-- R12, R55: ACTIVE with a demand above 0. -/
def Session.isCandidate (x : Session) : Bool := decide (x.state = .active ∧ 0 < x.demand)

/-- A candidate as a round works on it: what it read, and the allocation so far. -/
structure Candidate where
  session : Nat
  port : Nat
  feeder : Nat
  demand : Nat
  minimum : Nat
  count : Nat
  departure : Option Nat
  cls : SessionClass
  admitted : Bool
  allocation : Nat
  deriving DecidableEq, Repr

/-- R54, R55, R62: the values a round reads of one candidate. A port without an entry lies on no feeder. -/
def candidateOf (c : SessionController) (a : PowerAllocator) (x : Session) : Candidate :=
  { session := x.number
    port := x.port
    feeder := match c.entry x.port with
      | none => 0
      | some e => e.feeder
    demand := x.demand
    minimum := match c.entry x.port with
      | none => x.demand
      | some e => min e.minimum x.demand
    count := x.deferral
    departure := x.departure
    cls := classOf a.high a.urgent x.deferral
    admitted := false
    allocation := 0 }

/-- R56 key 3: the earlier departure first, a session without one after every session with one. -/
def departsBefore : Option Nat → Option Nat → Bool
  | some a, some b => decide (a < b)
  | some _, none => true
  | none, _ => false

/-- R56: each key decides only between candidates equal on all the keys before it. -/
def comesBefore (a b : Candidate) : Bool :=
  if a.cls.rank ≠ b.cls.rank then decide (a.cls.rank < b.cls.rank)
  else if a.count ≠ b.count then decide (b.count < a.count)
  else if a.departure ≠ b.departure then departsBefore a.departure b.departure
  else decide (a.session < b.session)

/-- Put a candidate into its place of an ordered list. -/
def insertCandidate (x : Candidate) : List Candidate → List Candidate
  | [] => [x]
  | y :: rest => if comesBefore y x then y :: insertCandidate x rest else x :: y :: rest

/-- The candidates in admission order (R56). -/
def admissionOrder (xs : List Candidate) : List Candidate := xs.foldr insertCandidate []

/-! ### Admission (R57) -/

/-- The sum of the allocations so far. -/
def allocated (xs : List Candidate) : Nat := (xs.map Candidate.allocation).sum

/-- The same sum for one feeder. -/
def allocatedOn (feeder : Nat) (xs : List Candidate) : Nat := allocated (xs.filter fun x => x.feeder == feeder)

/-- R57: the walk in admission order. `done` holds the candidates already walked, latest last: at this stage an
allocation is the effective minimum of an admitted candidate or 0, so their sums are the running sums. -/
def admitAll (budget : Nat) (room : Nat → Int) : List Candidate → List Candidate → List Candidate
  | walked, [] => walked
  | walked, x :: rest =>
    let fits := decide (allocated walked + x.minimum ≤ budget) &&
      decide ((allocatedOn x.feeder walked : Int) + x.minimum ≤ room x.feeder)
    let x' := if fits then { x with admitted := true, allocation := x.minimum } else { x with admitted := false, allocation := 0 }
    admitAll budget room (walked ++ [x']) rest

/-! ### Dealing (R59) -/

/-- R59: whether a candidate can take one more credit. -/
def canTake (room : Nat → Int) (xs : List Candidate) (x : Candidate) : Bool :=
  x.admitted && decide (x.allocation < x.demand) && decide ((allocatedOn x.feeder xs : Int) < room x.feeder)

/-- R59: of those that can take a credit, the one with the smallest allocation, the first in admission order among
equals. -/
def poorest (room : Nat → Int) (xs : List Candidate) : Option Candidate :=
  xs.foldl (fun best x =>
    if canTake room xs x then
      match best with
      | none => some x
      | some b => if x.allocation < b.allocation then some x else some b
    else best) none

/-- One credit to the candidate with this session number. -/
def giveCredit (session : Nat) (xs : List Candidate) : List Candidate :=
  xs.map fun x => if x.session = session then { x with allocation := x.allocation + 1 } else x

/-- R59: the pool dealt one credit at a time, until it is spent or nobody can take a credit. -/
def deal (room : Nat → Int) : Nat → List Candidate → List Candidate
  | 0, xs => xs
  | pool + 1, xs =>
    match poorest room xs with
    | none => xs
    | some x => deal room pool (giveCredit x.session xs)

/-! ### The result (R60 to R65) -/

/-- R61: the new count, in site state NORMAL. -/
def newCount (site : SiteState) (x : Candidate) : Nat :=
  match site with
  | .normal =>
    if x.admitted then (if x.allocation = x.demand then x.count - 1 else x.count) else min 15 (x.count + 1)
  | _ => x.count

/-- R64: one entry of the result. -/
def entryOf (site : SiteState) (a : PowerAllocator) (x : Candidate) : CandidateEntry :=
  { session := x.session
    port := x.port
    allocation := x.allocation
    count := newCount site x
    cls := classOf a.high a.urgent (newCount site x)
    admitted := x.admitted }

/-- The sessions that hold a port: PLUGGED to CLOSING, and in CLOSING only before the final reading (R3, R21). -/
def Session.holdsPort (x : Session) : Bool :=
  match x.state with
  | .plugged | .active | .dormant | .held => true
  | .closing => !x.handedOver
  | .pricing | .waitQueue => false

/-- The session that holds a port, if any (R3). -/
def SessionController.holder (c : SessionController) (p : Nat) : Option Session :=
  c.table.find? fun x => x.port == p && x.holdsPort

/-- R65: the session the round computed for at a port, and its setpoint. -/
def portTargetOf (c : SessionController) (xs : List Candidate) (p : Nat) : PortTarget :=
  match c.holder p with
  | none => { port := p, session := none, setpoint := 0 }
  | some x =>
    { port := p, session := some x.number
      setpoint := match xs.find? fun y => y.session == x.number with
        | none => 0
        | some y => y.allocation }

/-- R49: a configured feeder's room; a feeder that is not configured has none. -/
def roomOf (a : PowerAllocator) (r : BalanceRecord) (feeder : Nat) : Int :=
  match nth a.feeders none feeder with
  | none => 0
  | some cap => (cap : Int) - nth r.phantomFeeder 0 feeder

/-- R54: the next round number; 0 stands for no round since reset. -/
def nextRound (n : Nat) : Nat := if n + 1 < Config.word32 then n + 1 else 1

/-- The candidates of a round with their final allocations, in admission order (R55 to R59). -/
def allocateAll (c : SessionController) (a : PowerAllocator) (r : BalanceRecord) : List Candidate :=
  let order := admissionOrder ((c.table.filter Session.isCandidate).map (candidateOf c a))
  let admitted := admitAll r.budget (roomOf a r) [] order
  deal (roomOf a r) (r.budget - allocated admitted) admitted

/-- R64: the result of a round, from the balance record, the sessions, the ports and the settings alone (R54).
DESIGN CHOICE (log 45): the configured feeders and the port targets stand in ascending order of their numbers.
DESIGN CHOICE (log 49): a round without candidates leaves its whole budget unspent (R59, R60); the totals that R58 makes 0 are
those of allocations. -/
def roundResult (c : SessionController) (a : PowerAllocator) (r : BalanceRecord) : AllocationResult :=
  let xs := allocateAll c a r
  let entries := xs.map (entryOf r.siteState a)
  { round := nextRound a.round
    siteState := r.siteState
    budget := r.budget
    phantomTotal := r.phantomTotal
    feeders := ([1, 2, 3, 4].filter fun f => (nth a.feeders none f).isSome).map fun f =>
      { feeder := f, room := roomOf a r f, allocated := allocatedOn f xs }
    entries := entries
    targets := c.presentPorts.map (portTargetOf c xs)
    total := allocated xs
    unspent := r.budget - allocated xs
    deferred := (entries.filter fun e => !e.admitted).length
    urgent := (entries.filter fun e => e.cls == .urgent).length }

/-! ### Taking a round (R50 to R53) -/

/-- A round is taken: the result published, the period timer started again, the pending request cleared, the spacing
timer stopped (R51 to R54, R64). -/
def State.takeRound (s : State) : State :=
  let r := roundResult s.sessions s.allocator s.balance.record
  (s.setAllocator { s.allocator with
    round := r.round, lastRun := some s.runTime, periodTimer := some (s.after s.allocator.period), pending := false,
    spacing := none, last := some r, applied := false }).sendResult r

/-- Whether the last round was taken less than 250 ms ago (R52). -/
def State.tooSoon (s : State) : Bool :=
  match s.allocator.lastRun with
  | none => false
  | some t => decide (s.runTime < t + Config.roundSpacing)

/-- The expiry of the spacing timer: 250 ms after the last round (R52). -/
def PowerAllocator.spacingExpiry (a : PowerAllocator) : Option Nat := a.lastRun.map fun t => t + Config.roundSpacing

/-- R53: a round that may not start yet leaves the early request pending. -/
def State.roundOrPend (s : State) : State :=
  if s.allocator.applied then s.takeRound else s.setAllocator { s.allocator with pending := true }

/-- R52, R53: an early request taken in LIVE. -/
def State.takeEarly (s : State) : State :=
  if s.allocator.pending then s
  else if s.tooSoon then
    s.setAllocator { s.allocator with pending := true, spacing := s.allocator.spacingExpiry }
  else s.roundOrPend

/-- EARLY_REQUEST (R52): discarded in SETUP. -/
def execEarlyRequest (s : State) : Host.Outcome State Fault Refusal :=
  match s.events.earlyRequests with
  | 0 => nothing s
  | n + 1 =>
    let s := s.setEvents { s.events with earlyRequests := n }
    done (if s.links.part = .live then s.takeEarly else s)

/-- ROUND_PERIOD_EXPIRY (R51, R53). -/
def execRoundPeriodExpiry (s : State) : Host.Outcome State Fault Refusal :=
  match s.allocator.periodTimer with
  | none => nothing s
  | some expiry =>
    let s := s.reach expiry
    done (s.setAllocator { s.allocator with periodTimer := none }).roundOrPend

/-- SPACING_TIMER_EXPIRY (R52, R53): the round for the pending request. -/
def execSpacingTimerExpiry (s : State) : Host.Outcome State Fault Refusal :=
  match s.allocator.spacing with
  | none => nothing s
  | some expiry =>
    let s := s.reach expiry
    done (s.setAllocator { s.allocator with spacing := none }).roundOrPend

/-- R53: the report that the last result is applied; the pending round is taken, or the spacing timer governs it. -/
def State.takeApplied (s : State) : State :=
  let s := s.setAllocator { s.allocator with applied := true }
  if s.allocator.pending then
    (if s.tooSoon then s.setAllocator { s.allocator with spacing := s.allocator.spacingExpiry } else s.takeRound)
  else s

/-- RESULT_APPLIED (R53). -/
def execResultApplied (s : State) : Host.Outcome State Fault Refusal :=
  match s.events.resultsApplied with
  | 0 => nothing s
  | n + 1 => done (s.setEvents { s.events with resultsApplied := n }).takeApplied

/-! ### Requests -/

/-- R48. -/
def handleSetFeeder (s : State) (f : FeederFields) : Handled :=
  if 1 ≤ f.feeder ∧ f.feeder ≤ 4 ∧ 1 ≤ f.cap ∧ f.cap ≤ 8000 then
    ok (s.setAllocator { s.allocator with feeders := put s.allocator.feeders f.feeder (some f.cap) })
  else refuse s .outOfRange

/-- SET_FEEDER (R48). -/
def execSetFeeder (l : Link) (tag : Byte) (p : Payload FeederFields) (s : State) : Host.Outcome State Fault Refusal :=
  serve l 0x02#8 tag false .setupOnly noGrant handleSetFeeder p s

/-- R63: in LIVE the high watermark is below the urgent one, and the Session Controller is sent the new ones. -/
def handleSetWatermarks (s : State) (f : WatermarkFields) : Handled :=
  if 1 ≤ f.high ∧ f.high ≤ 15 ∧ 1 ≤ f.urgent ∧ f.urgent ≤ 15 ∧ (s.links.part = .live → f.high < f.urgent) then
    let s' := s.setAllocator { s.allocator with high := f.high, urgent := f.urgent }
    ok (if s.links.part = .live then s'.sendAllocatorMessage (.reclassify f.high f.urgent) else s')
  else refuse s .outOfRange

/-- SET_WATERMARKS (R63). -/
def execSetWatermarks (l : Link) (tag : Byte) (p : Payload WatermarkFields) (s : State) :
    Host.Outcome State Fault Refusal :=
  serve l 0x07#8 tag false .always noGrant handleSetWatermarks p s

end Sys2Proof.Machine
end

