-- ==== Sys2Proof/Machine/Battery.lean ====
section
/-! DEFINITION. The Battery Dispatch Unit (chapter 4): the battery copy, the discharge allowance, urgent release, the
command computation and its commands. -/

namespace Sys2Proof.Machine

/-! ### Allowance and usability (R75, R79) -/

/-- The copy's values while they can be trusted: the battery is present, the copy fresh and holding values. -/
def trusted (present : Bool) (d : BatteryDispatchUnit) : Option BatteryValues :=
  if present && d.fresh then d.copy else none

/-- R75: the rows tried in order. -/
def allowanceOf (present : Bool) (d : BatteryDispatchUnit) : Nat :=
  match trusted present d with
  | none => 0
  | some v =>
    if v.state ≠ .ready then 0
    else if v.soc ≤ d.policy.hardFloor then 0
    else if d.policy.softReserve < v.soc then min v.maxDischarge d.policy.dischargeCap
    else if d.urgent then min v.maxDischarge d.policy.dischargeCap
    else 0

/-- R79: present, fresh and READY; its values. -/
def usable (present : Bool) (d : BatteryDispatchUnit) : Option BatteryValues :=
  match trusted present d with
  | none => none
  | some v => if v.state = .ready then some v else none

/-! ### The command computation (R78 to R84) -/

/-- What a computation decides (R78). -/
structure DispatchOutcome where
  case : DispatchCase
  surplus : Option Int
  charge : Option Int
  remaining : Option Int
  curtail : Option Nat
  target : BatteryCommand
  deriving DecidableEq, Repr

/-- A charge command of a power above 0, IDLE otherwise (R81, R83). -/
def chargeOrIdle (w : Nat) : BatteryCommand := if 0 < w then .charge w else .idle

/-- A discharge command of a power above 0, IDLE otherwise (R80). -/
def dischargeOrIdle (w : Nat) : BatteryCommand := if 0 < w then .discharge w else .idle

/-- R81: the figures of a surplus, for a charge; the curtail total is none while the limits are released. -/
def surplusOutcome (case : DispatchCase) (net : Int) (charge : Nat) (exportLimit pvEff : Nat) : DispatchOutcome :=
  let remaining := -net - charge
  let exported : Int := (exportLimit : Int) * 1000
  { case := case
    surplus := some (-net)
    charge := some charge
    remaining := some remaining
    curtail := if exported < remaining then some ((pvEff : Int) - (remaining - exported)).toNat else none
    target := chargeOrIdle charge }

/-- An outcome without surplus figures, every limit released. -/
def releasedOutcome (case : DispatchCase) (target : BatteryCommand) : DispatchOutcome :=
  { case := case, surplus := none, charge := none, remaining := none, curtail := none, target := target }

/-- R81: the charge of the surplus case. -/
def surplusCharge (usableBattery : Option BatteryValues) (p : BatteryPolicy) (surplus : Nat) : Nat :=
  match usableBattery with
  | none => 0
  | some v => if v.soc < p.fullLimit then min surplus (min v.maxCharge p.chargeCap) else 0

/-- R80 to R83, in NORMAL and STARTING. -/
def normalOutcome (usableBattery : Option BatteryValues) (d : BatteryDispatchUnit) (net limit : Int)
    (exportLimit pvEff : Nat) : DispatchOutcome :=
  if limit < net then
    releasedOutcome .peak (match usableBattery with
      | none => .idle
      | some _ => dischargeOrIdle (min (net - limit).toNat d.allowance))
  else if net < 0 then
    surplusOutcome .surplus net (surplusCharge usableBattery d.policy (-net).toNat) exportLimit pvEff
  else match usableBattery with
    | none => releasedOutcome .balanced .idle
    | some v =>
      if v.soc < d.policy.softReserve ∧ d.urgent = false then
        releasedOutcome .topUp (chargeOrIdle (min (limit - net).toNat (min d.policy.topUp v.maxCharge)))
      else releasedOutcome .balanced .idle

/-- R84: by the site state of the balance record. In RESTORING the figures are those of R81 with a charge of 0. -/
def outcomeOf (site : SiteState) (usableBattery : Option BatteryValues) (d : BatteryDispatchUnit) (net limit : Int)
    (exportLimit pvEff : Nat) : DispatchOutcome :=
  match site with
  | .island => releasedOutcome .island .islandSupport
  | .restoring => surplusOutcome .restoring net 0 exportLimit pvEff
  | .none | .starting | .normal => normalOutcome usableBattery d net limit exportLimit pvEff

/-- The present inverters. -/
def presentInverters (f : FieldLinkController) : List Nat := [1, 2, 3, 4].filter fun k => (f.unit (34 + k)).present

/-- The rated power of an inverter. -/
def ratedOf (f : FieldLinkController) (k : Nat) : Nat := (f.unit (34 + k)).rated.getD 0

/-- R82: the fresh inverter with the largest available power, the lowest-numbered among equals. -/
def largestProducer (b : SiteBalanceUnit) (ks : List Nat) : Option Nat :=
  ks.foldl (fun best k =>
    match best with
    | none => some k
    | some j => if (b.inverter j).available < (b.inverter k).available then some k else some j) none

/-- R82: the share of one fresh inverter, before the W left over. -/
def shareOf (b : SiteBalanceUnit) (pvEff curtail k : Nat) : Nat := curtail * (b.inverter k).available / pvEff

/-- R82: the limit of one present inverter under a curtail total. -/
def curtailedLimit (f : FieldLinkController) (b : SiteBalanceUnit) (pvEff curtail k : Nat) : Nat :=
  let fresh := (presentInverters f).filter fun j => (b.inverter j).fresh
  if (b.inverter k).fresh then
    let leftOver := curtail - (fresh.map (shareOf b pvEff curtail)).sum
    let share := shareOf b pvEff curtail k + (if largestProducer b fresh = some k then leftOver else 0)
    min share (ratedOf f k)
  else 0

/-- The limits of the present inverters: shares of a curtail total, or released to the rated power (R81, R82).
DESIGN CHOICE (log 45): in ascending order of their numbers. -/
def limitsOf (f : FieldLinkController) (b : SiteBalanceUnit) (pvEff : Nat) (curtail : Option Nat) : List (Nat × Nat) :=
  (presentInverters f).map fun k =>
    (k, match curtail with
      | none => ratedOf f k
      | some t => curtailedLimit f b pvEff t k)

/-- R80: net, from the balance record and the last total allocated, 0 before the first result. -/
def netOf (r : BalanceRecord) (d : BatteryDispatchUnit) : Int :=
  (r.storeEff : Int) + 100 * (d.lastTotal.getD 0) - r.pvEff

/-- R80: L, the import the budget is built to. -/
def limitW (x : SiteSettings) : Int := ((x.importLimit : Int) - x.margin) * 1000

/-- Whether the battery is present in the unit table. -/
def State.batteryPresent (s : State) : Bool := (s.field.unit 39).present

/-- Store the limits computed for the present inverters. -/
def storeLimits (v : Vector (Option Nat) 4) (limits : List (Nat × Nat)) : Vector (Option Nat) 4 :=
  limits.foldl (fun v x => put v x.1 (some x.2)) v

/-- The computation of R78 steps 3 to 5 with its trigger: the record is written, and the targets are handed over,
changed or not (R86); the hand-over that follows a result names its round. -/
def State.computeCommand (s : State) (trigger : DispatchTrigger) : State :=
  let r := s.balance.record
  let net := netOf r s.dispatch
  let limit := limitW s.balance.settings
  let o := outcomeOf r.siteState (usable s.batteryPresent s.dispatch) s.dispatch net limit
    s.balance.settings.exportLimit r.pvEff
  let limits := limitsOf s.field s.balance r.pvEff o.curtail
  let rec' : DispatchRecord :=
    { basis := s.dispatch.basis, trigger := trigger, case := o.case, net := net, limit := limit, surplus := o.surplus,
      charge := o.charge, remaining := o.remaining, curtail := o.curtail, target := o.target, limits := limits }
  (s.setDispatch { s.dispatch with
    record := some rec', target := o.target, limits := storeLimits s.dispatch.limits limits }).sendHandover
    { battery := if s.batteryPresent then some o.target else none, limits := limits,
      follows := if trigger = .result then s.dispatch.basis else none }

/-! ### Standing conditions (R85) and the evaluation of the allowance (R76) -/

/-- R85: whether the battery target in force still stands. -/
def stands (present : Bool) (d : BatteryDispatchUnit) : Bool :=
  match d.target, usable present d with
  | .idle, _ => true
  | .islandSupport, _ => true
  | .discharge w, some _ => decide (w ≤ d.allowance)
  | .charge w, some v =>
    (match d.record.map DispatchRecord.case with
      | some .topUp =>
        decide (v.soc < d.policy.softReserve ∧ d.urgent = false ∧ w ≤ min d.policy.topUp v.maxCharge)
      | _ => decide (v.soc < d.policy.fullLimit ∧ w ≤ min v.maxCharge d.policy.chargeCap))
  | _, none => false

/-- R85: a target that no longer stands is computed again at once, with trigger BATTERY. -/
def State.checkStanding (s : State) : State :=
  if stands s.batteryPresent s.dispatch then s else s.computeCommand .battery

/-- R76: the allowance evaluated, and published when it differs from the value last published. -/
def State.evaluateAllowance (s : State) : State :=
  let w := allowanceOf s.batteryPresent s.dispatch
  if w = s.dispatch.allowance then s
  else (s.setDispatch { s.dispatch with allowance := w }).sendAllowance w

/-! ### Commands -/

/-- R74: the copy takes a battery report's values; its freshness does not change. -/
def takeBatteryReport (d : BatteryDispatchUnit) (r : ReportValues) : BatteryDispatchUnit :=
  match r with
  | .battery soc power maxCharge maxDischarge state =>
    { d with copy := some (batteryValues soc power maxCharge maxDischarge state) }
  | _ => d

/-- BATTERY_REPORT (R74): then the allowance, then the standing conditions. -/
def execBatteryReport (s : State) : Host.Outcome State Fault Refusal :=
  match s.events.batteryReports with
  | [] => nothing s
  | r :: rest =>
    done (((s.setEvents { s.events with batteryReports := rest }).setDispatch
      (takeBatteryReport s.dispatch r)).evaluateAllowance.checkStanding)

/-- BATTERY_FRESHNESS_CHANGE (R74). -/
def execBatteryFreshnessChange (s : State) : Host.Outcome State Fault Refusal :=
  match s.events.freshness with
  | [] => nothing s
  | b :: rest =>
    done (((s.setEvents { s.events with freshness := rest }).setDispatch
      { s.dispatch with fresh := b }).evaluateAllowance.checkStanding)

/-- R77: urgent release from the urgent count; a change of it leads to the evaluation of the allowance. A change of
the allowance leads to the check of R85. -/
def State.applyUrgent (s : State) (count : Nat) : State :=
  let on := decide (0 < count)
  if on = s.dispatch.urgent then s
  else
    let s' := (s.setDispatch { s.dispatch with urgent := on }).evaluateAllowance
    if s'.dispatch.allowance = s.dispatch.allowance then s' else s'.checkStanding

/-- ALLOCATION_RESULT_DISPATCH (R78). -/
def execAllocationResultDispatch (s : State) : Host.Outcome State Fault Refusal :=
  match s.events.resultsToDispatch with
  | [] => nothing s
  | r :: rest =>
    done ((((s.setEvents { s.events with resultsToDispatch := rest }).setDispatch
      { s.dispatch with lastTotal := some r.total, basis := some r.round }).applyUrgent r.urgent).computeCommand .result)

/-- SITE_STATE_CHANGE_DISPATCH (R84). -/
def execSiteStateChangeDispatch (s : State) : Host.Outcome State Fault Refusal :=
  match s.events.siteToDispatch with
  | [] => nothing s
  | _ :: rest => done ((s.setEvents { s.events with siteToDispatch := rest }).computeCommand .siteState)

/-- R73: every setting in its own range, and the order of the three thresholds in LIVE. -/
def policyAccepted (part : PartState) (f : PolicyFields) : Bool :=
  decide (f.hardFloor ≤ 1000 ∧ f.softReserve ≤ 1000 ∧ f.fullLimit ≤ 1000 ∧ f.dischargeCap ≤ 1000000 ∧
    f.chargeCap ≤ 1000000 ∧ f.topUp ≤ 1000000 ∧
    (part = .live → f.hardFloor < f.softReserve ∧ f.softReserve < f.fullLimit))

/-- R73: in LIVE the allowance is evaluated and published, and the command recomputed with trigger POLICY. -/
def handleSetBatteryPolicy (s : State) (f : PolicyFields) : Handled :=
  if policyAccepted s.links.part f then
    let s' := s.setDispatch { s.dispatch with policy :=
      { hardFloor := f.hardFloor, softReserve := f.softReserve, fullLimit := f.fullLimit,
        dischargeCap := f.dischargeCap, chargeCap := f.chargeCap, topUp := f.topUp } }
    if s.links.part = .live then
      let e := s'.evaluateAllowance
      let e := if e.dispatch.allowance = s'.dispatch.allowance then e else e.checkStanding
      ok (e.computeCommand .policy)
    else ok s'
  else refuse s .outOfRange

/-- SET_BATTERY_POLICY (R73). -/
def execSetBatteryPolicy (l : Link) (tag : Byte) (p : Payload PolicyFields) (s : State) :
    Host.Outcome State Fault Refusal :=
  serve l 0x05#8 tag false .always noGrant handleSetBatteryPolicy p s

end Sys2Proof.Machine
end

