-- ==== Sys2Proof/Machine/FieldLink.lean ====
section
/-! DEFINITION. The Field Link Controller (chapter 5): targets and decreases, the urgent queue, the decrease set, the
poll cycle, transactions and unit health, and its commands. -/

namespace Sys2Proof.Machine

/-! ### Decreases (R90, R92) -/

/-- R90: the import value of a battery command. -/
def BatteryCommand.importValue : BatteryCommand → Int
  | .idle => 0
  | .charge w => w
  | .discharge w => -(w : Int)
  | .islandSupport => 0

/-- R92: the removal figure of a new target against the delivered command, when the target is a decrease. DESIGN CHOICE
(log 47): a charger target below the delivered setpoint is one, also in the second example of R103. -/
def removalFigure (delivered target : Command) : Option Nat :=
  match delivered, target with
  | .charger _ _, .charger _ _ =>
    if target.setpoint < delivered.setpoint then some (100 * (delivered.setpoint - target.setpoint)) else none
  | .battery d, .battery t =>
    if t = .islandSupport then (if d = .islandSupport then none else some Config.islandFigure)
    else if t.importValue < d.importValue then some (d.importValue - t.importValue).toNat
    else none
  | .inverter (some d), .inverter (some t) => if t < d then some (d - t) else none
  | _, _ => none

/-- The removal figure of a unit's target as it stands. -/
def FieldUnit.figure (u : FieldUnit) : Option Nat := removalFigure u.delivered u.target

/-! ### The urgent queue (R100) -/

/-- Largest figure first, and among equal figures the lower unit index. -/
def UrgentEntry.before (a b : UrgentEntry) : Bool :=
  decide (b.figure < a.figure) || (decide (a.figure = b.figure) && decide (a.unit < b.unit))

/-- An entry put into its place of the order. -/
def insertUrgent (e : UrgentEntry) : List UrgentEntry → List UrgentEntry
  | [] => [e]
  | x :: rest => if x.before e then x :: insertUrgent e rest else e :: x :: rest

/-- The queue without a unit's entry. -/
def removeUrgent (unit : Nat) (q : List UrgentEntry) : List UrgentEntry := q.filter fun e => e.unit != unit

/-- R100: a unit has at most one entry, with the figure given. -/
def placeUrgent (unit figure : Nat) (q : List UrgentEntry) : List UrgentEntry :=
  insertUrgent { unit := unit, figure := figure } (removeUrgent unit q)

/-! ### The decrease set (R101, R102): unit indices in ascending order -/

/-- A member put into its place of an ascending list that does not hold it. -/
def insertMember (unit : Nat) : List Nat → List Nat
  | [] => [unit]
  | x :: rest => if x < unit then x :: insertMember unit rest else unit :: x :: rest

def removeMember (unit : Nat) (xs : List Nat) : List Nat := xs.filter fun x => x != unit

def addMember (unit : Nat) (xs : List Nat) : List Nat := insertMember unit (removeMember unit xs)

/-! ### New targets (R91, R92, R100, R102) -/

/-- R100, R102: the unit's target assessed against its delivered command. A decrease gets an urgent entry with its
figure, whatever the health, and membership of the decrease set unless the unit is LOST; any other target leaves
both. DESIGN CHOICE (log 47): by the table of R92, against the second example of R103, a charger that was delivered RUN 98 and
whose target rises from RUN 60 to RUN 80 stays a member. -/
def FieldLinkController.assess (f : FieldLinkController) (u : Nat) : FieldLinkController :=
  match (f.unit u).figure with
  | none => { f with urgent := removeUrgent u f.urgent, decrease := removeMember u f.decrease }
  | some figure =>
    { f with urgent := placeUrgent u figure f.urgent
             decrease := if (f.unit u).health = .lost then removeMember u f.decrease else addMember u f.decrease }

/-- R91: a unit's target replaced and assessed. -/
def FieldLinkController.retarget (f : FieldLinkController) (u : Nat) (c : Command) : FieldLinkController :=
  (f.setUnit u { f.unit u with target := c }).assess u

/-- R103: after a delivered command is recorded. -/
def FieldLinkController.reassess (f : FieldLinkController) (u : Nat) : FieldLinkController :=
  match (f.unit u).figure with
  | none => { f with urgent := removeUrgent u f.urgent, decrease := removeMember u f.decrease }
  | some figure =>
    if f.urgent.any fun e => e.unit == u then { f with urgent := placeUrgent u figure f.urgent } else f

/-! ### The poll cycle (R93) -/

/-- The present chargers in port order, the present inverters in number order, the battery if present. -/
def unitRun (f : FieldLinkController) : List Nat :=
  (portNumbers ++ [35, 36, 37, 38, 39]).filter fun u => (f.unit u).present

/-- The run in groups of 8, the grid meter and the store meter after each group; `left` counts what the present group
still takes. -/
def withMeters : Nat → List Nat → List Nat
  | _, [] => [33, 34]
  | 0, u :: rest => 33 :: 34 :: u :: withMeters 7 rest
  | left + 1, u :: rest => u :: withMeters left rest

/-- R93: the cycle; a run without units has no group. -/
def pollCycle (f : FieldLinkController) : List Nat :=
  match unitRun f with
  | [] => []
  | run => withMeters 8 run

/-! ### Polling (R94, R95, R104) -/

/-- R104: under raise hold a charger whose target setpoint is above its delivered setpoint is sent its delivered
command; every other sendable command is the target. -/
def FieldLinkController.sendable (f : FieldLinkController) (u : Nat) : Command :=
  match (f.unit u).target with
  | .charger mode setpoint =>
    if f.decrease ≠ [] ∧ (f.unit u).delivered.setpoint < (Command.charger mode setpoint).setpoint then (f.unit u).delivered
    else .charger mode setpoint
  | other => other

/-- A transaction begun with a unit: its urgent entry is removed, and the poll takes the sendable command and the
reply timeout as they stand (R94 to R96). -/
def FieldLinkController.poll (f : FieldLinkController) (u : Nat) (urgent : Bool) : FieldLinkController :=
  { f with
    urgent := removeUrgent u f.urgent
    transaction := some { unit := u, command := f.sendable u, urgent := urgent, timeout := f.replyTimeout,
                          replyTimer := none } }

/-- R93: the cycle position advances by one entry, from the last to the first. -/
def FieldLinkController.advance (f : FieldLinkController) : FieldLinkController :=
  { f with position := if f.position + 1 < f.cycle.length then f.position + 1 else 0 }

/-- R94: the next poll, from the head of the urgent queue, else from the cycle position. -/
def FieldLinkController.nextPoll (f : FieldLinkController) : FieldLinkController :=
  match f.urgent with
  | e :: _ => f.poll e.unit true
  | [] =>
    match f.cycle[f.position]? with
    | none => { f with transaction := none }
    | some u => (f.advance).poll u false

/-- POLL_END (R95): the reply timer starts with the reply timeout of the transaction. -/
def execPollEnd (s : State) : Host.Outcome State Fault Refusal :=
  match s.field.transaction with
  | none => nothing s
  | some t =>
    match t.replyTimer with
    | some _ => nothing s
    | none =>
      done (s.setField { s.field with transaction := some { t with replyTimer := some (s.runTime + t.timeout) } })

/-! ### Reports (R99, R180) -/

/-- The poll kind of a unit index; a report's kind is this plus 0x80 (11.6). -/
def pollKind (u : Nat) : Nat :=
  if u ≤ 32 then 1 else if u = 33 then 2 else if u = 34 then 3 else if u ≤ 38 then 4 else 5

/-- The payload size of a unit's report (11.6). -/
def reportSize (u : Nat) : Nat :=
  if u ≤ 32 then 16 else if u = 33 then 5 else if u = 34 then 4 else if u ≤ 38 then 13 else 20

/-- The charger mode of a code (R174). -/
def chargerModeOf (code : Nat) : Option ChargerMode :=
  if code = 0 then some .lockout else if code = 1 then some .pause else if code = 2 then some .run else none

/-- The battery command of a mode and a power (11.6): IDLE and ISLAND_SUPPORT carry a power of 0. -/
def batteryCommandOf (mode power : Nat) : Option BatteryCommand :=
  if mode = 0 then (if power = 0 then some .idle else none)
  else if mode = 1 then some (.charge power)
  else if mode = 2 then some (.discharge power)
  else if mode = 3 then (if power = 0 then some .islandSupport else none)
  else none

/-- The command a report echoes; a meter's report echoes none (R180). -/
def echoOf (u : Nat) (payload : List Byte) : Option Command :=
  if u ≤ 32 then (chargerModeOf (field payload 0 1)).map fun m => .charger m (field payload 1 2)
  else if u ≤ 34 then some .meter
  else if u ≤ 38 then some (.inverter (some (field payload 0 4)))
  else (batteryCommandOf (field payload 0 1) (field payload 1 4)).map .battery

/-- A bit of a status byte. -/
def statusBit (payload : List Byte) (offset bit : Nat) : Bool := (field payload offset 1).testBit bit

/-- R180: a battery state code above 2 is taken as FAULT. -/
def batteryStateOf (code : Nat) : BatteryState :=
  if code = 0 then .ready else if code = 2 then .islanded else .fault

/-- What the Site Balance Unit is handed of a report (R99). -/
def reportValues (u : Nat) (p : List Byte) : ReportValues :=
  if u ≤ 32 then .charger (wattsField p 8)
  else if u = 33 then .grid (wattsField p 0) (statusBit p 4 0)
  else if u = 34 then .store (wattsField p 0)
  else if u ≤ 38 then .inverter (wattsField p 4) (wattsField p 8) (statusBit p 12 0)
  else .battery (field p 5 2) (wattsField p 7) (wattsField p 11) (wattsField p 15) (batteryStateOf (field p 19 1))

/-- What the Session Controller is handed of a charger's report (R99). -/
def chargerReportOf (u : Nat) (p : List Byte) (report : Nat) : ChargerReport :=
  { port := u, connected := statusBit p 3 0, acceptance := wattsField p 4, power := wattsField p 8,
    fault := statusBit p 3 1, hasReading := statusBit p 3 2, report := report }

/-- What the Metering Unit is handed of a charger's report (R99, R107, R180). -/
def meterReadingOf (u : Nat) (p : List Byte) (arrival report : Nat) : MeterReading :=
  { port := u, value := if statusBit p 3 2 then some (field p 12 4) else none, arrival := arrival, report := report }

/-- The check of a field frame: over the address, the length, the kind and the payload (11.6). -/
def fieldCheck (f : FieldFrame) : Check :=
  crc16 (f.address :: byte (f.payload.length + 1) :: f.kind :: f.payload)

/-- R95, R180: the four conditions of a valid reply to a transaction, and the payload size of its kind. -/
def validReply (f : FieldLinkController) (t : Transaction) (frame : FieldFrame) : Bool :=
  decide (frame.check = fieldCheck frame) &&
  decide ((f.unit t.unit).address = some frame.address.toNat) &&
  decide (frame.kind.toNat = pollKind t.unit + 128) &&
  decide (reportSize t.unit ≤ frame.payload.length) &&
  decide (echoOf t.unit frame.payload = some t.command)

/-! ### The end of a transaction (R95, R97 to R99) -/

/-- R98: a change of health is sent to the Site Balance Unit, and a charger's change to or from LOST to the Session
Controller. -/
def State.healthChanged (s : State) (u : Nat) (before after : Health) : State :=
  if before = after then s
  else
    let h : HealthChange := { unit := u, before := before, after := after }
    let s := s.sendHealth h
    if u ≤ 32 ∧ (before = .lost ∨ after = .lost) then s.sendChargerHealth h else s

/-- R99: the report handed to the blocks that own its contents. -/
def State.handReport (s : State) (u : Nat) (p : List Byte) (report : Nat) : State :=
  let s := s.sendReport { unit := u, values := reportValues u p }
  if u ≤ 32 then (s.sendChargerReport (chargerReportOf u p report)).sendReading (meterReadingOf u p s.runTime report)
  else if u = 39 then s.sendBatteryReport (reportValues u p)
  else s

/-- R95 steps 1 and 2, R97, R102, R103 at the controller: the delivered command recorded and reassessed, the last
report time and miss count set, health OK; a unit back from LOST is assessed afresh for the set and the queue. -/
def FieldLinkController.recordReply (f : FieldLinkController) (u : Nat) (c : Command) (now : Nat) : FieldLinkController :=
  let before := (f.unit u).health
  let f := (f.setUnit u { f.unit u with delivered := c }).reassess u
  let f := { f.setUnit u { f.unit u with lastReport := some now, misses := 0, health := .ok } with reports := f.reports + 1 }
  if before = .lost then f.assess u else f

/-- A valid reply (R95): recorded, the report and the health change handed on, the next poll chosen (R94). -/
def State.replyValid (s : State) (t : Transaction) (p : List Byte) : State :=
  let before := (s.field.unit t.unit).health
  let s := s.setField (s.field.recordReply t.unit t.command s.runTime)
  let s := if before = .lost then s.raise .unitBack t.unit else s
  let s := (s.healthChanged t.unit before .ok).handReport t.unit p s.field.reports
  s.setField s.field.nextPoll

/-- R97: the health after a miss, from the miss count after it. -/
def missHealth (before : Health) (misses : Nat) : Health := if misses < 3 then (if before = .lost then .lost else .missed) else .lost

/-- R97, R98, R100: the controller after a miss; a unit that becomes LOST leaves the decrease set and the queue. -/
def FieldLinkController.recordMiss (f : FieldLinkController) (u : Nat) : FieldLinkController :=
  let x := f.unit u
  let misses := min 255 (x.misses + 1)
  let after := missHealth x.health misses
  let f := f.setUnit u { x with misses := misses, health := after }
  if after = .lost ∧ x.health ≠ .lost then
    { f with urgent := removeUrgent u f.urgent, decrease := removeMember u f.decrease }
  else f

/-- A transaction that ends as a miss (R97), and the next poll (R94). -/
def State.replyMissed (s : State) (t : Transaction) : State :=
  let before := (s.field.unit t.unit).health
  let s := s.setField (s.field.recordMiss t.unit)
  let after := (s.field.unit t.unit).health
  let s := if after = .lost ∧ before ≠ .lost then s.raise .unitLost t.unit else s
  let s := s.healthChanged t.unit before after
  s.setField s.field.nextPoll

/-- FIELD_REPLY (R95): discarded while no transaction awaits a reply. -/
def execFieldReply (frame : FieldFrame) (s : State) : Host.Outcome State Fault Refusal :=
  match s.field.transaction with
  | none => nothing s
  | some t =>
    match t.replyTimer with
    | none => nothing s
    | some _ => done (if validReply s.field t frame then s.replyValid t frame.payload else s.replyMissed t)

/-- REPLY_TIMEOUT (R95, R97). -/
def execReplyTimeout (s : State) : Host.Outcome State Fault Refusal :=
  match s.field.transaction with
  | none => nothing s
  | some t =>
    match t.replyTimer with
    | none => nothing s
    | some expiry => done ((s.reach expiry).replyMissed t)

/-! ### Targets taken (R65, R86, R91, R102) -/

/-- R65: the charger target of a port target, from the port and session as they stand. -/
def chargerTargetOf (c : SessionController) (t : PortTarget) : Command :=
  match (c.record t.port).state, c.holder t.port with
  | some .inSession, some x =>
    if t.session = some x.number ∧ x.state = .active ∧ 0 < t.setpoint then .charger .run t.setpoint else .charger .pause 0
  | some .inSession, none => .charger .pause 0
  | _, _ => .charger .lockout 0

/-- R102: a result covers every charger; the members it covers are removed, then admitted afresh. -/
def FieldLinkController.takeTargets (f : FieldLinkController) (c : SessionController) (ts : List PortTarget) :
    FieldLinkController :=
  ts.foldl (fun f t => f.retarget t.port (chargerTargetOf c t)) { f with decrease := f.decrease.filter fun u => 32 < u }

/-- ALLOCATION_RESULT_FIELD (R65). -/
def execAllocationResultField (s : State) : Host.Outcome State Fault Refusal :=
  match s.events.resultsToField with
  | [] => nothing s
  | r :: rest =>
    done ((s.setEvents { s.events with resultsToField := rest }).setField (s.field.takeTargets s.sessions r.targets))

/-- CHARGER_TARGET (R91): the oldest target of the port that waits for the Field Link Controller. -/
def execChargerTarget (port : Nat) (s : State) : Host.Outcome State Fault Refusal :=
  match takeFirst (fun t => t.port == port) s.events.chargerTargets with
  | none => nothing s
  | some (t, rest) =>
    done ((s.setEvents { s.events with chargerTargets := rest }).setField
      (s.field.retarget t.port (.charger t.mode t.setpoint)))

/-- R102: a hand-over covers the battery and every inverter. -/
def FieldLinkController.takeHandover (f : FieldLinkController) (h : Handover) : FieldLinkController :=
  let f := { f with decrease := f.decrease.filter fun u => u ≤ 32 }
  let f := h.limits.foldl (fun f x => f.retarget (34 + x.1) (.inverter (some x.2))) f
  match h.battery with
  | none => f
  | some c => f.retarget 39 (.battery c)

/-- R86: a hand-over that follows a result reaches the controller after that result's charger targets. -/
def mayReach (waiting : List AllocationResult) (h : Handover) : Bool :=
  match h.follows with
  | none => true
  | some n => waiting.all fun r => r.round != n

/-- DISPATCH_HANDOVER (R86, R102). -/
def execDispatchHandover (s : State) : Host.Outcome State Fault Refusal :=
  match s.events.handovers with
  | [] => nothing s
  | h :: rest =>
    if mayReach s.events.resultsToField h then
      done ((s.setEvents { s.events with handovers := rest }).setField (s.field.takeHandover h))
    else nothing s

/-! ### SET_UNIT (R89) -/

/-- A yes-or-no field: 1 or 0 (R176). -/
def isYesNo (n : Nat) : Bool := decide (n ≤ 1)

/-- R1, R89: whether another present unit, charger or other, has the address. -/
def addressTaken (f : FieldLinkController) (self address : Nat) : Bool :=
  (List.range' 1 39).any fun u => u != self && (f.unit u).present && (f.unit u).address == some address

/-- The unit index a SET_UNIT names (R88); none for a kind or number outside the list. -/
def unitNamed (f : UnitFields) : Option Nat :=
  if f.kind = 0 then some 33
  else if f.kind = 1 then some 34
  else if f.kind = 2 then (if 1 ≤ f.inverter ∧ f.inverter ≤ 4 then some (34 + f.inverter) else none)
  else if f.kind = 3 then some 39
  else none

/-- The measurement record of a unit index as it is when the unit becomes present or absent: no value (R28). -/
def SiteBalanceUnit.forget (b : SiteBalanceUnit) (u : Nat) : SiteBalanceUnit :=
  if u = 33 then { b with grid := Measurement.reset, overrun := false }
  else if u = 34 then { b with store := Measurement.reset }
  else if u ≤ 38 then { b with inverters := put b.inverters (u - 34) Measurement.reset }
  else { b with battery := Measurement.reset }

/-- R88, R89: the unit entry of an accepted SET_UNIT or SET_PORT. An inverter's limits follow its rated power. -/
def configuredUnit (old : FieldUnit) (u address rated : Nat) (present : Bool) : FieldUnit :=
  if present then
    (if 35 ≤ u ∧ u ≤ 38 then
      { old with present := true, address := some address, rated := some rated, target := .inverter (some rated),
                 delivered := .inverter (some rated) }
     else { old with present := true, address := some address })
  else FieldUnit.reset u

/-- R72: an inverter's limit in the Battery Dispatch Unit; the other units have none. -/
def configuredLimits (v : Vector (Option Nat) 4) (u rated : Nat) (present : Bool) : Vector (Option Nat) 4 :=
  if 35 ≤ u ∧ u ≤ 38 then put v (u - 34) (if present then some rated else none) else v

/-- R89. -/
def handleSetUnit (s : State) (f : UnitFields) : Handled :=
  match unitNamed f with
  | none => refuse s .outOfRange
  | some u =>
    if 1 ≤ f.address ∧ f.address ≤ 247 ∧ isYesNo f.present = true ∧
        (35 ≤ u ∧ u ≤ 38 → 100 ≤ f.rated ∧ f.rated ≤ 1000000) then
      if f.present = 1 ∧ addressTaken s.field u f.address then refuse s .duplicate
      else
        let present := f.present == 1
        let s := s.setField (s.field.setUnit u (configuredUnit (s.field.unit u) u f.address f.rated present))
        let s := s.setBalance (s.balance.forget u)
        ok (s.setDispatch { s.dispatch with limits := configuredLimits s.dispatch.limits u f.rated present })
    else refuse s .outOfRange

/-- SET_UNIT (R89). -/
def execSetUnit (l : Link) (tag : Byte) (p : Payload UnitFields) (s : State) : Host.Outcome State Fault Refusal :=
  serve l 0x04#8 tag false .setupOnly noGrant handleSetUnit p s

end Sys2Proof.Machine
end

