-- ==== Sys2Proof/Machine/Metering.lean ====
section
/-! DEFINITION. The Metering Unit (chapter 6): the application of a reading, attribution to sources, and the
discrepancy log. -/

namespace Sys2Proof.Machine

/-! ### The session table -/

/-- The session with a number (R6: numbers are distinct in the table). -/
def SessionController.find (c : SessionController) (n : Nat) : Option Session := c.table.find? fun x => x.number == n

/-- A session's record changed in place. -/
def SessionController.update (c : SessionController) (n : Nat) (f : Session → Session) : SessionController :=
  { c with table := c.table.map fun x => if x.number = n then f x else x }

/-! ### One delta (R110 to R115) -/

/-- R110: ceil(Cmax × t / 28,800) + 10 Wh. -/
def plausibilityBound (cmax t : Nat) : Nat := (cmax * t + 28799) / 28800 + 10

/-- R112: whether a session accepts energy. -/
def Session.acceptsEnergy (x : Session) : Bool :=
  match x.state with
  | .active | .dormant | .held | .closing => true
  | .plugged | .pricing | .waitQueue => false

/-- R114, R115: the part of a delta that brings E_total to its cap at most, attributed with the mix; CLAMPED when a
rest is left. DESIGN CHOICE (log 38): a delta of 0 leaves CLAMPED as it was, at the cap as well. -/
def Session.attribute (x : Session) (delta : Nat) (m : Mix) : Session :=
  let e := min delta (Config.energyCap - x.total)
  { x with
    total := x.total + e
    solarAcc := x.solarAcc + e * m.solar
    batteryAcc := x.batteryAcc + e * m.battery
    flags := { x.flags with clamped := x.flags.clamped || decide (e < delta) } }

/-- R115: the rest of a delta that E_total cannot take. -/
def Session.overflow (x : Session) (delta : Nat) : Nat := delta - (Config.energyCap - x.total)

/-- R114: solar Wh. -/
def Session.solarWh (x : Session) : Nat := x.solarAcc / 1024

/-- R114: battery Wh. -/
def Session.batteryWh (x : Session) : Nat := x.batteryAcc / 1024

/-- R114: grid Wh. -/
def Session.gridWh (x : Session) : Nat := x.total - x.solarWh - x.batteryWh

/-- What the plausibility check makes of a reading (R109 to R111): the delta to be billed, the excess for the
unbilled counter, and the discrepancy found. -/
structure Checked where
  delta : Nat
  excess : Nat
  kind : Option DiscrepancyKind
  bound : Option Nat
  deriving DecidableEq, Repr

/-- R109 to R111. -/
def checkReading (last reading bound : Nat) : Checked :=
  if reading < last then { delta := 0, excess := 0, kind := some .major, bound := none }
  else if bound < reading - last then
    { delta := bound, excess := reading - last - bound, kind := some .minor, bound := some bound }
  else { delta := reading - last, excess := 0, kind := none, bound := some bound }

/-- R109, R111: the flag a discrepancy leaves on a session that accepts energy. -/
def Session.discrepant (x : Session) (kind : Option DiscrepancyKind) : Session :=
  match kind with
  | none => x
  | some .major => { x with flags := { x.flags with estimated := true } }
  | some .minor => { x with flags := { x.flags with clamped := true } }

/-- R107 step 5. -/
def Session.returnHighest (x : Session) : Session := { x with highest := x.allocation }

/-- R107 to R115: the session that holds the port, after a checked delta. -/
def Session.applyDelta (x : Session) (k : Checked) (m : Mix) : Session :=
  if x.acceptsEnergy then ((x.discrepant k.kind).attribute k.delta m).returnHighest else x.returnHighest

/-- R111, R112, R115: what the port's unbilled counter gains. -/
def unbilledGain (holder : Option Session) (k : Checked) : Nat :=
  k.excess + match holder with
    | none => k.delta
    | some x => if x.acceptsEnergy then x.overflow k.delta else k.delta

/-- R108: the first reading of a port gives an authorized session its meter start. -/
def Session.firstReading (x : Session) (reading : Nat) : Session :=
  { x with meterStart := if x.authorizer.isSome ∧ x.meterStart = none then some reading else x.meterStart }.returnHighest

/-! ### The discrepancy log (R118) -/

/-- R118: the counter of the kind rises, and the record changes as the table gives. -/
def DiscrepancyLog.add (g : DiscrepancyLog) (d : Discrepancy) : DiscrepancyLog :=
  match d.kind, g.lock with
  | .minor, .empty => { g with record := some d, lock := .holdingMinor, minor := min 255 (g.minor + 1) }
  | .minor, _ => { g with minor := min 255 (g.minor + 1) }
  | .major, .holdingMajor => { g with major := min 255 (g.major + 1) }
  | .major, _ => { g with record := some d, lock := .holdingMajor, major := min 255 (g.major + 1) }

def MeteringUnit.meter (m : MeteringUnit) (p : Nat) : PortMeter := nth m.meters PortMeter.reset p

def MeteringUnit.setMeter (m : MeteringUnit) (p : Nat) (x : PortMeter) : MeteringUnit :=
  { m with meters := put m.meters p x }

/-- A discrepancy logged, and METER_DISCREPANCY raised with the port (R118). -/
def State.logDiscrepancy (s : State) (d : Discrepancy) : State :=
  (s.setMetering { s.metering with log := s.metering.log.add d }).raise .meterDiscrepancy d.port

/-! ### The application of a reading (R107) -/

/-- R107 on a port with a last reading: check, attribute, store, return, log. -/
def State.applyReading (s : State) (r : MeterReading) (reading last since : Nat) : State :=
  let holder := s.sessions.holder r.port
  let cmax := match holder with
    | none => 0
    | some x => x.highest
  let k := checkReading last reading (plausibilityBound cmax (r.arrival - since))
  let meter := s.metering.meter r.port
  let s := s.setMetering (s.metering.setMeter r.port
    { last := some reading, arrival := some r.arrival, unbilled := saturate32 (meter.unbilled + unbilledGain holder k) })
  let s := match holder with
    | none => s
    | some x => s.setSessions (s.sessions.update x.number fun y => y.applyDelta k s.balance.record.mix)
  match k.kind with
  | none => s
  | some kind =>
    s.logDiscrepancy { kind := kind, port := r.port, session := holder.map Session.number, reading := reading,
                       last := last, bound := if kind = .minor then k.bound else none, time := s.siteTime }

/-- R108: a reading on a port with no last reading is stored, and no delta is taken. -/
def State.applyFirstReading (s : State) (r : MeterReading) (reading : Nat) : State :=
  let meter := s.metering.meter r.port
  let s := s.setMetering (s.metering.setMeter r.port { meter with last := some reading, arrival := some r.arrival })
  match s.sessions.holder r.port with
  | none => s
  | some x => s.setSessions (s.sessions.update x.number fun y => y.firstReading reading)

/-- R107: a report that marks its reading unavailable changes no record; every report ends in a reading-applied
event. -/
def State.takeReading (s : State) (r : MeterReading) : State :=
  let s := match r.value with
    | none => s
    | some reading =>
      match (s.metering.meter r.port).last with
      | none => s.applyFirstReading r reading
      | some last => s.applyReading r reading last ((s.metering.meter r.port).arrival.getD r.arrival)
  s.sendReadingApplied { port := r.port, value := r.value, arrival := r.arrival, report := r.report }

/-- READING_APPLICATION (R107): the oldest reading of the port that waits for the Metering Unit. -/
def execReadingApplication (port : Nat) (s : State) : Host.Outcome State Fault Refusal :=
  match takeFirst (fun r => r.port == port) s.events.readings with
  | none => nothing s
  | some (r, rest) => done ((s.setEvents { s.events with readings := rest }).takeReading r)

end Sys2Proof.Machine
end

