-- ==== Sys2Proof/Machine/Store.lean ====
section
/-! DEFINITION. The Tariff Store (chapter 7): the bytes of a slot, the examination at power-on, the store operation,
the active pointer and the use counts, and its commands. -/

namespace Sys2Proof.Machine

/-! ### The tariff record and its bytes (R122, R177) -/

/-- R122, as a slot holds it. -/
structure Tariff where
  id : Nat
  rate : BySource
  idleGrace : Nat
  idleRate : Nat
  idleCap : Nat
  step : Nat
  perStep : Nat
  allowanceCap : Nat
  label : List Byte
  deriving DecidableEq, Repr

/-- The 22 fixed bytes of a tariff record (R177). -/
def tariffFixed (f : TariffFields) : List Byte :=
  le 2 f.id ++ le 2 f.solarRate ++ le 2 f.batteryRate ++ le 2 f.gridRate ++ le 1 f.idleGrace ++ le 2 f.idleRate ++
    le 3 f.idleCap ++ le 3 f.step ++ le 2 f.perStep ++ le 3 f.allowanceCap

/-- The 35 record bytes as kept: the label padded to 12 bytes with 0x00 (R177). -/
def tariffKept (f : TariffFields) : List Byte :=
  let label := f.label.getD []
  tariffFixed f ++ byte label.length :: label ++ List.replicate (12 - label.length) 0x00#8

/-- R177: the check over the slot number and the 35 record bytes as kept. -/
def slotCheck (slot : Nat) (kept : List Byte) : Check := crc16 (byte slot :: kept)

/-- The 37 bytes a PROGRAM_TARIFF intends for a slot (R177). DEDUCED (log 46): the low byte of the stored check lies first. -/
def slotImage (slot : Nat) (f : TariffFields) : List Byte := tariffKept f ++ checkBytes (slotCheck slot (tariffKept f))

/-- The record in a slot's bytes, as read (R128). DESIGN CHOICE (log 40): a label length byte above 12 counts as 12. -/
def readTariff (bytes : List Byte) : Tariff :=
  { id := field bytes 0 2
    rate := { solar := field bytes 2 2, battery := field bytes 4 2, grid := field bytes 6 2 }
    idleGrace := field bytes 8 1
    idleRate := field bytes 9 2
    idleCap := field bytes 11 3
    step := field bytes 14 3
    perStep := field bytes 17 2
    allowanceCap := field bytes 19 3
    label := (bytes.drop 23).take (min 12 (field bytes 22 1)) }

/-- The record bytes a READ_TARIFF reply carries: the fixed bytes and the label as a text (R177). -/
def recordBytes (bytes : List Byte) : List Byte := bytes.take 22 ++ textBytes (some (readTariff bytes).label)

/-- R121: a slot's state by its contents. DEDUCED (log 46): the low byte of the stored check lies first. -/
def examine (slot : Nat) (bytes : List Byte) : SlotState :=
  if bytes = erasedPattern then .empty
  else if bytes.drop 35 = checkBytes (slotCheck slot (bytes.take 35)) then .valid
  else .bad

/-- R122: every field in its range and the label of 0 to 12 ASCII characters; an absent label is refused (R177). DEDUCED
(log 39): an ASCII character is a byte of 0 to 0x7F. -/
def tariffInRange (f : TariffFields) : Bool :=
  decide (1 ≤ f.id ∧ f.id ≤ 65535 ∧ f.solarRate ≤ 65535 ∧ f.batteryRate ≤ 65535 ∧ f.gridRate ≤ 65535 ∧
    f.idleGrace ≤ 240 ∧ f.idleRate ≤ 1000 ∧ f.idleCap ≤ 100000 ∧ f.step ≤ 100000 ∧ f.perStep ≤ 50000 ∧
    f.allowanceCap ≤ 100000) &&
  match f.label with
  | none => false
  | some t => decide (t.length ≤ 12) && t.all fun b => decide (b.toNat < 128)

/-! ### Use counts (R130) -/

/-- R130: the use count of a slot raised by one. -/
def TariffStore.bind (t : TariffStore) (k : Nat) : TariffStore :=
  t.setSlot k { t.slot k with uses := (t.slot k).uses + 1 }

/-- R130: lowered by one, a count at 0 stays at 0. -/
def TariffStore.release (t : TariffStore) (k : Nat) : TariffStore :=
  t.setSlot k { t.slot k with uses := (t.slot k).uses - 1 }

/-! ### The operation in flight (R123 to R126) -/

/-- R123: the checks after the range check. -/
def operationRefusal (t : TariffStore) (slot : Nat) : Option Status :=
  if t.active = some slot ∨ (t.slot slot).uses ≠ 0 then some .inUse
  else if t.siteCopy = .island ∨ t.siteCopy = .restoring then some .supply
  else if t.operation.isSome then some .busy
  else none

/-- R123, R124: an operation accepted; its slot is BUSY and it starts in ERASING. -/
def TariffStore.start (t : TariffStore) (slot : Nat) (kind : StoreKind) (image : List Byte) : TariffStore :=
  { t.setSlot slot { t.slot slot with state := .busy } with
    operation := some { slot := slot, kind := kind, image := image, phase := .erasing } }

/-- R123: an operation request that passed its range check. -/
def startOperation (s : State) (slot : Nat) (kind : StoreKind) (image : List Byte) : Handled :=
  match operationRefusal s.store slot with
  | some status => refuse s status
  | none => { state := s.setStore (s.store.start slot kind image), status := .accepted, body := [] }

/-- R131: the data word of TARIFF_DONE, its four bytes read as a number (R175). -/
def tariffDoneData (slot : Nat) (kind : StoreKind) (result : StoreResult) : Nat :=
  slot + 256 * (match kind with
    | .program => 0
    | .erase => 1) + 65536 * (match result with
    | .ok => 0
    | .failed => 1
    | .aborted => 2)

/-- Bytes that the manual does not give: a slot whose erasing or writing was cut short, or whose verify failed. -/
def cutShort (draw : Nat) : List Byte := (List.range 37).map (Config.cutShortByte draw)

/-- R125, R121: what an operation that is stopped leaves in its slot. In VERIFYING everything has been written; in
ERASING and in WRITING of a program whatever has been written, a free value. -/
def leftBehind (s : State) (op : StoreOperation) : List Byte :=
  match op.phase with
  | .verifying => (s.store.slot op.slot).bytes
  | .erasing | .writing => cutShort s.draws

/-- The operation in flight stopped where it stands: its slot's bytes are what is left behind, its state BAD, and the
operation is cleared (R125, R126). -/
def State.stopOperation (s : State) (op : StoreOperation) : State :=
  { s.setStore { s.store.setSlot op.slot { s.store.slot op.slot with bytes := leftBehind s op, state := .bad } with
      operation := none } with draws := s.draws + 1 }

/-- ERASING_END (R124): the slot holds the erased pattern. An ERASE writes nothing, so its WRITING phase ends at
once. -/
def execErasingEnd (s : State) : Host.Outcome State Fault Refusal :=
  match s.store.operation with
  | none => nothing s
  | some op =>
    if op.phase = .erasing then
      done (s.setStore { s.store.setSlot op.slot { s.store.slot op.slot with bytes := erasedPattern } with
        operation := some { op with phase := if op.kind = .program then .writing else .verifying } })
    else nothing s

/-- WRITING_END (R124): the record and its check are written. -/
def execWritingEnd (s : State) : Host.Outcome State Fault Refusal :=
  match s.store.operation with
  | none => nothing s
  | some op =>
    if op.phase = .writing then
      done (s.setStore { s.store.setSlot op.slot { s.store.slot op.slot with bytes := op.image } with
        operation := some { op with phase := .verifying } })
    else nothing s

/-- R124 step 1: the slot's new state. -/
def verifiedState (kind : StoreKind) (verified : Bool) : SlotState :=
  if verified then (match kind with
    | .program => .valid
    | .erase => .empty)
  else .bad

/-- R124: the slot's state, the operation cleared, TARIFF_DONE, the store-free event. A slot that did not read back as
intended holds bytes the manual does not give. -/
def State.completeOperation (s : State) (op : StoreOperation) (verified : Bool) : State :=
  let bytes := if verified then (s.store.slot op.slot).bytes else cutShort s.draws
  let s := { s with draws := if verified then s.draws else s.draws + 1 }
  let s := s.setStore { s.store.setSlot op.slot
    { s.store.slot op.slot with bytes := bytes, state := verifiedState op.kind verified } with operation := none }
  (s.raise .tariffDone (tariffDoneData op.slot op.kind (if verified then .ok else .failed))).sendStoreFree

/-- OPERATION_COMPLETION (R124): at the end of VERIFYING. -/
def execOperationCompletion (verified : Bool) (s : State) : Host.Outcome State Fault Refusal :=
  match s.store.operation with
  | none => nothing s
  | some op => if op.phase = .verifying then done (s.completeOperation op verified) else nothing s

/-- R125: an abort on entry to ISLAND. -/
def State.abortOperation (s : State) : State :=
  match s.store.operation with
  | none => s
  | some op =>
    ((s.stopOperation op).raise .tariffDone (tariffDoneData op.slot op.kind .aborted)).sendStoreFree

/-- SITE_STATE_CHANGE_STORE (R125): the copy follows every change; only the entry to ISLAND aborts. -/
def execSiteStateChangeStore (s : State) : Host.Outcome State Fault Refusal :=
  match s.events.siteToStore with
  | [] => nothing s
  | c :: rest =>
    let s := s.setEvents { s.events with siteToStore := rest }
    let s := s.setStore { s.store with siteCopy := c.after }
    done (if c.after = .island then s.abortOperation else s)

/-! ### Requests -/

/-- R123. -/
def handleProgramTariff (s : State) (f : ProgramFields) : Handled :=
  if f.slot ≤ 7 ∧ tariffInRange f.record = true then startOperation s f.slot .program (slotImage f.slot f.record)
  else refuse s .outOfRange

/-- PROGRAM_TARIFF (R123). -/
def execProgramTariff (l : Link) (tag : Byte) (p : Payload ProgramFields) (s : State) :
    Host.Outcome State Fault Refusal :=
  serve l 0x30#8 tag false .always noGrant handleProgramTariff p s

/-- R123. -/
def handleEraseTariff (s : State) (slot : Nat) : Handled :=
  if slot ≤ 7 then startOperation s slot .erase erasedPattern else refuse s .outOfRange

/-- ERASE_TARIFF (R123). -/
def execEraseTariff (l : Link) (tag : Byte) (p : Payload Nat) (s : State) : Host.Outcome State Fault Refusal :=
  serve l 0x31#8 tag false .always noGrant handleEraseTariff p s

/-- R129: the pointer names the slot, and the activation event is sent whether or not it has moved. -/
def handleActivateTariff (s : State) (slot : Nat) : Handled :=
  if slot ≤ 7 then
    if (s.store.slot slot).state = .valid then ok ((s.setStore { s.store with active := some slot }).sendActivation slot)
    else refuse s .wrongState
  else refuse s .outOfRange

/-- ACTIVATE_TARIFF (R129). -/
def execActivateTariff (l : Link) (tag : Byte) (p : Payload Nat) (s : State) : Host.Outcome State Fault Refusal :=
  serve l 0x32#8 tag false .always noGrant handleActivateTariff p s

def SlotState.code : SlotState → Nat
  | .empty => 0
  | .valid => 1
  | .bad => 2
  | .busy => 3

def StoreKind.code : StoreKind → Nat
  | .program => 0
  | .erase => 1

def StorePhase.code : StorePhase → Nat
  | .erasing => 0
  | .writing => 1
  | .verifying => 2

/-- R177: what follows OK in the reply to READ_TARIFF. DESIGN CHOICE (log 41): the use count takes one byte. -/
def readTariffBody (t : TariffStore) (slot : Nat) : List Byte :=
  [byte slot, byte (t.slot slot).state.code, byte (t.slot slot).uses, yesNo (t.active == some slot)] ++
    if (t.slot slot).state = .valid then recordBytes (t.slot slot).bytes else []

/-- R127, R128: BUSY with the operation in flight, else the slot. -/
def handleReadTariff (s : State) (slot : Nat) : Handled :=
  if slot ≤ 7 then
    match s.store.operation with
    | some op => { state := s, status := .busy, body := [byte op.slot, byte op.kind.code, byte op.phase.code] }
    | none => { state := s, status := .ok, body := readTariffBody s.store slot }
  else refuse s .outOfRange

/-- READ_TARIFF (R128). -/
def execReadTariff (l : Link) (tag : Byte) (p : Payload Nat) (s : State) : Host.Outcome State Fault Refusal :=
  serve l 0x33#8 tag false .always noGrant handleReadTariff p s

end Sys2Proof.Machine
end

