-- ==== Sys2Proof/Machine/Sessions.lean ====
section
/-! DEFINITION. The Session Controller's operations (chapter 1): transitions of a session, ports and targets, creation,
authorization, holds, and the end of a session. The commands that use them stand in SessionEvents.lean and
SessionRequests.lean. -/

namespace Sys2Proof.Machine

/-! ### One transition (R12, R14, R25) -/

/-- R12, R14: what a change of state or demand brings with it in the record. On leaving ACTIVE the allocation becomes
0; the dormant timer runs in ACTIVE with demand 0 and starts when that begins; idle seconds accrue in DORMANT, the first
a second after its entry. -/
def carryTimers (now delay : Nat) (before after : Session) : Session :=
  { after with
    allocation := if after.state = .active then after.allocation else 0
    dormantTimer :=
      if after.state = .active ∧ after.demand = 0 then
        (if before.state = .active ∧ before.demand = 0 then before.dormantTimer else some (now + 1000 * delay))
      else none
    nextIdle :=
      if after.state = .dormant then (if before.state = .dormant then before.nextIdle else some (now + 1000))
      else none }

/-- R12: the session left ACTIVE, so its charger is targeted 0 with PAUSE (`lockoutAlone` where the port leaves
IN_SESSION in the same event). -/
def State.pauseOnLeaving (s : State) (before after : Session) : State :=
  if before.state = .active ∧ after.state ≠ .active then
    s.sendChargerTarget { port := after.port, mode := .pause, setpoint := 0 }
  else s

/-- R12: an early-round request each time a session enters or leaves the candidate set. -/
def State.requestOnChange (s : State) (before after : Session) : State :=
  if before.isCandidate = after.isCandidate then s else s.sendEarlyRequest

/-- R25: SESSION_CHANGE on a change of state. -/
def State.noticeOnChange (s : State) (before after : Session) : State :=
  if before.state = after.state then s else s.raise .sessionChange after.number

/-- A session's record changed, with all that R12, R14 and R25 make of the change. -/
def State.transition (s : State) (n : Nat) (f : Session → Session) : State :=
  match s.sessions.find n with
  | none => s
  | some x =>
    let y := carryTimers s.runTime s.sessions.dormantDelay x (f x)
    (((s.setSessions (s.sessions.update n fun _ => y)).pauseOnLeaving x y).requestOnChange x y).noticeOnChange x y

/-! ### Ports (R3, R4, R12, R91) -/

/-- R3, R91: the port's state changes, and its charger's target with it: PAUSE in IN_SESSION, LOCKOUT elsewhere. -/
def State.setPortState (s : State) (p : Nat) (st : PortState) : State :=
  (s.setSessions (s.sessions.setRecord p { s.sessions.record p with state := some st })).sendChargerTarget
    { port := p, mode := if st = .inSession then .pause else .lockout, setpoint := 0 }

/-- R12: a session that left ACTIVE within an event that also took its port out of IN_SESSION targets LOCKOUT alone: of the
charger targets sent since the event began, of which there were `sent` before, no PAUSE for the port remains (log 43). -/
def State.lockoutAlone (s : State) (sent p : Nat) : State :=
  if (s.sessions.record p).state = some .inSession then s
  else
    let targets := s.events.chargerTargets
    s.setEvents { s.events with
      chargerTargets := targets.take sent ++ (targets.drop sent).filter fun t => !(t.port == p && t.mode == .pause) }

/-! ### Demand (R5) -/

/-- R5: 0 for an acceptance of 0 W or less, else the smaller of ceil(acceptance / 100) and the rated maximum. -/
def demandOf (acceptance : Int) (ratedMax : Nat) : Nat :=
  if acceptance ≤ 0 then 0 else min ((acceptance.toNat + 99) / 100) ratedMax

/-- The demand a port's latest acceptance gives; a port without an entry or an acceptance has none. -/
def SessionController.demandAt (c : SessionController) (p : Nat) : Nat :=
  match c.entry p, (c.record p).acceptance with
  | some e, some a => demandOf a e.ratedMax
  | _, _ => 0

/-- The effective minimum at a demand (R5). -/
def SessionController.effMinAt (c : SessionController) (p demand : Nat) : Nat :=
  match c.entry p with
  | none => demand
  | some e => min e.minimum demand

/-! ### Authorization (R9, R10, R16) -/

/-- R9 step 8, R16: a session that leaves PLUGGED charges if nothing holds it. -/
def Session.afterAuthorization (x : Session) : Session :=
  if x.holds.isEmpty then { x with state := .active }
  else
    let f := if x.holds.island then x.flags.meet .island else x.flags
    { x with state := .held, flags := if x.holds.chargerLost then f.meet .chargerLost else f }

/-- R9 step 3, R23: a departure time earlier than now is stored as now. -/
def departureAt (now departure : Nat) : Nat := max now departure

/-- R9: the steps on the session record. DESIGN CHOICE (log 33): a departure time that SET_DEPARTURE stored in PLUGGED is
removed by an authorization without one. -/
def Session.authorize (x : Session) (who : Authorizer) (customer : Text) (departure : Option Nat) (slot : Nat)
    (reading : Option Nat) (clock : SiteClock) : Session :=
  { x with
    authorizer := some who
    customer := customer.map (List.take 16)
    departure := departure.map (departureAt clock.time)
    slot := some slot
    meterStart := reading
    authorized := some clock.time
    flags := x.flags.timed clock
    authorizationTimer := none }.afterAuthorization

/-- R9, R130: the session bound to the active slot, whose use count rises, and authorized. Without an active slot
nothing happens. -/
def State.authorizeSession (s : State) (n : Nat) (who : Authorizer) (customer : Text) (departure : Option Nat) : State :=
  match s.store.active, s.sessions.find n with
  | some slot, some x =>
    (s.setStore (s.store.bind slot)).transition n fun y =>
      y.authorize who customer departure slot (s.metering.meter x.port).last s.links.clock
  | _, _ => s

/-- R10: a free-vend port's session is authorized without any request. -/
def State.freeVend (s : State) (n : Nat) : State :=
  match s.sessions.find n with
  | none => s
  | some x =>
    if x.state = .plugged ∧ (s.sessions.entry x.port).map PortEntry.freeVend = some true then
      s.authorizeSession n .free none none
    else s

/-! ### Creation (R6, R7) -/

/-- R6: 65,535 is followed by 1. -/
def nextNumber (n : Nat) : Nat := if n < 65535 then n + 1 else 1

/-- R6: the first number from `n` on that no session in the table has; `fuel` bounds the numbers passed over. -/
def freeNumber (c : SessionController) : Nat → Nat → Nat
  | 0, n => n
  | fuel + 1, n => if (c.find n).isSome then freeNumber c fuel (nextNumber n) else n

/-- R7: the hold reasons of a new session. -/
def initialHolds (s : State) (p : Nat) : Holds :=
  { island := s.balance.record.siteState == .island || s.balance.record.siteState == .restoring
    siteHold := false
    fault := (s.sessions.record p).fault
    chargerLost := (s.field.unit p).health == .lost }

/-- R7: a new session in PLUGGED. -/
def newSession (s : State) (n p : Nat) : Session :=
  let demand := s.sessions.demandAt p
  { number := n, port := p, state := .plugged, holds := initialHolds s p, customer := none, authorizer := none,
    slot := none, created := s.siteTime, authorized := none, ended := none, departure := none, demand := demand,
    effMin := s.sessions.effMinAt p demand, allocation := 0, highest := 0, deferral := 0, cls := .normal,
    meterStart := none, total := 0, solarAcc := 0, batteryAcc := 0, idle := 0, links := [],
    flags := SessionFlags.none.timed s.links.clock,
    authorizationTimer := some (s.after s.sessions.authorizationTimeout), dormantTimer := none, closingTimer := none,
    nextIdle := none, final := none, handedOver := false }

/-- R7, R10, R25: a session created on a port, which becomes IN_SESSION; SESSION_CHANGE; a free-vend port's session is
authorized at once. -/
def State.createSession (s : State) (p : Nat) : State :=
  let n := freeNumber s.sessions (Config.tableCapacity + 1) s.sessions.counter
  let x := newSession s n p
  let s := s.setSessions { s.sessions with table := s.sessions.table ++ [x], counter := nextNumber n }
  ((s.setPortState p .inSession).raise .sessionChange n).freeVend n

/-- R3: whether every entry of the table holds a session. -/
def SessionController.isFull (c : SessionController) : Bool := decide (Config.tableCapacity ≤ c.table.length)

/-- R4: a freed entry serves the head of the port wait list. -/
def State.serveWaiting (s : State) : State :=
  match s.sessions.waiting with
  | [] => s
  | p :: rest => if s.sessions.isFull then s else (s.setSessions { s.sessions with waiting := rest }).createSession p

/-- A session leaves the table. -/
def State.removeSession (s : State) (n : Nat) : State :=
  s.setSessions { s.sessions with table := s.sessions.table.filter fun x => x.number != n }

/-- R11: a PLUGGED session removed without a receipt, its port left in the state given; SESSION_ABANDONED; the freed
entry serves the wait list. -/
def State.abandon (s : State) (x : Session) (st : PortState) : State :=
  (((s.removeSession x.number).setPortState x.port st).raise .sessionAbandoned x.number).serveWaiting

/-! ### Hold reasons (R15, R16) -/

/-- R15, R16: a reason added. PLUGGED keeps its state, ACTIVE and DORMANT enter HELD, and the flags of R16 are set on a
session that has been authorized, in CLOSING before its final reading as well; in CLOSING, PRICING and WAIT_QUEUE the
set does not change. -/
def Session.addHold (x : Session) (r : HoldReason) : Session :=
  match x.state with
  | .plugged => { x with holds := x.holds.set r true }
  | .active | .dormant | .held => { x with holds := x.holds.set r true, state := .held, flags := x.flags.meet r }
  | .closing => if x.handedOver then x else { x with flags := x.flags.meet r }
  | .pricing | .waitQueue => x

/-- R15, R16: a reason removed; HELD with an empty set goes to ACTIVE or DORMANT by its demand. -/
def Session.removeHold (x : Session) (r : HoldReason) : Session :=
  match x.state with
  | .plugged => { x with holds := x.holds.set r false }
  | .held =>
    if (x.holds.set r false).isEmpty then
      { x with holds := x.holds.set r false, state := if 0 < x.demand then .active else .dormant }
    else { x with holds := x.holds.set r false }
  | .active | .dormant | .closing | .pricing | .waitQueue => x

/-- A reason added to or removed from the session that holds a port. -/
def State.holdPort (s : State) (p : Nat) (r : HoldReason) (add : Bool) : State :=
  match s.sessions.holder p with
  | none => s
  | some x => s.transition x.number fun y => if add then y.addHold r else y.removeHold r

/-! ### The end of a session (R18 to R21) -/

/-- R18: STOPPED set, the hold set emptied, CLOSING with its closing timer. -/
def Session.stop (x : Session) (expiry : Nat) : Session :=
  { x with state := .closing, flags := { x.flags with stopped := true }, holds := Holds.none, closingTimer := some expiry }

/-- R19: the final report taken; the closing timer stops. -/
def Session.takeFinal (x : Session) (r : FinalReport) : Session :=
  { x with state := .closing, closingTimer := none, final := some r }

/-- R19 to R21: the end time recorded, ESTIMATED as the closing requires, and the session on its way to pricing. -/
def Session.close (x : Session) (clock : SiteClock) (estimated : Bool) : Session :=
  { x with
    ended := some clock.time
    flags := { x.flags.timed clock with estimated := x.flags.estimated || estimated }
    closingTimer := none
    handedOver := true }

/-- R19 to R21: a closing completed at its final reading. The port is released, FREE when the final report showed the
vehicle disconnected and BLOCKED otherwise, and the session is handed to the Receipt Builder. -/
def State.completeClosing (s : State) (x : Session) (connected estimated : Bool) : State :=
  ((s.setSessions (s.sessions.update x.number fun y => y.close s.links.clock estimated)).setPortState x.port
    (if connected then .blocked else .free)).sendHandOver x.number

/-- R19, R107, R113: the closing of the session that holds a port completes once both its final report and the
reading-applied event for it have been taken; a final report without a reading makes it ESTIMATED. -/
def State.tryComplete (s : State) (p : Nat) : State :=
  match s.sessions.holder p with
  | none => s
  | some x =>
    match x.final, (s.sessions.record p).applied with
    | some r, some n =>
      if x.state = .closing ∧ r.report ≤ n then s.completeClosing x r.connected (!r.hasReading) else s
    | _, _ => s

end Sys2Proof.Machine
end

