-- ==== Sys2Proof/Machine/Receipts.lean ====
section
/-! DEFINITION. Pricing (section 8.3), the Receipt Builder (chapter 8) and the Receipt Queue's operations (chapter 9),
with the commands the blocks send one another. -/

namespace Sys2Proof.Machine

/-! ### The price (R136 to R141) -/

/-- R137: P, the sum of the linked amounts. -/
def purchaseTotal (links : List PurchaseLink) : Nat := (links.map PurchaseLink.amount).sum

/-- R137. -/
def allowanceEarned (t : Tariff) (purchases : Nat) : Nat :=
  if t.step = 0 then 0 else min (purchases / t.step * t.perStep) t.allowanceCap

/-- The three sources. -/
inductive Source where
  | solar | battery | grid
  deriving DecidableEq, Repr

def BySource.get (x : BySource) : Source → Nat
  | .solar => x.solar
  | .battery => x.battery
  | .grid => x.grid

def BySource.total (x : BySource) : Nat := x.solar + x.battery + x.grid

/-- Put a source into an order by rate, the highest first; one of an equal rate stays behind those before it. -/
def insertByRate (rate : BySource) (x : Source) : List Source → List Source
  | [] => [x]
  | y :: rest => if rate.get y < rate.get x then x :: y :: rest else y :: insertByRate rate x rest

/-- R138: highest rate first, equal rates in the order grid, battery, solar. -/
def sourceOrder (rate : BySource) : List Source :=
  insertByRate rate .solar (insertByRate rate .battery (insertByRate rate .grid []))

/-- R138: what each source gives up, the sources taken in turn. -/
def takeAllowance (energy : BySource) : Nat → List Source → BySource → BySource
  | _, [], taken => taken
  | left, x :: rest, taken =>
    let t := min left (energy.get x)
    takeAllowance energy (left - t) rest (match x with
      | .solar => { taken with solar := t }
      | .battery => { taken with battery := t }
      | .grid => { taken with grid := t })

/-- R138: the allowances taken from the three sources. -/
def allowanceTaken (energy rate : BySource) (applied : Nat) : BySource :=
  takeAllowance energy applied (sourceOrder rate) { solar := 0, battery := 0, grid := 0 }

/-- R139: one energy line, rounded to the nearest minor unit, a half up. -/
def lineAmount (billed rate : Nat) : Nat := (billed * rate + 50000) / 100000

/-- R140: the minutes beyond the grace. -/
def billableMinutes (t : Tariff) (idle : Nat) : Nat := idle / 60 - t.idleGrace

/-- R140. -/
def idleFee (t : Tariff) (idle : Nat) : Nat := min (billableMinutes t idle * t.idleRate) t.idleCap

/-- R136, R114: the three energies of a session. -/
def Session.energy (x : Session) : BySource := { solar := x.solarWh, battery := x.batteryWh, grid := x.gridWh }

/-- R136 to R143: the receipt of a session, from its record, its tariff and the number it takes. -/
def price (x : Session) (t : Tariff) (number : Nat) (clock : SiteClock) : Receipt :=
  let energy := x.energy
  let purchases := purchaseTotal x.links
  let earned := allowanceEarned t purchases
  let applied := min earned x.total
  let taken := allowanceTaken energy t.rate applied
  let billed : BySource :=
    { solar := energy.solar - taken.solar, battery := energy.battery - taken.battery, grid := energy.grid - taken.grid }
  let line : BySource :=
    { solar := lineAmount billed.solar t.rate.solar, battery := lineAmount billed.battery t.rate.battery,
      grid := lineAmount billed.grid t.rate.grid }
  let fee := idleFee t x.idle
  { number := number, session := x.number, port := x.port, authorizer := x.authorizer, customer := x.customer,
    slot := x.slot.getD 0, tariffId := t.id, label := t.label, created := x.created, authorized := x.authorized.getD 0,
    ended := x.ended.getD 0, priced := clock.time, total := x.total, energy := energy, rate := t.rate, links := x.links,
    purchases := purchases, earned := earned, applied := applied, taken := taken, billed := billed, line := line,
    idle := x.idle, billableMinutes := billableMinutes t x.idle, idleFee := fee, amount := line.total + fee,
    flags := x.flags.timed clock }

/-- R143: 2^32−1 is followed by 1. -/
def nextReceiptNumber (n : Nat) : Nat := if n + 1 < Config.word32 then n + 1 else 1

/-! ### The Receipt Queue (R149 to R160) -/

/-- R149: the unread count. -/
def ReceiptQueue.unread (q : ReceiptQueue) : Nat := q.retained.length - q.read

/-- R150: the queue answers full. -/
def ReceiptQueue.isFull (q : ReceiptQueue) : Bool := decide (Config.queueCapacity ≤ q.retained.length)

/-- R150: a receipt taken at the tail. -/
def ReceiptQueue.push (q : ReceiptQueue) (r : Receipt) : ReceiptQueue := { q with retained := q.retained ++ [r] }

/-- R150, R159, R160: a receipt taken, and the notices the new counts call for. -/
def State.takeReceipt (s : State) (r : Receipt) : State :=
  let q := s.queue.push r
  let s := s.setQueue q
  let s := if q.unread = q.notify then s.raise .receiptsPending r.number else s
  let s := if q.retained.length = q.high then s.raise .queueHigh r.number else s
  if q.retained.length = Config.queueCapacity then s.raise .queueFull r.number else s

/-- R151: a room event follows a request that removed at least one receipt. -/
def State.roomIf (s : State) (removed : Nat) : State := if removed = 0 then s else s.sendRoom

/-! ### The Receipt Builder (R134, R135, R144, R145, R147) -/

/-- R147: a copy written at the write position, which moves on. -/
def ReceiptBuilder.copy (b : ReceiptBuilder) (r : Receipt) : ReceiptBuilder :=
  { b with ring := b.ring.setIfInBounds b.ringPosition (some r), ringPosition := (b.ringPosition + 1) % 16 }

/-- R21, R144, R145: a session whose receipt has entered the queue leaves the table, and its entry serves the wait
list. -/
def State.leaveTable (s : State) (n : Nat) : State := ((s.removeSession n).raise .sessionChange n).serveWaiting

/-- R144 steps 3 and 4: the receipt placed, and the session's state after the answer. -/
def State.placeReceipt (s : State) (n : Nat) (r : Receipt) : State :=
  if s.builder.waiting = [] ∧ s.queue.isFull = false then (s.takeReceipt r).leaveTable n
  else
    (s.setBuilder { s.builder with waiting := s.builder.waiting ++ [r] }).transition n fun x =>
      { x with state := .waitQueue }

/-- R136, R143, R144: one pricing event. -/
def State.priceSession (s : State) (x : Session) : State :=
  let slot := x.slot.getD 0
  let r := price x (readTariff (s.store.slot slot).bytes) s.builder.next s.links.clock
  let s := s.setStore (s.store.release slot)
  let s := s.setBuilder ({ s.builder with next := nextReceiptNumber s.builder.next }.copy r)
  s.placeReceipt x.number r

/-- R134: a hand-over taken. -/
def State.takeHandOver (s : State) (n : Nat) : State :=
  match s.sessions.find n with
  | none => s
  | some x =>
    if x.state = .closing ∧ x.handedOver = true then
      (if s.builder.pricing = [] ∧ s.store.operation = none then s.priceSession x
       else
        (s.setBuilder { s.builder with pricing := s.builder.pricing ++ [n] }).transition n fun y =>
          { y with state := .pricing })
    else s

/-- HAND_OVER (R134): the oldest session handed over and not yet taken. -/
def execHandOver (s : State) : Host.Outcome State Fault Refusal :=
  match s.events.handOvers with
  | [] => nothing s
  | n :: rest => done ((s.setEvents { s.events with handOvers := rest }).takeHandOver n)

/-- R135: the head of the pricing list priced and taken off it. -/
def State.priceHead (s : State) (n : Nat) : State :=
  let s := s.setBuilder { s.builder with pricing := s.builder.pricing.drop 1 }
  match s.sessions.find n with
  | none => s
  | some x => if x.state = .pricing then s.priceSession x else s

/-- STORE_FREE (R135): one pricing event of the store-free event. A store in operation answers deferred, the head stays,
and the event is used up; so it is with an empty list. Otherwise the head is priced, and the event stays to be taken again
while the list has a new head, so that other events may fall between two pricings (log 14). -/
def execStoreFree (s : State) : Host.Outcome State Fault Refusal :=
  match s.events.storeFree with
  | 0 => nothing s
  | n + 1 =>
    let used := s.setEvents { s.events with storeFree := n }
    match s.store.operation, s.builder.pricing with
    | none, m :: rest => done ((if rest = [] then used else s).priceHead m)
    | _, _ => done used

/-- R145: the head of the wait list offered; `fuel` is the length of the list. -/
def State.drain : Nat → State → State
  | 0, s => s
  | fuel + 1, s =>
    match s.builder.waiting with
    | [] => s
    | r :: rest =>
      if s.queue.isFull then s
      else
        State.drain fuel (((s.setBuilder { s.builder with waiting := rest }).takeReceipt r).leaveTable r.session)

/-- ROOM_EVENT (R145). -/
def execRoomEvent (s : State) : Host.Outcome State Fault Refusal :=
  match s.events.rooms with
  | 0 => nothing s
  | n + 1 => done (State.drain s.builder.waiting.length (s.setEvents { s.events with rooms := n }))

end Sys2Proof.Machine
end

