-- ==== Sys2Proof/Machine/Layout.lean ====
section
/-! DEFINITION. The frames and records the part sends (chapter 11): state codes, the link frame, the receipt record, and
the payloads of the status replies.

DESIGN CHOICE (log 12): where R174 and R179 give an order and a size but leave a code open, the code is the place in the
order the owning rule lists; NOTES.md lists them. -/

namespace Sys2Proof.Machine

/-! ### State codes (R174) -/

def PartState.code : PartState → Nat
  | .setup => 0
  | .live => 1

def SiteState.code : SiteState → Nat
  | .none => 0
  | .starting => 1
  | .normal => 2
  | .island => 3
  | .restoring => 4

def PortState.code : PortState → Nat
  | .free => 0
  | .inSession => 1
  | .waiting => 2
  | .blocked => 3

def SessionState.code : SessionState → Nat
  | .plugged => 0
  | .active => 1
  | .dormant => 2
  | .held => 3
  | .closing => 4
  | .pricing => 5
  | .waitQueue => 6

/-- R174: 1 SITE, 2 TILL, 3 FREE, 0 when absent. -/
def authorizerCode : Option Authorizer → Nat
  | none => 0
  | some .site => 1
  | some .till => 2
  | some .free => 3

def SessionClass.code : SessionClass → Nat
  | .normal => 0
  | .high => 1
  | .urgent => 2

def ChargerMode.code : ChargerMode → Nat
  | .lockout => 0
  | .pause => 1
  | .run => 2

def Health.code : Health → Nat
  | .unpolled => 0
  | .ok => 1
  | .missed => 2
  | .lost => 3

def BatteryState.code : BatteryState → Nat
  | .ready => 0
  | .fault => 1
  | .islanded => 2

def DispatchCase.code : DispatchCase → Nat
  | .peak => 0
  | .surplus => 1
  | .topUp => 2
  | .balanced => 3
  | .island => 4
  | .restoring => 5

def DispatchTrigger.code : DispatchTrigger → Nat
  | .result => 0
  | .siteState => 1
  | .policy => 2
  | .battery => 3

def LockState.code : LockState → Nat
  | .empty => 0
  | .holdingMinor => 1
  | .holdingMajor => 2

def DiscrepancyKind.code : DiscrepancyKind → Nat
  | .minor => 0
  | .major => 1

/-- R175: 0 to 18 in the order of the table of R163. -/
def Status.code : Status → Nat
  | .ok => 0
  | .accepted => 1
  | .unknownKind => 2
  | .notPermitted => 3
  | .badLength => 4
  | .outOfRange => 5
  | .wrongState => 6
  | .notLive => 7
  | .inUse => 8
  | .busy => 9
  | .supply => 10
  | .full => 11
  | .empty => 12
  | .notFound => 13
  | .tooLate => 14
  | .duplicate => 15
  | .noMark => 16
  | .noTariff => 17
  | .badConfig => 18

/-! ### Absent values (R179) -/

/-- An absent state code. -/
def absentCode : Byte := 0xFF#8

/-- An absent W figure, −2,147,483,648. -/
def absentWatts : List Byte := le 4 2147483648

/-- A W figure that may be absent. -/
def wattsOr : Option Int → List Byte
  | none => absentWatts
  | some w => watts w

/-- An age or remaining time, or absent. DESIGN CHOICE (log 15): one beyond four bytes is sent as its low 32 bits. -/
def timeOr : Option Nat → List Byte
  | none => le 4 4294967295
  | some t => le 4 t

/-- A number in `k` bytes whose absence is sent as 0. -/
def numberOr (k : Nat) (n : Option Nat) : List Byte := le k (n.getD 0)

/-- A state code or absent. -/
def codeOr : Option Nat → Byte
  | none => absentCode
  | some c => byte c

/-! ### Link frames (section 11.2) -/

/-- R175: start byte, length, kind, tag, payload, CRC over the length to the payload, low byte first. -/
def frameBytes (kind tag : Byte) (payload : List Byte) : List Byte :=
  let body := byte (payload.length + 2) :: kind :: tag :: payload
  0xA5#8 :: body ++ checkBytes (crc16 body)

/-- R175: the bytes of a frame a transmitter sends. -/
def LinkFrame.bytes : LinkFrame → List Byte
  | .reply r => frameBytes r.kind r.tag (byte r.status.code :: r.body)
  | .notice n => frameBytes 0x7E#8 0x00#8 (byte n.kind.number :: byte n.count :: le 4 n.data)

/-! ### The poll frame (section 11.6) -/

/-- R90, R179: mode and value as in the field polls; an inverter's limit has no mode, a meter's command no bytes. An
inverter that is not present has no limit. -/
def Command.bytes : Command → List Byte
  | .charger mode setpoint => byte mode.code :: le 2 setpoint
  | .battery .idle => byte 0 :: le 4 0
  | .battery (.charge w) => byte 1 :: le 4 w
  | .battery (.discharge w) => byte 2 :: le 4 w
  | .battery .islandSupport => byte 3 :: le 4 0
  | .inverter none => absentWatts
  | .inverter (some limit) => le 4 limit
  | .meter => []

/-- The poll that the transaction in flight sends (section 11.6). -/
def pollBytes (f : FieldLinkController) (t : Transaction) : List Byte :=
  let payload := t.command.bytes
  let body := byte ((f.unit t.unit).address.getD 0) :: byte (payload.length + 1) :: byte (pollKind t.unit) :: payload
  0xA5#8 :: body ++ checkBytes (crc16 body)

/-! ### The receipt record (R178) -/

/-- A figure of three sources, each in `k` bytes. -/
def BySource.bytes (k : Nat) (x : BySource) : List Byte := le k x.solar ++ le k x.battery ++ le k x.grid

/-- R178: a purchase link, its reference of 8 characters and its amount. -/
def PurchaseLink.bytes (k : PurchaseLink) : List Byte := k.reference ++ le 3 k.amount

/-- R178. -/
def Receipt.bytes (r : Receipt) : List Byte :=
  le 4 r.number ++ le 2 r.session ++
    [byte r.port, byte (authorizerCode r.authorizer), byte r.flags.bits, byte r.slot] ++ le 2 r.tariffId ++
    le 4 r.created ++ le 4 r.authorized ++ le 4 r.ended ++ le 4 r.priced ++ le 3 r.total ++ r.energy.bytes 3 ++
    r.rate.bytes 2 ++ le 3 r.purchases ++ le 3 r.earned ++ le 3 r.applied ++ r.taken.bytes 3 ++ r.billed.bytes 3 ++
    r.line.bytes 3 ++ le 4 r.idle ++ le 4 r.billableMinutes ++ le 3 r.idleFee ++ le 3 r.amount ++
    [byte r.links.length] ++ textBytes (some r.label) ++ textBytes r.customer ++ r.links.flatMap PurchaseLink.bytes

/-! ### SESSION_STATUS and PORT_STATUS (R24) -/

/-- A tariff slot, 0xFF when absent. -/
def slotByte : Option Nat → Byte
  | none => 0xFF#8
  | some k => byte k

/-- R179: the 53 bytes of the session status payload. -/
def Session.bytes (x : Session) : List Byte :=
  le 2 x.number ++
    [byte x.port, byte x.state.code, byte x.holds.bits, byte (authorizerCode x.authorizer), slotByte x.slot,
     byte (bits [x.authorized.isSome, x.ended.isSome, x.departure.isSome])] ++
    le 4 x.created ++ numberOr 4 x.authorized ++ numberOr 4 x.ended ++ numberOr 4 x.departure ++ le 2 x.demand ++
    le 2 x.effMin ++ le 2 x.allocation ++ [byte x.deferral, byte x.cls.code] ++ le 3 x.total ++ x.energy.bytes 3 ++
    le 4 x.idle ++ [byte x.links.length] ++ le 3 (purchaseTotal x.links) ++ [byte x.flags.bits]

/-- The position of a number in a list, counted from 1; 0 when it is not there. -/
def position (n : Nat) (xs : List Nat) : Nat := if xs.contains n then xs.idxOf n + 1 else 0

/-- R24: the fields of PORT_STATUS in their order. -/
def portStatusBytes (s : State) (p : Nat) : List Byte :=
  let r := s.sessions.record p
  let m := s.metering.meter p
  [codeOr (r.state.map PortState.code)] ++ numberOr 2 ((s.sessions.holder p).map Session.number) ++
    (match (s.field.unit p).delivered with
      | .charger mode setpoint => le 2 setpoint ++ [byte mode.code]
      | _ => le 2 0 ++ [byte ChargerMode.lockout.code]) ++
    [yesNo r.fault, yesNo m.last.isSome] ++ numberOr 4 m.last ++ le 4 m.unbilled ++
    [byte (position p s.sessions.waiting)]

/-! ### QUEUE_STATUS (R158) -/

/-- The number of the receipt at a place of the queue. -/
def receiptAt (q : ReceiptQueue) (i : Nat) : Option Nat := (q.retained[i]?).map Receipt.number

/-- R158. -/
def queueStatusBytes (q : ReceiptQueue) (waiting : Nat) : List Byte :=
  [byte q.retained.length, byte q.unread, yesNo q.mark, byte (q.retained.length - q.unread)] ++
    numberOr 4 (receiptAt q 0) ++ numberOr 4 (receiptAt q q.read) ++ numberOr 4 (q.retained.getLast?.map Receipt.number) ++
    [byte q.notify, byte q.high, byte waiting]

/-! ### READ_DISCREPANCY (R119) -/

/-- R118's record; in EMPTY every field is sent as 0, and so is the bound of a MAJOR record (R179). -/
def discrepancyBytes : Option Discrepancy → List Byte
  | none => List.replicate 20 0x00#8
  | some d =>
    [byte d.kind.code, byte d.port] ++ numberOr 2 d.session ++ le 4 d.reading ++ le 4 d.last ++ numberOr 4 d.bound ++
      le 4 d.time

/-- R119: the lock state, the record and the two counters. -/
def DiscrepancyLog.bytes (g : DiscrepancyLog) : List Byte :=
  [byte g.lock.code] ++ discrepancyBytes g.record ++ [byte g.minor, byte g.major]

/-! ### SITE_STATUS (R47) -/

/-- R46. DESIGN CHOICE (log 12): each of the mix parts ms, mb and mg takes two bytes. -/
def BalanceRecord.bytes (r : BalanceRecord) : List Byte :=
  [byte r.siteState.code] ++ le 2 r.budget ++ watts r.budgetW ++ le 2 r.phantomTotal ++
    r.phantomFeeder.toList.flatMap (le 2) ++ watts r.storeEff ++ watts r.pvEff ++ watts r.batteryEff ++
    le 2 r.mix.solar ++ le 2 r.mix.battery ++ le 2 r.mix.grid ++ [byte r.flags.bits]

def SiteSettings.bytes (x : SiteSettings) : List Byte :=
  le 2 x.importLimit ++ le 2 x.margin ++ le 2 x.exportLimit ++ le 2 x.storePeak ++ le 2 x.fallback

/-- R47: the remaining time of the restore timer in whole seconds; a remaining time that is not a whole number of
seconds has no value the manual states (log 7). -/
def remainingSeconds (ms : Nat) : Nat := if ms % 1000 = 0 then ms / 1000 else Config.openValue (.secondsRemaining ms)

def restoreRemaining (now : Nat) (timer : Option Nat) : Option Nat := timer.map fun t => remainingSeconds (t - now)

/-- Page 0. -/
def sitePage0 (s : State) : List Byte :=
  [byte s.links.part.code] ++ s.balance.record.bytes ++ s.balance.settings.bytes ++
    [yesNo s.links.tillGrant, byte s.links.tillFirst, byte s.links.tillLast] ++ le 4 s.links.clock.time ++
    [yesNo s.links.clock.isSet] ++ timeOr (restoreRemaining s.runTime s.balance.restoreTimer)

/-- The age of a record, and its stale or fresh state in the order R28 names them. -/
def ageAndState {α : Type} (now : Nat) (m : Measurement α) : List Byte :=
  timeOr (m.arrival.map fun t => now - t) ++ [byte (if m.fresh then 1 else 0)]

/-- A per mille value, in a record without one (log 6). -/
def perMilleOr : Option Nat → List Byte
  | none => le 2 (Config.openValue .absentPerMille)
  | some n => le 2 n

/-- The battery's values in the order of R28. -/
def batteryValueBytes (v : Option BatteryValues) : List Byte :=
  perMilleOr (v.map BatteryValues.soc) ++ wattsOr (v.map BatteryValues.power) ++
    wattsOr (v.map fun x => (x.maxCharge : Int)) ++ wattsOr (v.map fun x => (x.maxDischarge : Int)) ++
    [codeOr (v.map fun x => x.state.code)]

/-- The record of a measuring unit, 33 to 39. DESIGN CHOICE (log 12): the age stands for the arrival run time of R28, which is
not sent itself. -/
def measurementBytes (s : State) (u : Nat) : List Byte :=
  let b := s.balance
  if u = 33 then
    wattsOr (b.grid.value.map GridValues.power) ++ [codeOr (b.grid.value.map fun v => if v.present then 1 else 0)] ++
      ageAndState s.runTime b.grid ++ [yesNo b.overrun]
  else if u = 34 then wattsOr (b.store.value.map fun w => (w : Int)) ++ ageAndState s.runTime b.store
  else if u ≤ 38 then
    let m := b.inverter (u - 34)
    wattsOr (m.value.map fun v => (v.output : Int)) ++ wattsOr (m.value.map fun v => (v.available : Int)) ++
      [codeOr (m.value.map fun v => if v.curtailed then 1 else 0)] ++ ageAndState s.runTime m
  else batteryValueBytes b.battery.value ++ ageAndState s.runTime b.battery

/-- Page 1: the records of the present measuring units in the order of their unit indices. -/
def sitePage1 (s : State) : List Byte :=
  counted (measurementBytes s) ([33, 34, 35, 36, 37, 38, 39].filter fun u => (s.field.unit u).present)

/-- A phantom reservation: port, reservation, fallback passed. -/
def phantomBytes (b : SiteBalanceUnit) (p : Nat) : List Byte :=
  [byte p] ++ le 2 (b.reserved p) ++ [yesNo (match b.phantom p with
    | none => false
    | some r => r.timer.isNone)]

/-- Page 2: the ports with a reservation. DESIGN CHOICE (log 45): in ascending order of their numbers. -/
def sitePage2 (s : State) : List Byte :=
  counted (phantomBytes s.balance) (portNumbers.filter fun p => (s.balance.phantom p).isSome)

/-- R179: every page of SITE_STATUS begins with the run time at which it was taken. -/
def sitePageBytes (s : State) (page : Nat) : List Byte :=
  le 4 s.runTime ++ (if page = 0 then sitePage0 s else if page = 1 then sitePage1 s else sitePage2 s)

/-! ### ALLOC_STATUS (R70) -/

/-- A room in two unsigned bytes; one below 0 has no value the manual states (log 6). -/
def roomBytes (room : Int) : List Byte :=
  if 0 ≤ room then le 2 room.toNat else le 2 (Config.openValue (.negativeRoom room))

/-- R179: a configured feeder: number, cap, room and allocated sum of the last result. -/
def feederBytes (a : PowerAllocator) (f : Nat) : List Byte :=
  [byte f] ++ numberOr 2 (nth a.feeders none f) ++
    (match (a.last.map AllocationResult.feeders).bind fun xs => xs.find? fun x => x.feeder == f with
      | none => le 2 (Config.openValue (.absentFeederFigure (2 * f))) ++
          le 2 (Config.openValue (.absentFeederFigure (2 * f + 1)))
      | some x => roomBytes x.room ++ le 2 x.allocated)

/-- R64's totals; a site state of 0xFF indicates that there is no last result (log 6). -/
def totalsBytes : Option AllocationResult → List Byte
  | none =>
    [absentCode] ++ le 2 (Config.openValue (.absentTotal 0)) ++ le 2 (Config.openValue (.absentTotal 1)) ++
      le 2 (Config.openValue (.absentTotal 2)) ++ le 2 (Config.openValue (.absentTotal 3)) ++
      le 1 (Config.openValue (.absentTotal 4)) ++ le 1 (Config.openValue (.absentTotal 5))
  | some r =>
    [byte r.siteState.code] ++ le 2 r.budget ++ le 2 r.phantomTotal ++ le 2 r.total ++ le 2 r.unspent ++
      [byte r.deferred, byte r.urgent]

/-- Page 0. DESIGN CHOICE (log 36): the round number stands at the front of the page (R179) and is repeated neither among the
fields of R70 nor in the totals of R64. DESIGN CHOICE (log 50): the remaining time of the spacing timer is in milliseconds. -/
def allocPage0 (s : State) : List Byte :=
  let a := s.allocator
  [byte a.high, byte a.urgent] ++ le 2 a.period ++ timeOr (a.lastRun.map fun t => s.runTime - t) ++ [yesNo a.pending] ++
    timeOr (a.spacing.map fun t => t - s.runTime) ++ [yesNo a.applied] ++
    counted (feederBytes a) ([1, 2, 3, 4].filter fun f => (nth a.feeders none f).isSome) ++ totalsBytes a.last

/-- R179: a candidate entry, 8 bytes. -/
def CandidateEntry.bytes (e : CandidateEntry) : List Byte :=
  le 2 e.session ++ [byte e.port] ++ le 2 e.allocation ++ [byte e.count, byte e.cls.code, yesNo e.admitted]

/-- R179: a port target. -/
def PortTarget.bytes (t : PortTarget) : List Byte := [byte t.port] ++ numberOr 2 t.session ++ le 2 t.setpoint

/-- The candidate entries and the port targets of the last result; none before the first. -/
def lastEntries (a : PowerAllocator) : List CandidateEntry := (a.last.map AllocationResult.entries).getD []

def lastTargets (a : PowerAllocator) : List PortTarget := (a.last.map AllocationResult.targets).getD []

/-- R179: every page of ALLOC_STATUS begins with the round number. -/
def allocPageBytes (s : State) (page : Nat) : List Byte :=
  le 4 s.allocator.round ++
    (if page = 0 then allocPage0 s
     else if page = 1 then counted CandidateEntry.bytes ((lastEntries s.allocator).take 16)
     else if page = 2 then counted CandidateEntry.bytes (((lastEntries s.allocator).drop 16).take 16)
     else counted PortTarget.bytes (lastTargets s.allocator))

/-! ### UNIT_STATUS (R87, R105) -/

/-- The unit kind of an index, in the order of R88. -/
def unitKindCode (u : Nat) : Nat :=
  if u ≤ 32 then 0 else if u = 33 then 1 else if u = 34 then 2 else if u ≤ 38 then 3 else 4

/-- R179: an inverter's number and its limit. -/
def limitBytes (x : Nat × Nat) : List Byte := byte x.1 :: le 4 x.2

/-- R78: the dispatch record; before the first computation its codes and figures are absent. -/
def dispatchRecordBytes : Option DispatchRecord → List Byte
  | none =>
    le 4 0 ++ [absentCode, absentCode] ++ absentWatts ++ absentWatts ++ absentWatts ++ absentWatts ++ absentWatts ++
      absentWatts ++ (absentCode :: absentWatts) ++ [byte 0]
  | some r =>
    numberOr 4 r.basis ++ [byte r.trigger.code, byte r.case.code] ++ watts r.net ++ watts r.limit ++ wattsOr r.surplus ++
      wattsOr r.charge ++ wattsOr r.remaining ++ wattsOr (r.curtail.map fun w => (w : Int)) ++
      (Command.battery r.target).bytes ++ counted limitBytes r.limits

def BatteryPolicy.bytes (p : BatteryPolicy) : List Byte :=
  le 2 p.hardFloor ++ le 2 p.softReserve ++ le 2 p.fullLimit ++ le 4 p.dischargeCap ++ le 4 p.chargeCap ++ le 4 p.topUp

/-- R87: the dispatch state shown for the battery; the copy is fresh or stale, in the order R72 names them. DESIGN CHOICE
(log 12): urgent release is sent as 1 for on and 0 for off. -/
def batteryDispatchBytes (d : BatteryDispatchUnit) : List Byte :=
  d.policy.bytes ++ batteryValueBytes d.copy ++ [byte (if d.fresh then 0 else 1)] ++ watts d.allowance ++
    [yesNo d.urgent] ++ dispatchRecordBytes d.record

/-- R87: an inverter's limit and the curtail total of the dispatch record. -/
def inverterDispatchBytes (d : BatteryDispatchUnit) (k : Nat) : List Byte :=
  wattsOr ((nth d.limits none k).map fun w => (w : Int)) ++
    wattsOr ((d.record.bind DispatchRecord.curtail).map fun w => (w : Int))

/-- R105: a unit's place in the urgent queue with its removal figure, or none. -/
def urgentBytes (q : List UrgentEntry) (u : Nat) : List Byte :=
  byte (position u (q.map UrgentEntry.unit)) ::
    wattsOr ((q.find? fun e => e.unit == u).map fun e => (e.figure : Int))

/-- R105, R87: the status of a present unit. -/
def unitStatusBytes (s : State) (u : Nat) : List Byte :=
  let x := s.field.unit u
  [byte u, byte (unitKindCode u), byte (x.address.getD 0)] ++
    (if 35 ≤ u ∧ u ≤ 38 then wattsOr (x.rated.map fun w => (w : Int)) else []) ++
    [byte x.health.code, byte x.misses] ++ timeOr (x.lastReport.map fun t => s.runTime - t) ++ x.target.bytes ++
    x.delivered.bytes ++ (s.field.sendable u).bytes ++ urgentBytes s.field.urgent u ++
    [yesNo (s.field.decrease.contains u)] ++
    (if u = 39 then batteryDispatchBytes s.dispatch
     else if 35 ≤ u ∧ u ≤ 38 then inverterDispatchBytes s.dispatch (u - 34) else [])

/-- The number of present units in a health state. -/
def healthCount (f : FieldLinkController) (h : Health) : Nat :=
  ((List.range' 1 39).filter fun u => (f.unit u).present && (f.unit u).health == h).length

/-- R105: the summary of the link. DESIGN CHOICE (log 37): the cycle position is counted from 1, and without a cycle its
length and position are sent as 0. -/
def linkSummaryBytes (s : State) : List Byte :=
  let f := s.field
  [byte s.links.part.code] ++ le 2 f.replyTimeout ++
    [byte f.cycle.length, byte (if f.cycle = [] then 0 else f.position + 1)] ++
    (match f.transaction with
      | none => [byte 0, absentCode]
      | some t => [byte t.unit, byte (if t.urgent then 0 else 1)]) ++
    counted (fun e : UrgentEntry => [byte e.unit]) f.urgent ++ counted (fun u : Nat => [byte u]) f.decrease ++
    [byte (healthCount f .unpolled), byte (healthCount f .ok), byte (healthCount f .missed), byte (healthCount f .lost)]

end Sys2Proof.Machine
end

