-- ==== Sys2Proof/Machine/QueueRequests.lean ====
section
/-! DEFINITION. The requests of the Receipt Queue (chapter 9), and RECEIPT_COPY of the Receipt Builder (R148). -/

namespace Sys2Proof.Machine

/-! DESIGN CHOICE (log 41): every count in a reply of READ_RECEIPT, SET_MARK, REWIND, RELEASE_MARK and FLUSH_QUEUE is sent in
one byte. -/

/-! ### Removal (R151) -/

/-- The receipts from the head to the read position leave the queue: the read position becomes the head. -/
def ReceiptQueue.dropDelivered (q : ReceiptQueue) : ReceiptQueue := { q with retained := q.retained.drop q.read, read := 0 }

/-! ### READ_RECEIPT (R153) -/

/-- R153: what an OK read leaves; without a mark the receipt is removed, under a mark the read position moves past
it. -/
def ReceiptQueue.afterRead (q : ReceiptQueue) : ReceiptQueue :=
  if q.mark then { q with read := q.read + 1 } else { q with retained := q.retained.eraseIdx q.read }

/-- R153, R178. -/
def handleReadReceipt (s : State) (_ : Unit) : Handled :=
  match s.queue.retained[s.queue.read]? with
  | none =>
    { state := s, status := .empty, body := [byte s.queue.retained.length, byte s.builder.waiting.length] }
  | some r =>
    let q := s.queue.afterRead
    { state := (s.setQueue q).roomIf (if s.queue.mark then 0 else 1)
      status := .ok
      body := [byte q.unread, yesNo q.mark] ++ r.bytes }

/-- READ_RECEIPT (R153). -/
def execReadReceipt (l : Link) (tag : Byte) (p : Payload Unit) (s : State) : Host.Outcome State Fault Refusal :=
  serve l 0x40#8 tag false .liveOnly noGrant handleReadReceipt p s

/-! ### SET_MARK, REWIND, RELEASE_MARK, FLUSH_QUEUE (R154 to R157) -/

/-- R154: without a mark the read position is the head already, and nothing is removed. DESIGN CHOICE (log
41): its two counts take one byte each, the removed before the retained. -/
def handleSetMark (s : State) (_ : Unit) : Handled :=
  let removed := if s.queue.mark then s.queue.read else 0
  let q := { (if s.queue.mark then s.queue.dropDelivered else s.queue) with mark := true }
  { state := (s.setQueue q).roomIf removed, status := .ok, body := [byte removed, byte q.retained.length] }

/-- SET_MARK (R154). -/
def execSetMark (l : Link) (tag : Byte) (p : Payload Unit) (s : State) : Host.Outcome State Fault Refusal :=
  serve l 0x41#8 tag false .liveOnly noGrant handleSetMark p s

/-- R155. -/
def handleRewind (s : State) (_ : Unit) : Handled :=
  if s.queue.mark then
    let q := { s.queue with read := 0 }
    { state := s.setQueue q, status := .ok, body := [byte q.unread] }
  else refuse s .noMark

/-- REWIND (R155). -/
def execRewind (l : Link) (tag : Byte) (p : Payload Unit) (s : State) : Host.Outcome State Fault Refusal :=
  serve l 0x42#8 tag false .liveOnly noGrant handleRewind p s

/-- R156. -/
def handleReleaseMark (s : State) (_ : Unit) : Handled :=
  if s.queue.mark then
    { state := (s.setQueue { s.queue.dropDelivered with mark := false }).roomIf s.queue.read
      status := .ok
      body := [byte s.queue.read] }
  else refuse s .noMark

/-- RELEASE_MARK (R156). -/
def execReleaseMark (l : Link) (tag : Byte) (p : Payload Unit) (s : State) : Host.Outcome State Fault Refusal :=
  serve l 0x43#8 tag false .liveOnly noGrant handleReleaseMark p s

/-- R157. -/
def handleFlushQueue (s : State) (_ : Unit) : Handled :=
  let removed := s.queue.retained.length
  { state := (s.setQueue { s.queue with retained := [], read := 0, mark := false }).roomIf removed
    status := .ok
    body := [byte removed] }

/-- FLUSH_QUEUE (R157). -/
def execFlushQueue (l : Link) (tag : Byte) (p : Payload Unit) (s : State) : Host.Outcome State Fault Refusal :=
  serve l 0x44#8 tag false .liveOnly noGrant handleFlushQueue p s

/-! ### RECEIPT_COPY (R148) -/

/-- R148: the entries of the ring counted back from the write position, the most recently written first. -/
def ReceiptBuilder.recent (b : ReceiptBuilder) : List Receipt :=
  (List.range' 1 16).filterMap fun k => (b.ring[(b.ringPosition + 16 - k) % 16]?).getD none

/-- R148: what the selector and the value ask for. -/
def copyAsked (f : CopyFields) : Option (Receipt → Bool) :=
  if f.selector = 0 ∧ 1 ≤ f.value ∧ f.value ≤ 65535 then some fun r => r.session == f.value
  else if f.selector = 1 ∧ 1 ≤ f.value ∧ f.value ≤ 32 then some fun r => r.port == f.value
  else none

/-- R148. -/
def handleReceiptCopy (s : State) (f : CopyFields) : Handled :=
  match copyAsked f with
  | none => refuse s .outOfRange
  | some asked =>
    match s.builder.recent.find? asked with
    | none => refuse s .notFound
    | some r => { state := s, status := .ok, body := r.bytes }

/-- RECEIPT_COPY (R148). -/
def execReceiptCopy (l : Link) (tag : Byte) (p : Payload CopyFields) (s : State) : Host.Outcome State Fault Refusal :=
  serve l 0x45#8 tag true .liveOnly noGrant handleReceiptCopy p s

/-! ### QUEUE_STATUS (R158) and SET_QUEUE_LEVELS (R159) -/

/-- R158. -/
def handleQueueStatus (s : State) (_ : Unit) : Handled :=
  { state := s, status := .ok, body := queueStatusBytes s.queue s.builder.waiting.length }

/-- QUEUE_STATUS (R158). -/
def execQueueStatus (l : Link) (tag : Byte) (p : Payload Unit) (s : State) : Host.Outcome State Fault Refusal :=
  serve l 0x46#8 tag false .liveOnly noGrant handleQueueStatus p s

/-- R159. -/
def handleSetQueueLevels (s : State) (f : LevelFields) : Handled :=
  if 1 ≤ f.notify ∧ f.notify ≤ 64 ∧ 1 ≤ f.high ∧ f.high ≤ 64 then
    ok (s.setQueue { s.queue with notify := f.notify, high := f.high })
  else refuse s .outOfRange

/-- SET_QUEUE_LEVELS (R159). -/
def execSetQueueLevels (l : Link) (tag : Byte) (p : Payload LevelFields) (s : State) :
    Host.Outcome State Fault Refusal :=
  serve l 0x0A#8 tag false .always noGrant handleSetQueueLevels p s

end Sys2Proof.Machine
end

