-- ==== Sys2Proof/Machine/Operands.lean ====
section
/-! DEFINITION. The operands of the requests read from their payloads, one reader for each layout of R176 and R177, under
the check of R174: the fixed fields all present, a text no longer than what remains, and nothing after the last field; and
the same layouts written out. -/

namespace Sys2Proof.Machine

/-- A payload of exactly `n` bytes. -/
def fixedPayload {α : Type} (n : Nat) (read : List Byte → α) (p : List Byte) : Payload α :=
  if p.length = n then .fits (read p) else .misfit

/-- The text field that ends a payload: its length byte is 0xFF and nothing follows, or gives exactly the bytes left. -/
def lastText : List Byte → Option Text
  | [] => none
  | b :: rest =>
    if b = 0xFF#8 then (if rest = [] then some none else none)
    else if rest.length = b.toNat then some (some rest)
    else none

/-- A payload of `n` fixed bytes and a text. -/
def textPayload {α : Type} (n : Nat) (read : List Byte → Text → α) (p : List Byte) : Payload α :=
  if p.length < n then .misfit
  else match lastText (p.drop n) with
    | none => .misfit
    | some t => .fits (read p t)

def emptyOf (p : List Byte) : Payload Unit := fixedPayload 0 (fun _ => ()) p

/-- A payload of one number of `k` bytes. -/
def numberOf (k : Nat) (p : List Byte) : Payload Nat := fixedPayload k (fun p => field p 0 k) p

def siteOf (p : List Byte) : Payload SiteFields :=
  fixedPayload 14 (fun p =>
    { importLimit := field p 0 2, margin := field p 2 2, exportLimit := field p 4 2, storePeak := field p 6 2,
      fallback := field p 8 2, nextReceipt := field p 10 4 }) p

def feederOf (p : List Byte) : Payload FeederFields :=
  fixedPayload 3 (fun p => { feeder := field p 0 1, cap := field p 1 2 }) p

def portOf (p : List Byte) : Payload PortFields :=
  fixedPayload 9 (fun p =>
    { port := field p 0 1, present := field p 1 1, feeder := field p 2 1, cls := field p 3 1, ratedMax := field p 4 2,
      minimum := field p 6 1, address := field p 7 1, freeVend := field p 8 1 }) p

def unitOf (p : List Byte) : Payload UnitFields :=
  fixedPayload 8 (fun p =>
    { kind := field p 0 1, inverter := field p 1 1, address := field p 2 1, rated := field p 3 4,
      present := field p 7 1 }) p

def policyOf (p : List Byte) : Payload PolicyFields :=
  fixedPayload 18 (fun p =>
    { hardFloor := field p 0 2, softReserve := field p 2 2, fullLimit := field p 4 2, dischargeCap := field p 6 4,
      chargeCap := field p 10 4, topUp := field p 14 4 }) p

def timersOf (p : List Byte) : Payload TimerFields :=
  fixedPayload 16 (fun p =>
    { authorization := field p 0 2, dormant := field p 2 2, closing := field p 4 2, stale := field p 6 2,
      restore := field p 8 2, fallbackHold := field p 10 2, period := field p 12 2, reply := field p 14 2 }) p

def watermarksOf (p : List Byte) : Payload WatermarkFields :=
  fixedPayload 2 (fun p => { high := field p 0 1, urgent := field p 1 1 }) p

def noticeRouteOf (p : List Byte) : Payload RouteFields :=
  fixedPayload 3 (fun p => { kind := field p 0 1, route := field p 1 1, priority := field p 2 1 }) p

def tillOf (p : List Byte) : Payload TillFields :=
  fixedPayload 3 (fun p => { grant := field p 0 1, first := field p 1 1, last := field p 2 1 }) p

def levelsOf (p : List Byte) : Payload LevelFields :=
  fixedPayload 2 (fun p => { notify := field p 0 1, high := field p 1 1 }) p

def authorizeOf (p : List Byte) : Payload AuthorizeFields :=
  textPayload 5 (fun p t => { port := field p 0 1, departure := field p 1 4, customer := t }) p

def setDepartureOf (p : List Byte) : Payload DepartureFields :=
  fixedPayload 6 (fun p => { session := field p 0 2, departure := field p 2 4 }) p

def purchaseOf (p : List Byte) : Payload PurchaseFields :=
  textPayload 5 (fun p t => { session := field p 0 2, amount := field p 2 3, reference := t }) p

/-- The 22 fixed bytes of a tariff record and its label, from an offset of a payload (R177). -/
def tariffAt (p : List Byte) (o : Nat) (label : Text) : TariffFields :=
  { id := field p o 2, solarRate := field p (o + 2) 2, batteryRate := field p (o + 4) 2, gridRate := field p (o + 6) 2,
    idleGrace := field p (o + 8) 1, idleRate := field p (o + 9) 2, idleCap := field p (o + 11) 3,
    step := field p (o + 14) 3, perStep := field p (o + 17) 2, allowanceCap := field p (o + 19) 3, label := label }

def programOf (p : List Byte) : Payload ProgramFields :=
  textPayload 23 (fun p t => { slot := field p 0 1, record := tariffAt p 1 t }) p

def copyOf (p : List Byte) : Payload CopyFields :=
  fixedPayload 3 (fun p => { selector := field p 0 1, value := field p 1 2 }) p

/-! ### Laying out a request (R176, R177): the other direction -/

def siteFieldBytes (f : SiteFields) : List Byte :=
  le 2 f.importLimit ++ le 2 f.margin ++ le 2 f.exportLimit ++ le 2 f.storePeak ++ le 2 f.fallback ++ le 4 f.nextReceipt

def feederFieldBytes (f : FeederFields) : List Byte := le 1 f.feeder ++ le 2 f.cap

def portFieldBytes (f : PortFields) : List Byte :=
  le 1 f.port ++ le 1 f.present ++ le 1 f.feeder ++ le 1 f.cls ++ le 2 f.ratedMax ++ le 1 f.minimum ++ le 1 f.address ++
    le 1 f.freeVend

def unitFieldBytes (f : UnitFields) : List Byte :=
  le 1 f.kind ++ le 1 f.inverter ++ le 1 f.address ++ le 4 f.rated ++ le 1 f.present

def policyFieldBytes (f : PolicyFields) : List Byte :=
  le 2 f.hardFloor ++ le 2 f.softReserve ++ le 2 f.fullLimit ++ le 4 f.dischargeCap ++ le 4 f.chargeCap ++ le 4 f.topUp

def timerFieldBytes (f : TimerFields) : List Byte :=
  le 2 f.authorization ++ le 2 f.dormant ++ le 2 f.closing ++ le 2 f.stale ++ le 2 f.restore ++ le 2 f.fallbackHold ++
    le 2 f.period ++ le 2 f.reply

def watermarkFieldBytes (f : WatermarkFields) : List Byte := le 1 f.high ++ le 1 f.urgent

def routeFieldBytes (f : RouteFields) : List Byte := le 1 f.kind ++ le 1 f.route ++ le 1 f.priority

def tillFieldBytes (f : TillFields) : List Byte := le 1 f.grant ++ le 1 f.first ++ le 1 f.last

def levelFieldBytes (f : LevelFields) : List Byte := le 1 f.notify ++ le 1 f.high

def authorizeFieldBytes (f : AuthorizeFields) : List Byte := le 1 f.port ++ le 4 f.departure ++ textBytes f.customer

def departureFieldBytes (f : DepartureFields) : List Byte := le 2 f.session ++ le 4 f.departure

def purchaseFieldBytes (f : PurchaseFields) : List Byte := le 2 f.session ++ le 3 f.amount ++ textBytes f.reference

/-- R177: the 22 fixed bytes of a tariff record and the label. -/
def tariffFieldBytes (f : TariffFields) : List Byte :=
  le 2 f.id ++ le 2 f.solarRate ++ le 2 f.batteryRate ++ le 2 f.gridRate ++ le 1 f.idleGrace ++ le 2 f.idleRate ++
    le 3 f.idleCap ++ le 3 f.step ++ le 2 f.perStep ++ le 3 f.allowanceCap ++ textBytes f.label

def programFieldBytes (f : ProgramFields) : List Byte := le 1 f.slot ++ tariffFieldBytes f.record

def copyFieldBytes (f : CopyFields) : List Byte := le 1 f.selector ++ le 2 f.value

/-- Whether a payload fits its layout. -/
def fitting {α : Type} : Payload α → Bool
  | .fits _ => true
  | .misfit => false

/-- The bytes of a payload that fits; a misfit stands for any of many. -/
def payloadBytes {α : Type} (lay : α → List Byte) : Payload α → Option (List Byte)
  | .fits f => some (lay f)
  | .misfit => none

/-- What every request has: its link, its kind (section 11.3), its tag, and whether its payload fits. -/
structure RequestHead where
  link : Link
  kind : Byte
  tag : Byte
  fits : Bool
  deriving DecidableEq, Repr

/-- The head of a request; none for the commands that are not requests. -/
def requestHead : Instr → Option RequestHead
  | .setSite l tag p => some ⟨l, 0x01#8, tag, fitting p⟩
  | .setFeeder l tag p => some ⟨l, 0x02#8, tag, fitting p⟩
  | .setPort l tag p => some ⟨l, 0x03#8, tag, fitting p⟩
  | .setUnit l tag p => some ⟨l, 0x04#8, tag, fitting p⟩
  | .setBatteryPolicy l tag p => some ⟨l, 0x05#8, tag, fitting p⟩
  | .setTimers l tag p => some ⟨l, 0x06#8, tag, fitting p⟩
  | .setWatermarks l tag p => some ⟨l, 0x07#8, tag, fitting p⟩
  | .setNoticeRoute l tag p => some ⟨l, 0x08#8, tag, fitting p⟩
  | .setTillAccess l tag p => some ⟨l, 0x09#8, tag, fitting p⟩
  | .setQueueLevels l tag p => some ⟨l, 0x0A#8, tag, fitting p⟩
  | .setTime l tag p => some ⟨l, 0x0B#8, tag, fitting p⟩
  | .goLive l tag p => some ⟨l, 0x0C#8, tag, fitting p⟩
  | .restart l tag p => some ⟨l, 0x0D#8, tag, fitting p⟩
  | .authorize l tag p => some ⟨l, 0x20#8, tag, fitting p⟩
  | .holdPort l tag p => some ⟨l, 0x21#8, tag, fitting p⟩
  | .releasePort l tag p => some ⟨l, 0x22#8, tag, fitting p⟩
  | .stopSession l tag p => some ⟨l, 0x23#8, tag, fitting p⟩
  | .setDeparture l tag p => some ⟨l, 0x24#8, tag, fitting p⟩
  | .sessionStatus l tag p => some ⟨l, 0x25#8, tag, fitting p⟩
  | .portStatus l tag p => some ⟨l, 0x26#8, tag, fitting p⟩
  | .linkPurchase l tag p => some ⟨l, 0x27#8, tag, fitting p⟩
  | .programTariff l tag p => some ⟨l, 0x30#8, tag, fitting p⟩
  | .eraseTariff l tag p => some ⟨l, 0x31#8, tag, fitting p⟩
  | .activateTariff l tag p => some ⟨l, 0x32#8, tag, fitting p⟩
  | .readTariff l tag p => some ⟨l, 0x33#8, tag, fitting p⟩
  | .readReceipt l tag p => some ⟨l, 0x40#8, tag, fitting p⟩
  | .setMark l tag p => some ⟨l, 0x41#8, tag, fitting p⟩
  | .rewind l tag p => some ⟨l, 0x42#8, tag, fitting p⟩
  | .releaseMark l tag p => some ⟨l, 0x43#8, tag, fitting p⟩
  | .flushQueue l tag p => some ⟨l, 0x44#8, tag, fitting p⟩
  | .receiptCopy l tag p => some ⟨l, 0x45#8, tag, fitting p⟩
  | .queueStatus l tag p => some ⟨l, 0x46#8, tag, fitting p⟩
  | .readDiscrepancy l tag p => some ⟨l, 0x50#8, tag, fitting p⟩
  | .clearDiscrepancy l tag p => some ⟨l, 0x51#8, tag, fitting p⟩
  | .siteStatus l tag p => some ⟨l, 0x60#8, tag, fitting p⟩
  | .allocStatus l tag p => some ⟨l, 0x61#8, tag, fitting p⟩
  | .unitStatus l tag p => some ⟨l, 0x62#8, tag, fitting p⟩
  | _ => none

/-- The payload of a request as its frame carries it (R176). -/
def requestPayload : Instr → Option (List Byte)
  | .setSite _ _ p => payloadBytes siteFieldBytes p
  | .setFeeder _ _ p => payloadBytes feederFieldBytes p
  | .setPort _ _ p => payloadBytes portFieldBytes p
  | .setUnit _ _ p => payloadBytes unitFieldBytes p
  | .setBatteryPolicy _ _ p => payloadBytes policyFieldBytes p
  | .setTimers _ _ p => payloadBytes timerFieldBytes p
  | .setWatermarks _ _ p => payloadBytes watermarkFieldBytes p
  | .setNoticeRoute _ _ p => payloadBytes routeFieldBytes p
  | .setTillAccess _ _ p => payloadBytes tillFieldBytes p
  | .setQueueLevels _ _ p => payloadBytes levelFieldBytes p
  | .setTime _ _ p => payloadBytes (le 4) p
  | .goLive _ _ p => payloadBytes (fun _ => []) p
  | .restart _ _ p => payloadBytes (le 1) p
  | .authorize _ _ p => payloadBytes authorizeFieldBytes p
  | .holdPort _ _ p => payloadBytes (le 1) p
  | .releasePort _ _ p => payloadBytes (le 1) p
  | .stopSession _ _ p => payloadBytes (le 2) p
  | .setDeparture _ _ p => payloadBytes departureFieldBytes p
  | .sessionStatus _ _ p => payloadBytes (le 2) p
  | .portStatus _ _ p => payloadBytes (le 1) p
  | .linkPurchase _ _ p => payloadBytes purchaseFieldBytes p
  | .programTariff _ _ p => payloadBytes programFieldBytes p
  | .eraseTariff _ _ p => payloadBytes (le 1) p
  | .activateTariff _ _ p => payloadBytes (le 1) p
  | .readTariff _ _ p => payloadBytes (le 1) p
  | .readReceipt _ _ p => payloadBytes (fun _ => []) p
  | .setMark _ _ p => payloadBytes (fun _ => []) p
  | .rewind _ _ p => payloadBytes (fun _ => []) p
  | .releaseMark _ _ p => payloadBytes (fun _ => []) p
  | .flushQueue _ _ p => payloadBytes (fun _ => []) p
  | .receiptCopy _ _ p => payloadBytes copyFieldBytes p
  | .queueStatus _ _ p => payloadBytes (fun _ => []) p
  | .readDiscrepancy _ _ p => payloadBytes (fun _ => []) p
  | .clearDiscrepancy _ _ p => payloadBytes (fun _ => []) p
  | .siteStatus _ _ p => payloadBytes (le 1) p
  | .allocStatus _ _ p => payloadBytes (le 1) p
  | .unitStatus _ _ p => payloadBytes (le 1) p
  | _ => none

end Sys2Proof.Machine
end

