-- ==== Sys2Proof/Machine/SessionEvents.lean ====
section
/-! DEFINITION. What the Session Controller takes from the other blocks and from its own timers (chapter 1). -/

namespace Sys2Proof.Machine

/-! ### Charger reports (R3, R5, R19) -/

/-- R5: the fault indication. CHARGER_FAULT and hold reason FAULT when it becomes yes, the reason removed when it
becomes no. -/
def State.applyFault (s : State) (p : Nat) (fault : Bool) : State :=
  let before := (s.sessions.record p).fault
  let s := s.setSessions (s.sessions.setRecord p { s.sessions.record p with fault := fault })
  if before = fault then s
  else if fault then (s.raise .chargerFault p).holdPort p .fault true
  else s.holdPort p .fault false

/-- R5, R12, R14: a session's demand follows the report; in DORMANT a demand above 0 returns it to ACTIVE. -/
def Session.follow (x : Session) (demand effMin : Nat) : Session :=
  { x with demand := demand, effMin := effMin
           state := if x.state = .dormant ∧ 0 < demand then .active else x.state }

/-- R5: the demand and effective minimum of the session that holds the port. -/
def State.applyDemand (s : State) (p : Nat) : State :=
  match s.sessions.holder p with
  | none => s
  | some x =>
    let demand := s.sessions.demandAt p
    s.transition x.number fun y => y.follow demand (s.sessions.effMinAt p demand)

/-- R11, R19: the vehicle connection at a port with a session. A session that is charging or able to charge ends on a
disconnect; one stopped by STOP_SESSION ends on a disconnect or a power of 0. -/
def State.applyToSession (s : State) (x : Session) (r : ChargerReport) : State :=
  let final : FinalReport := { report := r.report, connected := r.connected, hasReading := r.hasReading }
  match x.state with
  | .plugged => if r.connected then s else s.abandon x .free
  | .active | .dormant | .held =>
    if r.connected then s else (s.transition x.number fun y => y.takeFinal final).tryComplete r.port
  | .closing =>
    if x.final = none ∧ (r.connected = false ∨ r.power = 0) then
      (s.transition x.number fun y => y.takeFinal final).tryComplete r.port
    else s
  | .pricing | .waitQueue => s

/-- R3: the vehicle connection applied to the port's state. -/
def State.applyConnection (s : State) (r : ChargerReport) : State :=
  match (s.sessions.record r.port).state, r.connected with
  | some .free, true =>
    if s.sessions.isFull then
      ((s.setSessions { s.sessions with waiting := s.sessions.waiting ++ [r.port] }).setPortState r.port
        .waiting).raise .tableFull r.port
    else s.createSession r.port
  | some .waiting, false =>
    (s.setSessions { s.sessions with waiting := s.sessions.waiting.filter fun p => p != r.port }).setPortState r.port .free
  | some .blocked, false => s.setPortState r.port .free
  | some .inSession, _ =>
    match s.sessions.holder r.port with
    | none => s
    | some x => s.applyToSession x r
  | _, _ => s

/-- R5: the steps as R5 lists them; a report of a port that is not present is not taken. DESIGN CHOICE (log 48): R5 gives its
steps no order, and the fault comes before the demand, so a session whose last hold reason the fault was leaves HELD by the
demand of the report before. A session that leaves ACTIVE on the
report whose closing it also completes leaves its port LOCKOUT alone (R12). -/
def State.takeChargerReport (s : State) (r : ChargerReport) : State :=
  match s.sessions.entry r.port with
  | none => s
  | some _ =>
    let sent := s.events.chargerTargets.length
    let s := s.setSessions (s.sessions.setRecord r.port { s.sessions.record r.port with acceptance := some r.acceptance })
    (((s.applyFault r.port r.fault).applyDemand r.port).applyConnection r).lockoutAlone sent r.port

/-- CHARGER_REPORT (R5): the oldest report of the port that waits for the Session Controller. -/
def execChargerReport (port : Nat) (s : State) : Host.Outcome State Fault Refusal :=
  match takeFirst (fun r => r.port == port) s.events.chargerReports with
  | none => nothing s
  | some (r, rest) => done ((s.setEvents { s.events with chargerReports := rest }).takeChargerReport r)

/-- READING_APPLIED (R113): the oldest reading-applied event of the port. -/
def execReadingApplied (port : Nat) (s : State) : Host.Outcome State Fault Refusal :=
  match takeFirst (fun r => r.port == port) s.events.readingsApplied with
  | none => nothing s
  | some (r, rest) =>
    let s := s.setEvents { s.events with readingsApplied := rest }
    done ((s.setSessions (s.sessions.setRecord r.port { s.sessions.record r.port with applied := some r.report })).tryComplete
      r.port)

/-! ### Timers (R11, R14, R20) -/

/-- AUTHORIZATION_TIMEOUT (R11): the port becomes BLOCKED. -/
def execAuthorizationTimeout (session : Nat) (s : State) : Host.Outcome State Fault Refusal :=
  match s.sessions.find session with
  | none => nothing s
  | some x =>
    match x.state, x.authorizationTimer with
    | .plugged, some expiry => done ((s.reach expiry).abandon x .blocked)
    | _, _ => nothing s

/-- DORMANT_TIMEOUT (R14). -/
def execDormantTimeout (session : Nat) (s : State) : Host.Outcome State Fault Refusal :=
  match s.sessions.find session with
  | none => nothing s
  | some x =>
    match x.state, x.dormantTimer with
    | .active, some expiry => done ((s.reach expiry).transition session fun y => { y with state := .dormant })
    | _, _ => nothing s

/-- R14: an idle second, and the run time of the next. -/
def Session.idleSecond (x : Session) (at' : Nat) : Session :=
  { x with idle := saturate32 (x.idle + 1), nextIdle := some (at' + 1000) }

/-- IDLE_SECOND_TICK (R14). -/
def execIdleSecondTick (session : Nat) (s : State) : Host.Outcome State Fault Refusal :=
  match s.sessions.find session with
  | none => nothing s
  | some x =>
    match x.state, x.nextIdle with
    | .dormant, some t =>
      let s := s.reach t
      done (s.setSessions (s.sessions.update session fun y => y.idleSecond t))
    | _, _ => nothing s

/-- CLOSING_TIMEOUT (R20): closed ESTIMATED on the port's last reading, the vehicle taken as still connected. -/
def execClosingTimeout (session : Nat) (s : State) : Host.Outcome State Fault Refusal :=
  match s.sessions.find session with
  | none => nothing s
  | some x =>
    match x.state, x.closingTimer with
    | .closing, some expiry => done ((s.reach expiry).completeClosing x true true)
    | _, _ => nothing s

/-! ### Results and reclassifications (R13, R63, R66) -/

/-- R13, R66: an entry for a session in ACTIVE on the port named. -/
def Session.takeEntry (x : Session) (e : CandidateEntry) : Session :=
  { x with allocation := e.allocation, highest := max x.highest e.allocation, deferral := e.count, cls := e.cls }

/-- Whether an entry applies to a session (R13). -/
def CandidateEntry.appliesTo (e : CandidateEntry) (x : Session) : Bool :=
  decide (x.number = e.session ∧ x.port = e.port ∧ x.state = .active)

/-- R13, R25: URGENT_SESSION when the class becomes URGENT from another class. -/
def State.noticeUrgent (s : State) (n : Nat) (before after : SessionClass) : State :=
  if before ≠ .urgent ∧ after = .urgent then s.raise .urgentSession n else s

/-- R13: one entry applied; an entry for a session that has left ACTIVE or the table is ignored. -/
def State.takeEntry (s : State) (e : CandidateEntry) : State :=
  match s.sessions.find e.session with
  | none => s
  | some x =>
    if e.appliesTo x then
      (s.setSessions (s.sessions.update e.session fun y => y.takeEntry e)).noticeUrgent e.session x.cls e.cls
    else s

/-- R13: a session in ACTIVE that the result does not name has its allocation set to 0. -/
def Session.unnamed (x : Session) (es : List CandidateEntry) : Session :=
  if x.state = .active ∧ (es.any fun e => e.appliesTo x) = false then { x with allocation := 0 } else x

/-- R13, R66: a result applied, and the allocator told so. -/
def State.takeResult (s : State) (r : AllocationResult) : State :=
  let s := r.entries.foldl State.takeEntry s
  (s.setSessions { s.sessions with table := s.sessions.table.map fun x => x.unnamed r.entries }).sendResultApplied

/-- ALLOCATION_RESULT_SESSIONS (R13): results and reclassifications are taken in the order they were sent (R63). -/
def execAllocationResultSessions (s : State) : Host.Outcome State Fault Refusal :=
  match s.events.allocatorMessages with
  | .result r :: rest => done ((s.setEvents { s.events with allocatorMessages := rest }).takeResult r)
  | _ => nothing s

/-- R63: one session classified again from its count. -/
def State.reclassify (high urgent : Nat) (s : State) (n : Nat) : State :=
  match s.sessions.find n with
  | none => s
  | some x =>
    let c := classOf high urgent x.deferral
    (s.setSessions (s.sessions.update n fun y => { y with cls := c })).noticeUrgent n x.cls c

/-- RECLASSIFICATION (R63). DESIGN CHOICE (log 35): the sessions are classified in the order of the table, so the data of a
gathered URGENT_SESSION is the last of them to become URGENT. -/
def execReclassification (s : State) : Host.Outcome State Fault Refusal :=
  match s.events.allocatorMessages with
  | .reclassify high urgent :: rest =>
    done ((s.sessions.table.map Session.number).foldl (State.reclassify high urgent)
      (s.setEvents { s.events with allocatorMessages := rest }))
  | _ => nothing s

/-! ### Site state, charger health, activation (R10, R15) -/

/-- R15: hold reason ISLAND on the entry to ISLAND, removed on the entry to NORMAL from RESTORING. DESIGN CHOICE
(log 35): the sessions are gone through in the order of the table, so the data of a gathered SESSION_CHANGE is the last of
them to change its state. -/
def State.followSite (s : State) (c : SiteChange) : State :=
  let numbers := s.sessions.table.map Session.number
  if c.after = .island then numbers.foldl (fun s n => s.transition n fun x => x.addHold .island) s
  else if c.before = .restoring ∧ c.after = .normal then
    numbers.foldl (fun s n => s.transition n fun x => x.removeHold .island) s
  else s

/-- SITE_STATE_CHANGE_SESSIONS (R15). -/
def execSiteStateChangeSessions (s : State) : Host.Outcome State Fault Refusal :=
  match s.events.siteToSessions with
  | [] => nothing s
  | c :: rest => done ((s.setEvents { s.events with siteToSessions := rest }).followSite c)

/-- CHARGER_HEALTH_CHANGE (R15): the oldest change of the port's charger to or from LOST. -/
def execChargerHealthChange (port : Nat) (s : State) : Host.Outcome State Fault Refusal :=
  match takeFirst (fun h => h.unit == port) s.events.chargerHealth with
  | none => nothing s
  | some (h, rest) =>
    done ((s.setEvents { s.events with chargerHealth := rest }).holdPort port .chargerLost (h.after == .lost))

/-- ACTIVATION_EVENT (R10): every free-vend session in PLUGGED authorized, in the order of creation, against the slot
that is then active. -/
def execActivationEvent (s : State) : Host.Outcome State Fault Refusal :=
  match s.events.activations with
  | [] => nothing s
  | _ :: rest =>
    done ((s.sessions.table.map Session.number).foldl State.freeVend (s.setEvents { s.events with activations := rest }))

end Sys2Proof.Machine
end

