-- ==== Sys2Proof/Machine/SessionRequests.lean ====
section
/-! DEFINITION. The requests the Session Controller owns (chapter 1), but for the status requests. -/

namespace Sys2Proof.Machine

/-! ### SET_PORT (R1) -/

/-- The port class of a code (R176). -/
def portClassOf (code : Nat) : Option PortClass :=
  if code = 0 then some .ac1 else if code = 1 then some .ac3 else if code = 2 then some .dc else none

/-- R1: the default minimum of a class. -/
def PortClass.defaultMinimum : PortClass → Nat
  | .ac1 => 14
  | .ac3 => 42
  | .dc => 100

/-- R1's ranges, in the numbers of the frame. -/
def portInRange (f : PortFields) : Bool :=
  decide (1 ≤ f.port ∧ f.port ≤ 32 ∧ 1 ≤ f.feeder ∧ f.feeder ≤ 4 ∧ 1 ≤ f.ratedMax ∧ f.ratedMax ≤ 2000 ∧
    f.minimum ≤ 220 ∧ 1 ≤ f.address ∧ f.address ≤ 247) && isYesNo f.present && isYesNo f.freeVend

/-- R1, R28, R88, R106: the port table entry, and the unit entry, records and meter that go with the port. A port that
becomes absent loses its records. -/
def State.configurePort (s : State) (p : Nat) (e : Option PortEntry) : State :=
  let unit := configuredUnit (s.field.unit p) p (match e with
    | none => 0
    | some e => e.address) 0 e.isSome
  let s := s.setField (s.field.setUnit p unit)
  let s := s.setBalance { s.balance with chargers := put s.balance.chargers p 0 }
  let s := match e with
    | some _ => s
    | none => s.setMetering (s.metering.setMeter p PortMeter.reset)
  s.setSessions { s.sessions with
    ports := put s.sessions.ports p e
    records := match e with
      | some _ => s.sessions.records
      | none => put s.sessions.records p PortRecord.reset }

/-- R1. -/
def handleSetPort (s : State) (f : PortFields) : Handled :=
  match portClassOf f.cls with
  | none => refuse s .outOfRange
  | some cls =>
    if portInRange f then
      if f.present = 1 ∧ addressTaken s.field f.port f.address then refuse s .duplicate
      else if f.present = 1 then
        ok (s.configurePort f.port (some
          { feeder := f.feeder, cls := cls, ratedMax := f.ratedMax,
            minimum := if f.minimum = 0 then cls.defaultMinimum else f.minimum, address := f.address,
            freeVend := f.freeVend == 1 }))
      else ok (s.configurePort f.port none)
    else refuse s .outOfRange

/-- SET_PORT (R1). -/
def execSetPort (l : Link) (tag : Byte) (p : Payload PortFields) (s : State) : Host.Outcome State Fault Refusal :=
  serve l 0x03#8 tag false .setupOnly noGrant handleSetPort p s

/-! ### AUTHORIZE (R8, R9, R166) -/

/-- R8: the checks after the part state and the till grant. DESIGN CHOICE (log 41): the session number in the reply of R9
takes two bytes. -/
def handleAuthorize (who : Authorizer) (s : State) (f : AuthorizeFields) : Handled :=
  if 1 ≤ f.port ∧ f.port ≤ 32 then
    match s.sessions.holder f.port with
    | none => refuse s .notFound
    | some x =>
      if x.state ≠ .plugged then refuse s .wrongState
      else if s.store.active = none then refuse s .noTariff
      else
        { state := s.authorizeSession x.number who f.customer (if f.departure = 0 then none else some f.departure)
          status := .ok
          body := le 2 x.number }
  else refuse s .outOfRange

/-- R166, step 5 of R164: the grant is on and the port lies in the till range. -/
def tillGrant (s : State) (f : AuthorizeFields) : Bool :=
  s.links.tillGrant && decide (s.links.tillFirst ≤ f.port ∧ f.port ≤ s.links.tillLast)

/-- R9: the authorizer by the link the request arrived on. -/
def Link.authorizer : Link → Authorizer
  | .site => .site
  | .till => .till

/-- AUTHORIZE (R9). -/
def execAuthorize (l : Link) (tag : Byte) (p : Payload AuthorizeFields) (s : State) : Host.Outcome State Fault Refusal :=
  serve l 0x20#8 tag true .liveOnly tillGrant (handleAuthorize (Link.authorizer l)) p s

/-! ### HOLD_PORT and RELEASE_PORT (R17) -/

/-- R17: the session states that take and lose hold reasons. -/
def SessionState.takesHolds : SessionState → Bool
  | .plugged | .active | .dormant | .held => true
  | .closing | .pricing | .waitQueue => false

/-- R17. -/
def handleHold (add : Bool) (s : State) (port : Nat) : Handled :=
  if 1 ≤ port ∧ port ≤ 32 then
    match s.sessions.holder port with
    | none => refuse s .notFound
    | some x => if x.state.takesHolds then ok (s.holdPort port .siteHold add) else refuse s .wrongState
  else refuse s .outOfRange

/-- HOLD_PORT (R17). -/
def execHoldPort (l : Link) (tag : Byte) (p : Payload Nat) (s : State) : Host.Outcome State Fault Refusal :=
  serve l 0x21#8 tag false .liveOnly noGrant (handleHold true) p s

/-- RELEASE_PORT (R17). -/
def execReleasePort (l : Link) (tag : Byte) (p : Payload Nat) (s : State) : Host.Outcome State Fault Refusal :=
  serve l 0x22#8 tag false .liveOnly noGrant (handleHold false) p s

/-! ### STOP_SESSION (R18) -/

/-- R18: the states of a session that can be stopped. -/
def SessionState.canStop : SessionState → Bool
  | .active | .dormant | .held => true
  | .plugged | .closing | .pricing | .waitQueue => false

/-- R18. -/
def handleStopSession (s : State) (n : Nat) : Handled :=
  match s.sessions.find n with
  | none => refuse s .notFound
  | some x =>
    if x.state.canStop then ok (s.transition n fun y => y.stop (s.after s.sessions.closingTimeout))
    else refuse s .wrongState

/-- STOP_SESSION (R18). -/
def execStopSession (l : Link) (tag : Byte) (p : Payload Nat) (s : State) : Host.Outcome State Fault Refusal :=
  serve l 0x23#8 tag false .liveOnly noGrant handleStopSession p s

/-! ### SET_DEPARTURE (R23) -/

/-- R23. -/
def handleSetDeparture (s : State) (f : DepartureFields) : Handled :=
  match s.sessions.find f.session with
  | none => refuse s .notFound
  | some x =>
    if x.state.takesHolds then
      ok (s.setSessions (s.sessions.update f.session fun y =>
        { y with departure := if f.departure = 0 then none else some (departureAt s.siteTime f.departure) }))
    else refuse s .wrongState

/-- SET_DEPARTURE (R23). -/
def execSetDeparture (l : Link) (tag : Byte) (p : Payload DepartureFields) (s : State) :
    Host.Outcome State Fault Refusal :=
  serve l 0x24#8 tag false .liveOnly noGrant handleSetDeparture p s

/-! ### LINK_PURCHASE (R22, R152) -/

/-- R22, R152: whether a receipt of a session number is in the copy ring or the receipt queue. -/
def receiptKnown (s : State) (n : Nat) : Bool :=
  (s.builder.ring.toList.any fun e => match e with
    | none => false
    | some r => r.session == n) || s.queue.retained.any fun r => r.session == n

/-- R22: a till reference of 8 characters and an amount of 1 to 1,000,000. -/
def purchaseInRange (f : PurchaseFields) : Bool :=
  decide (1 ≤ f.amount ∧ f.amount ≤ 1000000) && match f.reference with
    | none => false
    | some t => decide (t.length = 8)

/-- R22: the checks in order. -/
def handleLinkPurchase (s : State) (f : PurchaseFields) : Handled :=
  if purchaseInRange f then
    let reference := f.reference.getD []
    match s.sessions.find f.session with
    | none => refuse s (if receiptKnown s f.session then .tooLate else .notFound)
    | some x =>
      if x.state = .waitQueue then refuse s .tooLate
      else if x.links.any fun k => k.reference == reference then refuse s .duplicate
      else if Config.linkCapacity ≤ x.links.length then refuse s .full
      else
        ok (s.setSessions (s.sessions.update f.session fun y =>
          { y with links := y.links ++ [{ reference := reference, amount := f.amount }] }))
  else refuse s .outOfRange

/-- LINK_PURCHASE (R22). -/
def execLinkPurchase (l : Link) (tag : Byte) (p : Payload PurchaseFields) (s : State) :
    Host.Outcome State Fault Refusal :=
  serve l 0x27#8 tag true .liveOnly noGrant handleLinkPurchase p s

end Sys2Proof.Machine
end

