-- ==== Sys2Proof/Machine/SettingRequests.lean ====
section
/-! DEFINITION. The settings that belong to several blocks or to the Link Controller: SET_TIMERS (R26, R32, R51, R96),
SET_NOTICE_ROUTE (R171), SET_TILL_ACCESS (R166), SET_TIME (R170). -/

namespace Sys2Proof.Machine

/-! ### SET_TIMERS -/

/-- The ranges of R26, R32, R51 and R96. -/
def timersInRange (f : TimerFields) : Bool :=
  decide (30 ≤ f.authorization ∧ f.authorization ≤ 1800 ∧ 10 ≤ f.dormant ∧ f.dormant ≤ 3600 ∧ 5 ≤ f.closing ∧
    f.closing ≤ 300 ∧ 2 ≤ f.stale ∧ f.stale ≤ 60 ∧ 10 ≤ f.restore ∧ f.restore ≤ 600 ∧ 10 ≤ f.fallbackHold ∧
    f.fallbackHold ≤ 600 ∧ 1 ≤ f.period ∧ f.period ≤ 10 ∧ 10 ≤ f.reply ∧ f.reply ≤ 200)

/-- R26: all settings or none; a timer already running keeps its expiry. -/
def handleSetTimers (s : State) (f : TimerFields) : Handled :=
  if timersInRange f then
    let s := s.setSessions { s.sessions with
      authorizationTimeout := f.authorization, dormantDelay := f.dormant, closingTimeout := f.closing }
    let s := s.setBalance { s.balance with
      staleTime := f.stale, restoreDelay := f.restore, fallbackHold := f.fallbackHold }
    let s := s.setAllocator { s.allocator with period := f.period }
    ok (s.setField { s.field with replyTimeout := f.reply })
  else refuse s .outOfRange

/-- SET_TIMERS (R26). -/
def execSetTimers (l : Link) (tag : Byte) (p : Payload TimerFields) (s : State) : Host.Outcome State Fault Refusal :=
  serve l 0x06#8 tag false .always noGrant handleSetTimers p s

/-! ### SET_NOTICE_ROUTE -/

/-- The route of a code (R176). -/
def routeOf (code : Nat) : Option Route :=
  if code = 0 then some .none else if code = 1 then some .site else if code = 2 then some .till
  else if code = 3 then some .both else none

/-- R171. -/
def handleSetNoticeRoute (s : State) (f : RouteFields) : Handled :=
  match routeOf f.route with
  | none => refuse s .outOfRange
  | some route =>
    if 1 ≤ f.kind ∧ f.kind ≤ 16 ∧ f.priority ≤ 7 then
      ok (s.setLinks { s.links with routes := put s.links.routes f.kind { route := route, priority := f.priority } })
    else refuse s .outOfRange

/-- SET_NOTICE_ROUTE (R171). -/
def execSetNoticeRoute (l : Link) (tag : Byte) (p : Payload RouteFields) (s : State) :
    Host.Outcome State Fault Refusal :=
  serve l 0x08#8 tag false .always noGrant handleSetNoticeRoute p s

/-! ### SET_TILL_ACCESS -/

/-- R166. -/
def handleSetTillAccess (s : State) (f : TillFields) : Handled :=
  if isYesNo f.grant = true ∧ 1 ≤ f.first ∧ f.first ≤ f.last ∧ f.last ≤ 32 then
    ok (s.setLinks { s.links with tillGrant := f.grant == 1, tillFirst := f.first, tillLast := f.last })
  else refuse s .outOfRange

/-- SET_TILL_ACCESS (R166). -/
def execSetTillAccess (l : Link) (tag : Byte) (p : Payload TillFields) (s : State) : Host.Outcome State Fault Refusal :=
  serve l 0x09#8 tag false .always noGrant handleSetTillAccess p s

/-! ### SET_TIME -/

/-- R170: the first advance comes one second of run time after the request. A time of the frame fits four bytes. -/
def handleSetTime (s : State) (time : Nat) : Handled :=
  if time < Config.word32 then
    ok (s.setLinks { s.links with clock := { time := time, isSet := true, nextTick := s.runTime + 1000 } })
  else refuse s .outOfRange

/-- SET_TIME (R170). -/
def execSetTime (l : Link) (tag : Byte) (p : Payload Nat) (s : State) : Host.Outcome State Fault Refusal :=
  serve l 0x0B#8 tag false .always noGrant handleSetTime p s

end Sys2Proof.Machine
end

