-- ==== Sys2Proof/Machine/StatusRequests.lean ====
section
/-! DEFINITION. The status requests (R24, R47, R70, R105, R119). None but CLEAR_DISCREPANCY changes anything but the
link. -/

namespace Sys2Proof.Machine

/-- An OK reply with what follows the status. -/
def report (s : State) (body : List Byte) : Handled := { state := s, status := .ok, body := body }

/-- R24. -/
def handleSessionStatus (s : State) (n : Nat) : Handled :=
  match s.sessions.find n with
  | none => refuse s .notFound
  | some x => report s x.bytes

/-- SESSION_STATUS (R24). -/
def execSessionStatus (l : Link) (tag : Byte) (p : Payload Nat) (s : State) : Host.Outcome State Fault Refusal :=
  serve l 0x25#8 tag false .liveOnly noGrant handleSessionStatus p s

/-- R24. -/
def handlePortStatus (s : State) (port : Nat) : Handled :=
  if 1 ≤ port ∧ port ≤ 32 then
    match s.sessions.entry port with
    | none => refuse s .notFound
    | some _ => report s (portStatusBytes s port)
  else refuse s .outOfRange

/-- PORT_STATUS (R24). -/
def execPortStatus (l : Link) (tag : Byte) (p : Payload Nat) (s : State) : Host.Outcome State Fault Refusal :=
  serve l 0x26#8 tag true .liveOnly noGrant handlePortStatus p s

/-- R119. -/
def handleReadDiscrepancy (s : State) (_ : Unit) : Handled := report s s.metering.log.bytes

/-- READ_DISCREPANCY (R119). -/
def execReadDiscrepancy (l : Link) (tag : Byte) (p : Payload Unit) (s : State) : Host.Outcome State Fault Refusal :=
  serve l 0x50#8 tag false .always noGrant handleReadDiscrepancy p s

/-- R119: the log as it stands is given, then emptied. -/
def handleClearDiscrepancy (s : State) (_ : Unit) : Handled :=
  report (s.setMetering { s.metering with log := DiscrepancyLog.reset }) s.metering.log.bytes

/-- CLEAR_DISCREPANCY (R119). -/
def execClearDiscrepancy (l : Link) (tag : Byte) (p : Payload Unit) (s : State) : Host.Outcome State Fault Refusal :=
  serve l 0x51#8 tag false .always noGrant handleClearDiscrepancy p s

/-- R47, R179. -/
def handleSiteStatus (s : State) (page : Nat) : Handled :=
  if page ≤ 2 then report s (sitePageBytes s page) else refuse s .outOfRange

/-- SITE_STATUS (R47). -/
def execSiteStatus (l : Link) (tag : Byte) (p : Payload Nat) (s : State) : Host.Outcome State Fault Refusal :=
  serve l 0x60#8 tag false .always noGrant handleSiteStatus p s

/-- R70, R179. -/
def handleAllocStatus (s : State) (page : Nat) : Handled :=
  if page ≤ 3 then report s (allocPageBytes s page) else refuse s .outOfRange

/-- ALLOC_STATUS (R70). -/
def execAllocStatus (l : Link) (tag : Byte) (p : Payload Nat) (s : State) : Host.Outcome State Fault Refusal :=
  serve l 0x61#8 tag false .liveOnly noGrant handleAllocStatus p s

/-- R105. -/
def handleUnitStatus (s : State) (u : Nat) : Handled :=
  if u = 0 then report s (linkSummaryBytes s)
  else if u ≤ 39 then
    if (s.field.unit u).present then report s (unitStatusBytes s u) else refuse s .notFound
  else refuse s .outOfRange

/-- UNIT_STATUS (R105). -/
def execUnitStatus (l : Link) (tag : Byte) (p : Payload Nat) (s : State) : Host.Outcome State Fault Refusal :=
  serve l 0x62#8 tag false .always noGrant handleUnitStatus p s

end Sys2Proof.Machine
end

