-- ==== Sys2Proof/Machine/System.lean ====
section
/-! DEFINITION. GO_LIVE (R167, R168), the two resets (R121, R169), and the events of the link transmitters and the site
clock (R161 to R163, R170). -/

namespace Sys2Proof.Machine

/-! ### GO_LIVE (R167, R168) -/

/-- The present ports that meet a test of their entries. -/
def SessionController.portsWhere (c : SessionController) (p : PortEntry → Bool) : List Nat :=
  portNumbers.filter fun n => ((c.entry n).map p).getD false

/-- R167: the checks in order; the item code and item number of the first that fails. -/
def configFault (s : State) : Option (Nat × Nat) :=
  if s.sessions.presentPorts = [] then some (1, 0)
  else match s.sessions.portsWhere fun e => (nth s.allocator.feeders none e.feeder).isNone with
  | p :: _ => some (2, p)
  | [] => match s.sessions.portsWhere fun e => decide (e.ratedMax < e.minimum) with
    | p :: _ => some (3, p)
    | [] =>
      if s.allocator.urgent ≤ s.allocator.high then some (4, 0)
      else if s.dispatch.policy.softReserve ≤ s.dispatch.policy.hardFloor ∨
          s.dispatch.policy.fullLimit ≤ s.dispatch.policy.softReserve then some (5, 0)
      else if (s.field.unit 33).present = false then some (6, 0)
      else if (s.field.unit 34).present = false then some (7, 0)
      else none

/-- R2, R168: every present port becomes FREE. -/
def SessionController.freePorts (c : SessionController) : SessionController :=
  c.presentPorts.foldl (fun c p => c.setRecord p { c.record p with state := some .free }) c

/-- R93, R94, R168: the cycle built, the first transaction begun. -/
def FieldLinkController.goLive (f : FieldLinkController) : FieldLinkController :=
  { f with urgent := [], decrease := [], cycle := pollCycle f, position := 0, transaction := none }.nextPoll

/-- R168: every block's go-live event. The Battery Dispatch Unit computes when it takes the change of site state (R84). -/
def State.goLive (s : State) : State :=
  let s := s.setLinks { s.links with part := .live }
  let s := s.setSessions s.sessions.freePorts
  let s := s.setField s.field.goLive
  let s := s.changeSite .starting
  s.setAllocator { s.allocator with periodTimer := some (s.after s.allocator.period) }

/-- R167, R175: BAD_CONFIG carries the item code and the item number. DESIGN CHOICE (log 41): one byte each. -/
def handleGoLive (s : State) (_ : Unit) : Handled :=
  match configFault s with
  | some (code, number) => { state := s, status := .badConfig, body := [byte code, byte number] }
  | none => ok s.goLive

/-- GO_LIVE (R168). -/
def execGoLive (l : Link) (tag : Byte) (p : Payload Unit) (s : State) : Host.Outcome State Fault Refusal :=
  serve l 0x0C#8 tag false .setupOnly noGrant handleGoLive p s

/-! ### RESTART (R169) -/

/-- A frame being sent goes on to its end, but the place it came from is no longer its own (R169). -/
def Transmitter.detach : Transmitter → Transmitter
  | .idle => .idle
  | .sending _ frame => .sending .detached frame

/-- R169: a link after a RESTART: HUNTING, slot and holder without a reply, no pending notice. -/
def LinkPort.restart (p : LinkPort) : LinkPort := { LinkPort.reset with transmitter := p.transmitter.detach }

/-- R169: the Link Controller after a RESTART; the site clock's next advance is at the next whole second of run time. -/
def LinkController.restart (c : LinkController) (now : Nat) : LinkController :=
  { LinkController.reset with
    clock := { time := 0, isSet := false, nextTick := (now / 1000 + 1) * 1000 }
    site := c.site.restart
    till := c.till.restart }

/-- R120: after either reset no slot is in use, none is active, and no operation is in flight; the slots are as
given. -/
def TariffStore.unused (t : TariffStore) : TariffStore :=
  { slots := t.slots.map fun x => { x with uses := 0 }, active := none, operation := none, siteCopy := .none }

/-- R126: the operation in flight, if any, stopped where it stands. -/
def State.stopAny (s : State) : State :=
  match s.store.operation with
  | none => s
  | some op => s.stopOperation op

/-- R169: the reset of every block. The run time goes on, the tariff slots keep their contents and states, and nothing
stays on its way between the blocks. -/
def State.restart (s : State) : State :=
  let x := s.stopAny
  { State.reset with
    pending := x.pending, runTime := x.runTime, draws := x.draws, links := x.links.restart x.runTime,
    store := x.store.unused }

/-- R169: NORMAL is refused while a session or a retained receipt is left. -/
def handleRestart (s : State) (mode : Nat) : Handled :=
  if mode = 0 then
    (if s.sessions.table = [] ∧ s.queue.retained = [] then ok s.restart else refuse s .wrongState)
  else if mode = 1 then ok s.restart
  else refuse s .outOfRange

/-- RESTART (R169). -/
def execRestart (l : Link) (tag : Byte) (p : Payload Nat) (s : State) : Host.Outcome State Fault Refusal :=
  serve l 0x0D#8 tag false .always noGrant handleRestart p s

/-! ### POWER_ON_RESET (R120, R121) -/

/-- R121: every slot examined; the examination writes nothing. -/
def TariffStore.examined (t : TariffStore) : TariffStore :=
  { slots := t.slots.mapIdx fun k x => { x with state := examine k x.bytes, uses := 0 }, active := none,
    operation := none, siteCopy := .none }

/-- POWER_ON_RESET (R121): only the non-volatile slots outlive it, the slot of an operation in flight as it was left
when the supply failed; the commands still waiting come from outside the part. -/
def execPowerOnReset (s : State) : Host.Outcome State Fault Refusal :=
  let x := s.stopAny
  done { State.reset with pending := x.pending, draws := x.draws, store := x.store.examined }

/-! ### The receivers' discards (R161) -/

/-- INTER_BYTE_TIMEOUT (R161). -/
def execInterByteTimeout (l : Link) (s : State) : Host.Outcome State Fault Refusal :=
  match (s.links.port l).receiver with
  | .hunting => nothing s
  | .collecting _ expiry => done ((s.reach expiry).frameEnd l)

/-- FRAME_DISCARD (R161): the byte that ends the frame being collected is a bad length or completes a wrong CRC. -/
def execFrameDiscard (l : Link) (s : State) : Host.Outcome State Fault Refusal :=
  match (s.links.port l).receiver with
  | .hunting => nothing s
  | .collecting _ _ => done (s.frameEnd l)

/-! ### Frames that are not executed (R162, R164) -/

/-- R165, R175: the request kinds. -/
def isRequestKind (kind : Byte) : Bool :=
  let k := kind.toNat
  decide ((0x01 ≤ k ∧ k ≤ 0x0D) ∨ (0x20 ≤ k ∧ k ≤ 0x27) ∨ (0x30 ≤ k ∧ k ≤ 0x33) ∨ (0x40 ≤ k ∧ k ≤ 0x46) ∨
    (0x50 ≤ k ∧ k ≤ 0x51) ∨ (0x60 ≤ k ∧ k ≤ 0x62))

/-- BUSY_REFUSAL (R162): a complete frame that finds the slot HELD. -/
def execBusyRefusal (l : Link) (kind tag : Byte) (s : State) : Host.Outcome State Fault Refusal :=
  match (s.links.port l).slot with
  | none => nothing s
  | some _ => done ((s.frameEnd l).refuseBusy l kind tag)

/-- A complete frame whose kind is not a request kind: refused BUSY while the slot is HELD, else answered
UNKNOWN_KIND (R162, R164 step 1). -/
def State.unknownFrame (s : State) (l : Link) (kind tag : Byte) : State :=
  let s := s.frameEnd l
  match (s.links.port l).slot with
  | some _ => s.refuseBusy l kind tag
  | none => s.place l (mkReply kind tag .unknownKind [])

/-- UNKNOWN_KIND (R164). -/
def execUnknownKind (l : Link) (kind tag : Byte) (s : State) : Host.Outcome State Fault Refusal :=
  if isRequestKind kind then nothing s else done (s.unknownFrame l kind tag)

/-! ### TRANSMIT_END (R162, R163) -/

/-- The place a sent frame came from becomes free, and the transmitter IDLE. -/
def LinkPort.sent (p : LinkPort) (source : TransmitSource) : LinkPort :=
  match source with
  | .slot => { p with transmitter := .idle, slot := none }
  | .holder => { p with transmitter := .idle, holder := none }
  | .notice => { p with transmitter := .idle }
  | .detached => { p with transmitter := .idle }

/-- TRANSMIT_END (R163): the IDLE transmitter then chooses what it sends next. -/
def execTransmitEnd (l : Link) (s : State) : Host.Outcome State Fault Refusal :=
  match (s.links.port l).transmitter with
  | .idle => nothing s
  | .sending source _ => done (s.setLinks (s.links.setPort l ((s.links.port l).sent source)))

/-! ### SITE_CLOCK_TICK (R170) -/

/-- R170: one second on, from 2^32−1 to 0. -/
def SiteClock.tick (c : SiteClock) : SiteClock :=
  { c with time := (c.time + 1) % Config.word32, nextTick := c.nextTick + 1000 }

/-- SITE_CLOCK_TICK (R170). -/
def execSiteClockTick (s : State) : Host.Outcome State Fault Refusal :=
  let s := s.reach s.links.clock.nextTick
  done (s.setLinks { s.links with clock := s.links.clock.tick })

end Sys2Proof.Machine
end

