-- ==== Sys2Proof/Machine/Receiver.lean ====
section
/-! DEFINITION. The receiver of a link, byte by byte (R161), and a complete frame taken to the request of its kind
(R164, R175). -/

namespace Sys2Proof.Machine

/-- R175, R176: a complete frame on a link. -/
def completeFrame (l : Link) (kind tag : Byte) (p : List Byte) (s : State) : Host.Outcome State Fault Refusal :=
  match kind.toNat with
  | 0x01 => execSetSite l tag (siteOf p) s
  | 0x02 => execSetFeeder l tag (feederOf p) s
  | 0x03 => execSetPort l tag (portOf p) s
  | 0x04 => execSetUnit l tag (unitOf p) s
  | 0x05 => execSetBatteryPolicy l tag (policyOf p) s
  | 0x06 => execSetTimers l tag (timersOf p) s
  | 0x07 => execSetWatermarks l tag (watermarksOf p) s
  | 0x08 => execSetNoticeRoute l tag (noticeRouteOf p) s
  | 0x09 => execSetTillAccess l tag (tillOf p) s
  | 0x0A => execSetQueueLevels l tag (levelsOf p) s
  | 0x0B => execSetTime l tag (numberOf 4 p) s
  | 0x0C => execGoLive l tag (emptyOf p) s
  | 0x0D => execRestart l tag (numberOf 1 p) s
  | 0x20 => execAuthorize l tag (authorizeOf p) s
  | 0x21 => execHoldPort l tag (numberOf 1 p) s
  | 0x22 => execReleasePort l tag (numberOf 1 p) s
  | 0x23 => execStopSession l tag (numberOf 2 p) s
  | 0x24 => execSetDeparture l tag (setDepartureOf p) s
  | 0x25 => execSessionStatus l tag (numberOf 2 p) s
  | 0x26 => execPortStatus l tag (numberOf 1 p) s
  | 0x27 => execLinkPurchase l tag (purchaseOf p) s
  | 0x30 => execProgramTariff l tag (programOf p) s
  | 0x31 => execEraseTariff l tag (numberOf 1 p) s
  | 0x32 => execActivateTariff l tag (numberOf 1 p) s
  | 0x33 => execReadTariff l tag (numberOf 1 p) s
  | 0x40 => execReadReceipt l tag (emptyOf p) s
  | 0x41 => execSetMark l tag (emptyOf p) s
  | 0x42 => execRewind l tag (emptyOf p) s
  | 0x43 => execReleaseMark l tag (emptyOf p) s
  | 0x44 => execFlushQueue l tag (emptyOf p) s
  | 0x45 => execReceiptCopy l tag (copyOf p) s
  | 0x46 => execQueueStatus l tag (emptyOf p) s
  | 0x50 => execReadDiscrepancy l tag (emptyOf p) s
  | 0x51 => execClearDiscrepancy l tag (emptyOf p) s
  | 0x60 => execSiteStatus l tag (numberOf 1 p) s
  | 0x61 => execAllocStatus l tag (numberOf 1 p) s
  | 0x62 => execUnitStatus l tag (numberOf 1 p) s
  | _ => done (s.unknownFrame l kind tag)

/-- What a byte makes of the bytes gathered (R161). -/
inductive Gathering where
  | goesOn
  | discard
  | complete (kind tag : Byte) (payload : List Byte)
  deriving DecidableEq, Repr

/-- R161: the length, then as many bytes as it gives, then the two bytes of the CRC, which is over the length to the
payload, low byte first (R175). -/
def gathering : List Byte → Gathering
  | [] => .goesOn
  | n :: rest =>
    if n.toNat < 2 ∨ 242 < n.toNat then .discard
    else if rest.length < n.toNat + 2 then .goesOn
    else if rest.drop n.toNat = checkBytes (crc16 (n :: rest.take n.toNat)) then
      match rest.take n.toNat with
      | kind :: tag :: payload => .complete kind tag payload
      | _ => .discard
    else .discard

/-- The receiver of a link put into a state. -/
def State.setReceiver (s : State) (l : Link) (r : Receiver) : State :=
  s.setLinks (s.links.setPort l { s.links.port l with receiver := r })

/-- COLLECTING with the bytes gathered, the inter-byte timer restarted (R161). -/
def State.collect (s : State) (l : Link) (gathered : List Byte) : State :=
  s.setReceiver l (.collecting gathered (s.runTime + Config.interByteGap))

/-- RECEIVED_BYTE (R161). -/
def execReceivedByte (l : Link) (b : Byte) (s : State) : Host.Outcome State Fault Refusal :=
  match (s.links.port l).receiver with
  | .hunting => if b = 0xA5#8 then done (s.collect l []) else nothing s
  | .collecting gathered _ =>
    match gathering (gathered ++ [b]) with
    | .goesOn => done (s.collect l (gathered ++ [b]))
    | .discard => done (s.frameEnd l)
    | .complete kind tag payload => completeFrame l kind tag payload s

end Sys2Proof.Machine
end

