-- ==== Sys2Proof/Machine/Dispatch.lean ====
section
/-! DEFINITION. Each command taken to its meaning. -/

namespace Sys2Proof.Machine

/-- The effect of a command on everything but the queue of commands. -/
def exec (i : Instr) (s : State) : Host.Outcome State Fault Refusal :=
  match i with
  | .powerOnReset => Sys2Proof.Machine.execPowerOnReset s
  | .interByteTimeout l => Sys2Proof.Machine.execInterByteTimeout l s
  | .frameDiscard l => Sys2Proof.Machine.execFrameDiscard l s
  | .busyRefusal l kind tag => Sys2Proof.Machine.execBusyRefusal l kind tag s
  | .unknownKind l kind tag => Sys2Proof.Machine.execUnknownKind l kind tag s
  | .transmitEnd l => Sys2Proof.Machine.execTransmitEnd l s
  | .siteClockTick => Sys2Proof.Machine.execSiteClockTick s
  | .setSite l tag p => Sys2Proof.Machine.execSetSite l tag p s
  | .setFeeder l tag p => Sys2Proof.Machine.execSetFeeder l tag p s
  | .setPort l tag p => Sys2Proof.Machine.execSetPort l tag p s
  | .setUnit l tag p => Sys2Proof.Machine.execSetUnit l tag p s
  | .setBatteryPolicy l tag p => Sys2Proof.Machine.execSetBatteryPolicy l tag p s
  | .setTimers l tag p => Sys2Proof.Machine.execSetTimers l tag p s
  | .setWatermarks l tag p => Sys2Proof.Machine.execSetWatermarks l tag p s
  | .setNoticeRoute l tag p => Sys2Proof.Machine.execSetNoticeRoute l tag p s
  | .setTillAccess l tag p => Sys2Proof.Machine.execSetTillAccess l tag p s
  | .setQueueLevels l tag p => Sys2Proof.Machine.execSetQueueLevels l tag p s
  | .setTime l tag p => Sys2Proof.Machine.execSetTime l tag p s
  | .goLive l tag p => Sys2Proof.Machine.execGoLive l tag p s
  | .restart l tag p => Sys2Proof.Machine.execRestart l tag p s
  | .authorize l tag p => Sys2Proof.Machine.execAuthorize l tag p s
  | .holdPort l tag p => Sys2Proof.Machine.execHoldPort l tag p s
  | .releasePort l tag p => Sys2Proof.Machine.execReleasePort l tag p s
  | .stopSession l tag p => Sys2Proof.Machine.execStopSession l tag p s
  | .setDeparture l tag p => Sys2Proof.Machine.execSetDeparture l tag p s
  | .sessionStatus l tag p => Sys2Proof.Machine.execSessionStatus l tag p s
  | .portStatus l tag p => Sys2Proof.Machine.execPortStatus l tag p s
  | .linkPurchase l tag p => Sys2Proof.Machine.execLinkPurchase l tag p s
  | .programTariff l tag p => Sys2Proof.Machine.execProgramTariff l tag p s
  | .eraseTariff l tag p => Sys2Proof.Machine.execEraseTariff l tag p s
  | .activateTariff l tag p => Sys2Proof.Machine.execActivateTariff l tag p s
  | .readTariff l tag p => Sys2Proof.Machine.execReadTariff l tag p s
  | .readReceipt l tag p => Sys2Proof.Machine.execReadReceipt l tag p s
  | .setMark l tag p => Sys2Proof.Machine.execSetMark l tag p s
  | .rewind l tag p => Sys2Proof.Machine.execRewind l tag p s
  | .releaseMark l tag p => Sys2Proof.Machine.execReleaseMark l tag p s
  | .flushQueue l tag p => Sys2Proof.Machine.execFlushQueue l tag p s
  | .receiptCopy l tag p => Sys2Proof.Machine.execReceiptCopy l tag p s
  | .queueStatus l tag p => Sys2Proof.Machine.execQueueStatus l tag p s
  | .readDiscrepancy l tag p => Sys2Proof.Machine.execReadDiscrepancy l tag p s
  | .clearDiscrepancy l tag p => Sys2Proof.Machine.execClearDiscrepancy l tag p s
  | .siteStatus l tag p => Sys2Proof.Machine.execSiteStatus l tag p s
  | .allocStatus l tag p => Sys2Proof.Machine.execAllocStatus l tag p s
  | .unitStatus l tag p => Sys2Proof.Machine.execUnitStatus l tag p s
  | .pollEnd => Sys2Proof.Machine.execPollEnd s
  | .fieldReply f => Sys2Proof.Machine.execFieldReply f s
  | .replyTimeout => Sys2Proof.Machine.execReplyTimeout s
  | .chargerReport port => Sys2Proof.Machine.execChargerReport port s
  | .chargerTarget port => Sys2Proof.Machine.execChargerTarget port s
  | .readingApplied port => Sys2Proof.Machine.execReadingApplied port s
  | .authorizationTimeout session => Sys2Proof.Machine.execAuthorizationTimeout session s
  | .dormantTimeout session => Sys2Proof.Machine.execDormantTimeout session s
  | .idleSecondTick session => Sys2Proof.Machine.execIdleSecondTick session s
  | .closingTimeout session => Sys2Proof.Machine.execClosingTimeout session s
  | .allocationResultSessions => Sys2Proof.Machine.execAllocationResultSessions s
  | .reclassification => Sys2Proof.Machine.execReclassification s
  | .siteStateChangeSessions => Sys2Proof.Machine.execSiteStateChangeSessions s
  | .chargerHealthChange port => Sys2Proof.Machine.execChargerHealthChange port s
  | .activationEvent => Sys2Proof.Machine.execActivationEvent s
  | .reportArrival unit => Sys2Proof.Machine.execReportArrival unit s
  | .staleTimerExpiry unit => Sys2Proof.Machine.execStaleTimerExpiry unit s
  | .unitHealthChange unit => Sys2Proof.Machine.execUnitHealthChange unit s
  | .fallbackHoldExpiry port => Sys2Proof.Machine.execFallbackHoldExpiry port s
  | .restoreTimerExpiry => Sys2Proof.Machine.execRestoreTimerExpiry s
  | .dischargeAllowanceChange => Sys2Proof.Machine.execDischargeAllowanceChange s
  | .earlyRequest => Sys2Proof.Machine.execEarlyRequest s
  | .roundPeriodExpiry => Sys2Proof.Machine.execRoundPeriodExpiry s
  | .spacingTimerExpiry => Sys2Proof.Machine.execSpacingTimerExpiry s
  | .resultApplied => Sys2Proof.Machine.execResultApplied s
  | .allocationResultField => Sys2Proof.Machine.execAllocationResultField s
  | .allocationResultDispatch => Sys2Proof.Machine.execAllocationResultDispatch s
  | .batteryReport => Sys2Proof.Machine.execBatteryReport s
  | .batteryFreshnessChange => Sys2Proof.Machine.execBatteryFreshnessChange s
  | .siteStateChangeDispatch => Sys2Proof.Machine.execSiteStateChangeDispatch s
  | .dispatchHandover => Sys2Proof.Machine.execDispatchHandover s
  | .readingApplication port => Sys2Proof.Machine.execReadingApplication port s
  | .erasingEnd => Sys2Proof.Machine.execErasingEnd s
  | .writingEnd => Sys2Proof.Machine.execWritingEnd s
  | .operationCompletion verified => Sys2Proof.Machine.execOperationCompletion verified s
  | .siteStateChangeStore => Sys2Proof.Machine.execSiteStateChangeStore s
  | .handOver => Sys2Proof.Machine.execHandOver s
  | .storeFree => Sys2Proof.Machine.execStoreFree s
  | .roomEvent => Sys2Proof.Machine.execRoomEvent s
  | .receivedByte l b => Sys2Proof.Machine.execReceivedByte l b s

end Sys2Proof.Machine
end

