-- ==== Sys2Proof/Safety.lean ====
section
/-! DEFINITION. What a safe run of the DW32 is: the invariants of the manual, block by block, in the terms the statements
use, and the vocabulary of those statements for the links. -/

namespace Sys2Proof.Machine

/-! ### The links -/

/-- The Link Controller after a request has been executed: the receiver HUNTING, the reply in the slot, the transmitters
having chosen (R161 to R163). -/
def LinkController.withReply (c : LinkController) (l : Link) (r : Reply) : LinkController :=
  (c.setPort l { c.port l with receiver := .hunting, slot := some r }).settle

/-- A request answered, every block but the Link Controller as it is in `s`. -/
def State.replied (s : State) (l : Link) (kind tag : Byte) (status : Status) (body : List Byte) : State :=
  s.setLinks (s.links.withReply l (mkReply kind tag status body))

/-- A request refused BUSY, its frame taken off the line: the refusal holder keeps the reply it has, or takes the BUSY
reply (R162). -/
def State.refusedBusy (s : State) (l : Link) (kind tag : Byte) : State :=
  s.setLinks (s.links.setPort l { s.links.port l with
    receiver := .hunting
    holder := some ((s.links.port l).holder.getD (mkReply kind tag .busy [])) }).settle

/-- The slot of a link is FREE (R162). -/
abbrev State.slotFree (s : State) (l : Link) : Prop := (s.links.port l).slot = none

/-- R163: no transmitter is IDLE with something to send. -/
abbrev LinkController.Settled (c : LinkController) : Prop := c.settle = c

/-- R165: the kinds allowed in SETUP only: SET_FEEDER, SET_PORT, SET_UNIT, GO_LIVE. -/
def setupOnlyKinds : List Byte := [0x02, 0x03, 0x04, 0x0C]

/-- R165: the kinds allowed in LIVE only: the sessions, receipts and allocation groups. -/
def liveOnlyKinds : List Byte :=
  [0x20, 0x21, 0x22, 0x23, 0x24, 0x25, 0x26, 0x27, 0x40, 0x41, 0x42, 0x43, 0x44, 0x45, 0x46, 0x61]

/-- R166: the kinds the till link may send: AUTHORIZE, PORT_STATUS, LINK_PURCHASE, RECEIPT_COPY. -/
def tillKinds : List Byte := [0x20, 0x26, 0x27, 0x45]

/-- The bytes given arrive on a link one after the other. -/
def feed (l : Link) (bytes : List Byte) (s : State) : Host.Outcome State Fault Refusal :=
  bytes.foldl (fun o b => match o with
    | .next s => exec (.receivedByte l b) s
    | o => o) (.next s)

/-- R162: a reply being sent from the slot or the refusal holder still stands there, and it is the reply held. -/
def LinkPort.holdsWhatItSends (p : LinkPort) : Bool :=
  match p.transmitter with
  | .sending .slot f => p.slot.map LinkFrame.reply == some f
  | .sending .holder f => p.holder.map LinkFrame.reply == some f
  | .sending .notice _ | .sending .detached _ | .idle => true

abbrev LinkController.Wf (c : LinkController) : Prop :=
  c.site.holdsWhatItSends = true ∧ c.till.holdsWhatItSends = true

/-- R159, R160: the notices of a receipt that the queue has taken; `q` is the queue after it. -/
def LinkController.receiptTaken (c : LinkController) (q : ReceiptQueue) (number : Nat) : LinkController :=
  let c := if q.retained.length - q.read = q.notify then c.raise .receiptsPending number else c
  let c := if q.retained.length = q.high then c.raise .queueHigh number else c
  if q.retained.length = 64 then c.raise .queueFull number else c

/-! ### A charger report (R5) -/

/-- R5: the acceptance and the fault indication of a report recorded for its port, and CHARGER_FAULT when it becomes yes;
`rest` are the reports still to be taken. -/
def State.reportTaken (s : State) (r : ChargerReport) (rest : List ChargerReport) : State :=
  { s with
    links := if r.fault = true ∧ (s.sessions.record r.port).fault = false then s.links.raise .chargerFault r.port
             else s.links
    sessions := s.sessions.setRecord r.port
      { s.sessions.record r.port with fault := r.fault, acceptance := some r.acceptance }
    events := { s.events with chargerReports := rest } }

/-- R3: a port's record with another state. -/
def SessionController.withPortState (c : SessionController) (p : Nat) (st : PortState) : SessionController :=
  c.setRecord p { c.record p with state := some st }

/-! ### A computation of the Battery Dispatch Unit (R78 to R86) -/

/-- R78: what a computation records in a state, the unit's policy, copy, freshness, allowance, urgent release, last total
and basis being those of `d`. -/
def State.dispatchComputed (s : State) (d : BatteryDispatchUnit) (trigger : DispatchTrigger) : DispatchRecord :=
  let r := s.balance.record
  let net : Int := r.storeEff + 100 * d.lastTotal.getD 0 - r.pvEff
  let limit : Int := ((s.balance.settings.importLimit : Int) - s.balance.settings.margin) * 1000
  let o := outcomeOf r.siteState (usable s.batteryPresent d) d net limit s.balance.settings.exportLimit r.pvEff
  { basis := d.basis, trigger := trigger, case := o.case, net := net, limit := limit, surplus := o.surplus,
    charge := o.charge, remaining := o.remaining, curtail := o.curtail, target := o.target
    limits := limitsOf s.field s.balance r.pvEff o.curtail }

/-- R78: the unit after a computation: its record, its battery target and the limit of every inverter named. -/
def BatteryDispatchUnit.commanded (d : BatteryDispatchUnit) (rec : DispatchRecord) : BatteryDispatchUnit :=
  { d with record := some rec, target := rec.target, limits := storeLimits d.limits rec.limits }

/-- R86: the hand-over of a computation. -/
def State.handoverOf (s : State) (rec : DispatchRecord) (follows : Option Nat) : Handover :=
  { battery := if s.batteryPresent then some rec.target else none, limits := rec.limits, follows := follows }

/-! ### The Receipt Queue (R149, R159) -/

/-- R149: at most 64 receipts; the read position between the head and the tail, and at the head without a mark. -/
abbrev ReceiptQueue.Wf (q : ReceiptQueue) : Prop :=
  q.retained.length ≤ 64 ∧ q.read ≤ q.retained.length ∧ (q.mark = false → q.read = 0) ∧
    1 ≤ q.notify ∧ q.notify ≤ 64 ∧ 1 ≤ q.high ∧ q.high ≤ 64

/-! ### The Tariff Store (R120, R123, R125, R129) -/

/-- R123, R129: the active slot is VALID; the target of the operation in flight is the one BUSY slot and is not in use;
in ISLAND no operation is in flight. -/
abbrev TariffStore.Wf (t : TariffStore) : Prop :=
  (∀ k ∈ t.active.toList, k < 8 ∧ (t.slot k).state = .valid) ∧
  (∀ op ∈ t.operation.toList, op.slot < 8 ∧ (t.slot op.slot).state = .busy ∧ (t.slot op.slot).uses = 0) ∧
  (∀ k ∈ List.range 8, (t.slot k).state = .busy → t.operation.map StoreOperation.slot = some k) ∧
  (t.siteCopy = .island → t.operation = none)

/-! ### The Site Balance Unit (R35, R42, R44, R46) -/

/-- R42, R44: the mix sums to 1,024; the budget is 0 to 8,000 credits, and 0 outside NORMAL. -/
abbrev BalanceRecord.Wf (r : BalanceRecord) : Prop :=
  r.mix.solar + r.mix.battery + r.mix.grid = 1024 ∧ r.budget ≤ 8000 ∧ (r.siteState ≠ .normal → r.budget = 0) ∧
    (r.flags.storeOverload = true → r.siteState = .normal ∧ r.budgetW < 0)

/-- R35, R46: the record carries the site state in force, and the restore timer runs in RESTORING and only there. -/
abbrev SiteBalanceUnit.Wf (b : SiteBalanceUnit) : Prop :=
  b.record.Wf ∧ b.record.siteState = b.siteState ∧ (b.restoreTimer.isSome = true ↔ b.siteState = .restoring)

/-! ### SETUP (R27, R37, R50, R72, R94) -/

/-- In SETUP the field link is silent, nothing measured is fresh, no round is due, there is no session and no port has a
state, the Battery Dispatch Unit is idle, and no report, result or change of site state is on its way between the
blocks. -/
abbrev State.SetupWf (s : State) : Prop :=
  s.links.part = .setup →
    (s.field.transaction = none ∧ s.field.urgent = [] ∧ s.field.decrease = []) ∧
    (s.balance.siteState = .none ∧ s.balance.restoreTimer = none ∧ s.balance.battery.fresh = false) ∧
    (s.dispatch.fresh = false ∧ s.dispatch.allowance = 0 ∧ s.dispatch.target = .idle) ∧
    (s.allocator.periodTimer = none ∧ s.allocator.spacing = none ∧ s.allocator.pending = false) ∧
    (s.sessions.table = [] ∧ s.sessions.waiting = [] ∧ ∀ p ∈ portNumbers, (s.sessions.record p).state = none) ∧
    (s.events.reports = [] ∧ s.events.unitHealth = [] ∧ s.events.batteryReports = [] ∧ s.events.freshness = [] ∧
      s.events.resultsToField = [] ∧ s.events.resultsToDispatch = [] ∧ s.events.siteToDispatch = [] ∧
      s.events.handovers = [] ∧ s.events.chargerTargets = [])

/-! ### The Battery Dispatch Unit (R75, R76, R85) -/

/-- R76, R85: in LIVE the allowance published is the one the copy, the policy and urgent release give, and the battery
target in force meets its standing conditions. -/
abbrev State.DispatchWf (s : State) : Prop :=
  s.links.part = .live →
    s.dispatch.allowance = allowanceOf s.batteryPresent s.dispatch ∧ stands s.batteryPresent s.dispatch = true

/-! ### The Field Link Controller (R97, R100 to R102) -/

/-- R97: the health of a unit and its miss count. -/
def FieldUnit.missesFit (u : FieldUnit) : Bool :=
  match u.health with
  | .unpolled | .ok => u.misses == 0
  | .missed => decide (1 ≤ u.misses ∧ u.misses ≤ 2)
  | .lost => decide (3 ≤ u.misses ∧ u.misses ≤ 255)

/-- R100: the order of the urgent queue; R101: the decrease set holds no unit twice, none that is LOST, and none whose
target is not a decrease against its delivered command. -/
abbrev FieldLinkController.Wf (f : FieldLinkController) : Prop :=
  (∀ u ∈ f.units.toList, u.missesFit = true) ∧
  f.urgent.Pairwise (fun a b => a.before b = true ∧ a.unit ≠ b.unit) ∧
  f.decrease.Pairwise (· < ·) ∧
  (∀ u ∈ f.decrease, (f.unit u).health ≠ .lost ∧ (f.unit u).figure.isSome = true)

/-! ### The Metering Unit (R118) -/

/-- R118: the lock state says what the record holds, and the counters stop at 255. -/
def DiscrepancyLog.lockFits (g : DiscrepancyLog) : Bool :=
  match g.lock with
  | .empty => g.record == none
  | .holdingMinor => g.record.map Discrepancy.kind == some .minor
  | .holdingMajor => g.record.map Discrepancy.kind == some .major

abbrev DiscrepancyLog.Wf (g : DiscrepancyLog) : Prop := g.minor ≤ 255 ∧ g.major ≤ 255 ∧ g.lockFits = true

/-! ### Energy (R114, R115) -/

/-- R114, R115: E_total stays at or below its cap, and the energy shown as solar and battery is part of it. -/
abbrev Session.EnergyWf (x : Session) : Prop :=
  x.total ≤ Config.energyCap ∧ x.solarAcc + x.batteryAcc ≤ 1024 * x.total

/-- R44, R114: with the mix that every attribution reads. -/
abbrev State.EnergyWf (s : State) : Prop :=
  s.balance.record.mix.solar + s.balance.record.mix.battery + s.balance.record.mix.grid = 1024 ∧
    ∀ x ∈ s.sessions.table, x.EnergyWf

/-! ### Deferral counts (R61) -/

/-- R61: a deferral count is 0 to 15. -/
def AllocatorMessage.countsFit : AllocatorMessage → Bool
  | .result r => r.entries.all fun e => decide (e.count ≤ 15)
  | .reclassify _ _ => true

/-- R61, in the table and in every result on its way to it; R147: the write position lies in the ring. -/
abbrev State.CountsWf (s : State) : Prop :=
  (∀ x ∈ s.sessions.table, x.deferral ≤ 15) ∧ (∀ m ∈ s.events.allocatorMessages, m.countsFit = true) ∧
    s.builder.ringPosition < 16

/-! ### Results and hand-overs between the blocks (R64, R65, R86) -/

/-- R64: a result names no session twice. -/
def AllocatorMessage.namesOnce : AllocatorMessage → Bool
  | .result r => decide (r.entries.map CandidateEntry.session).Nodup
  | .reclassify _ _ => true

/-- R64, R65, R86: what is on its way names no session, no port and no inverter twice, and only ports and inverters there
can be. -/
abbrev State.EventsWf (s : State) : Prop :=
  (∀ m ∈ s.events.allocatorMessages, m.namesOnce = true) ∧
  (∀ r ∈ s.events.resultsToField,
    (r.targets.map PortTarget.port).Nodup ∧ ∀ g ∈ r.targets, 1 ≤ g.port ∧ g.port ≤ 32) ∧
  ∀ h ∈ s.events.handovers, (h.limits.map Prod.fst).Nodup ∧ ∀ x ∈ h.limits, 1 ≤ x.1 ∧ x.1 ≤ 4

/-! ### Settings in force while the part is LIVE (R50, R73, R89, R167) -/

/-- R50, R73: the order of the watermarks and of the battery's thresholds; R89, R167: both meters are present. -/
abbrev State.LiveWf (s : State) : Prop :=
  s.links.part = .live →
    s.allocator.high < s.allocator.urgent ∧ s.dispatch.policy.hardFloor < s.dispatch.policy.softReserve ∧
      s.dispatch.policy.softReserve < s.dispatch.policy.fullLimit ∧ (s.field.unit 33).present = true ∧
      (s.field.unit 34).present = true

/-! ### The session table and the use counts (R6, R21, R22, R130) -/

/-- R130: the sessions bound to a slot and not yet priced. -/
def SessionController.boundTo (c : SessionController) (k : Nat) : Nat :=
  (c.table.filter fun x => x.slot == some k && x.state != .waitQueue).length

/-- R9: a session in PLUGGED is bound to no slot, every other to one of the eight. -/
def Session.slotFits (x : Session) : Bool :=
  match x.slot with
  | none => x.state == .plugged
  | some k => decide (k < 8) && x.state != .plugged

/-- R9, R22: at most four purchase links besides, no two with one reference. -/
abbrev Session.BoundWf (x : Session) : Prop :=
  x.slotFits = true ∧ x.links.length ≤ 4 ∧ (x.links.map PurchaseLink.reference).Nodup

/-- R6, R21, R130, R135, R145: at most 48 sessions, no number twice; the pricing list names sessions in PRICING, none
twice; every receipt that waits belongs to one session in WAIT_QUEUE; a slot's use count is the number of sessions bound to it and not yet priced. -/
abbrev State.TableWf (s : State) : Prop :=
  s.sessions.table.length ≤ 48 ∧ (s.sessions.table.map Session.number).Nodup ∧
  (∀ x ∈ s.sessions.table, 1 ≤ x.number ∧ x.number ≤ 65535 ∧ x.BoundWf) ∧
  1 ≤ s.sessions.counter ∧ s.sessions.counter ≤ 65535 ∧
  s.builder.pricing.Nodup ∧
  (∀ n ∈ s.builder.pricing, (s.sessions.find n).map Session.state = some .pricing) ∧
  (s.builder.waiting.map Receipt.session).Nodup ∧
  (∀ r ∈ s.builder.waiting, (s.sessions.find r.session).map Session.state = some .waitQueue) ∧
  (∀ k ∈ s.store.active.toList, k < 8) ∧
  ∀ k ∈ List.range 8, (s.store.slot k).uses = s.sessions.boundTo k

/-! ### Ports and the sessions that hold them (R2 to R4, R21) -/

/-- R20, R21: a session past its final reading is on its way to pricing, and no closing timer of it runs. -/
abbrev Session.HandedWf (x : Session) : Prop :=
  x.handedOver = true → x.closingTimer = none ∧ (x.state = .closing ∨ x.state = .pricing ∨ x.state = .waitQueue)

/-- R2, R3, R4: a port is IN_SESSION exactly when a session holds it, and no port is held by two; the port wait list
holds the WAITING ports, none twice; in SETUP no port has a state and there is no session. -/
abbrev State.PortsWf (s : State) : Prop :=
  (∀ x ∈ s.sessions.table, x.HandedWf) ∧
  ((s.sessions.table.filter Session.holdsPort).map Session.port).Nodup ∧
  (∀ x ∈ s.sessions.table, x.holdsPort = true → (s.sessions.record x.port).state = some .inSession) ∧
  (∀ p ∈ portNumbers, (s.sessions.record p).state = some .inSession → (s.sessions.holder p).isSome = true) ∧
  s.sessions.waiting.Nodup ∧
  (∀ p ∈ s.sessions.waiting, (s.sessions.record p).state = some .waiting) ∧
  (∀ p ∈ portNumbers, (s.sessions.record p).state = some .waiting → p ∈ s.sessions.waiting) ∧
  (s.links.part = .setup →
    s.sessions.table = [] ∧ s.sessions.waiting = [] ∧ ∀ p ∈ portNumbers, (s.sessions.record p).state = none)

end Sys2Proof.Machine
end

