-- ==== Sys2Proof/WellFormed.lean ====
section
/-! DEFINITION. Which commands can be written down on the part's links: every field within the width R176 gives
it, every selector within its range. A value that a field can hold and a rule refuses is well formed: the
refusal is the command's meaning. -/

namespace Sys2Proof

/-- `n` fits `k` bytes. -/
abbrev fitsBytes (k n : Nat) : Bool := decide (n < 256 ^ k)

/-- A text field of a payload with `n` fixed bytes: its length byte and its bytes fit what is left of the 240 bytes a
frame carries (R161, R174). -/
def Text.wf (n : Nat) : Text → Bool
  | none => true
  | some bytes => decide (n + 1 + bytes.length ≤ 240)

def SiteFields.wf (f : SiteFields) : Bool :=
  fitsBytes 2 f.importLimit && fitsBytes 2 f.margin && fitsBytes 2 f.exportLimit && fitsBytes 2 f.storePeak
    && fitsBytes 2 f.fallback && fitsBytes 4 f.nextReceipt

def FeederFields.wf (f : FeederFields) : Bool := fitsBytes 1 f.feeder && fitsBytes 2 f.cap

def PortFields.wf (f : PortFields) : Bool :=
  fitsBytes 1 f.port && fitsBytes 1 f.present && fitsBytes 1 f.feeder && fitsBytes 1 f.cls && fitsBytes 2 f.ratedMax
    && fitsBytes 1 f.minimum && fitsBytes 1 f.address && fitsBytes 1 f.freeVend

def UnitFields.wf (f : UnitFields) : Bool :=
  fitsBytes 1 f.kind && fitsBytes 1 f.inverter && fitsBytes 1 f.address && fitsBytes 4 f.rated && fitsBytes 1 f.present

def PolicyFields.wf (f : PolicyFields) : Bool :=
  fitsBytes 2 f.hardFloor && fitsBytes 2 f.softReserve && fitsBytes 2 f.fullLimit && fitsBytes 4 f.dischargeCap
    && fitsBytes 4 f.chargeCap && fitsBytes 4 f.topUp

def TimerFields.wf (f : TimerFields) : Bool :=
  fitsBytes 2 f.authorization && fitsBytes 2 f.dormant && fitsBytes 2 f.closing && fitsBytes 2 f.stale
    && fitsBytes 2 f.restore && fitsBytes 2 f.fallbackHold && fitsBytes 2 f.period && fitsBytes 2 f.reply

def WatermarkFields.wf (f : WatermarkFields) : Bool := fitsBytes 1 f.high && fitsBytes 1 f.urgent

def RouteFields.wf (f : RouteFields) : Bool := fitsBytes 1 f.kind && fitsBytes 1 f.route && fitsBytes 1 f.priority

def TillFields.wf (f : TillFields) : Bool := fitsBytes 1 f.grant && fitsBytes 1 f.first && fitsBytes 1 f.last

def LevelFields.wf (f : LevelFields) : Bool := fitsBytes 1 f.notify && fitsBytes 1 f.high

def AuthorizeFields.wf (f : AuthorizeFields) : Bool :=
  fitsBytes 1 f.port && fitsBytes 4 f.departure && f.customer.wf 5

def DepartureFields.wf (f : DepartureFields) : Bool := fitsBytes 2 f.session && fitsBytes 4 f.departure

def PurchaseFields.wf (f : PurchaseFields) : Bool :=
  fitsBytes 2 f.session && fitsBytes 3 f.amount && f.reference.wf 5

def TariffFields.wf (f : TariffFields) : Bool :=
  fitsBytes 2 f.id && fitsBytes 2 f.solarRate && fitsBytes 2 f.batteryRate && fitsBytes 2 f.gridRate
    && fitsBytes 1 f.idleGrace && fitsBytes 2 f.idleRate && fitsBytes 3 f.idleCap && fitsBytes 3 f.step
    && fitsBytes 2 f.perStep && fitsBytes 3 f.allowanceCap && f.label.wf 23

def ProgramFields.wf (f : ProgramFields) : Bool := fitsBytes 1 f.slot && f.record.wf

def CopyFields.wf (f : CopyFields) : Bool := fitsBytes 1 f.selector && fitsBytes 2 f.value

/-- A payload that does not fit its layout has no fields to bound. -/
def Payload.wf {α : Type} (check : α → Bool) : Payload α → Bool
  | .fits f => check f
  | .misfit => true

/-- The length byte of 11.6 counts the kind and the payload. -/
def FieldFrame.wf (f : FieldFrame) : Bool := decide (f.payload.length ≤ 254)

/-- Every operand within its width or range. -/
def Instr.wf : Instr → Bool
  | .setSite _ _ p => p.wf SiteFields.wf
  | .setFeeder _ _ p => p.wf FeederFields.wf
  | .setPort _ _ p => p.wf PortFields.wf
  | .setUnit _ _ p => p.wf UnitFields.wf
  | .setBatteryPolicy _ _ p => p.wf PolicyFields.wf
  | .setTimers _ _ p => p.wf TimerFields.wf
  | .setWatermarks _ _ p => p.wf WatermarkFields.wf
  | .setNoticeRoute _ _ p => p.wf RouteFields.wf
  | .setTillAccess _ _ p => p.wf TillFields.wf
  | .setQueueLevels _ _ p => p.wf LevelFields.wf
  | .setTime _ _ p => p.wf (fitsBytes 4)
  | .goLive _ _ _ => true
  | .restart _ _ p => p.wf (fitsBytes 1)
  | .authorize _ _ p => p.wf AuthorizeFields.wf
  | .holdPort _ _ p => p.wf (fitsBytes 1)
  | .releasePort _ _ p => p.wf (fitsBytes 1)
  | .stopSession _ _ p => p.wf (fitsBytes 2)
  | .setDeparture _ _ p => p.wf DepartureFields.wf
  | .sessionStatus _ _ p => p.wf (fitsBytes 2)
  | .portStatus _ _ p => p.wf (fitsBytes 1)
  | .linkPurchase _ _ p => p.wf PurchaseFields.wf
  | .programTariff _ _ p => p.wf ProgramFields.wf
  | .eraseTariff _ _ p => p.wf (fitsBytes 1)
  | .activateTariff _ _ p => p.wf (fitsBytes 1)
  | .readTariff _ _ p => p.wf (fitsBytes 1)
  | .readReceipt _ _ _ => true
  | .setMark _ _ _ => true
  | .rewind _ _ _ => true
  | .releaseMark _ _ _ => true
  | .flushQueue _ _ _ => true
  | .receiptCopy _ _ p => p.wf CopyFields.wf
  | .queueStatus _ _ _ => true
  | .readDiscrepancy _ _ _ => true
  | .clearDiscrepancy _ _ _ => true
  | .siteStatus _ _ p => p.wf (fitsBytes 1)
  | .allocStatus _ _ p => p.wf (fitsBytes 1)
  | .unitStatus _ _ p => p.wf (fitsBytes 1)
  | .fieldReply f => f.wf
  | .chargerReport port => decide (1 ≤ port ∧ port ≤ 32)
  | .chargerTarget port => decide (1 ≤ port ∧ port ≤ 32)
  | .readingApplied port => decide (1 ≤ port ∧ port ≤ 32)
  | .authorizationTimeout session => decide (1 ≤ session ∧ session ≤ 65535)
  | .dormantTimeout session => decide (1 ≤ session ∧ session ≤ 65535)
  | .idleSecondTick session => decide (1 ≤ session ∧ session ≤ 65535)
  | .closingTimeout session => decide (1 ≤ session ∧ session ≤ 65535)
  | .chargerHealthChange port => decide (1 ≤ port ∧ port ≤ 32)
  | .reportArrival unit => decide (1 ≤ unit ∧ unit ≤ 39)
  | .staleTimerExpiry unit => decide (33 ≤ unit ∧ unit ≤ 39)
  | .unitHealthChange unit => decide (1 ≤ unit ∧ unit ≤ 39)
  | .fallbackHoldExpiry port => decide (1 ≤ port ∧ port ≤ 32)
  | .readingApplication port => decide (1 ≤ port ∧ port ≤ 32)
  | .powerOnReset | .interByteTimeout _ | .frameDiscard _ | .busyRefusal _ _ _ | .unknownKind _ _ _
  | .transmitEnd _ | .siteClockTick | .pollEnd | .replyTimeout | .allocationResultSessions | .reclassification
  | .siteStateChangeSessions | .activationEvent | .restoreTimerExpiry | .dischargeAllowanceChange | .earlyRequest
  | .roundPeriodExpiry | .spacingTimerExpiry | .resultApplied | .allocationResultField | .allocationResultDispatch
  | .batteryReport | .batteryFreshnessChange | .siteStateChangeDispatch | .dispatchHandover | .erasingEnd
  | .writingEnd | .operationCompletion _ | .siteStateChangeStore | .handOver | .storeFree | .roomEvent
  | .receivedByte _ _ => true

end Sys2Proof
end

