-- ==== Sys2Proof/Certificates/Slice0/Obligations.lean ====
section
/-! DEFINITION. The statements about the DW32, one for each obligation of OBLIGATIONS.json, in the order of the chapters
from the links inwards. -/

open Sys2Proof Sys2Proof.Machine

/-! ### The queue of commands -/

/-- Every command is run by its meaning, with the rest of the queue behind it. On an empty queue a millisecond of run
time passes: the model's own choice (log 1). -/
def Obligations.StepRunsTheFrontCommand : Prop :=
  (∀ (c : Instr) (rest : List Instr) (s : State), step { s with pending := c :: rest } = exec c { s with pending := rest }) ∧
    ∀ s : State, step { s with pending := [] } = .next { s with pending := [], runTime := s.runTime + 1 }

/-! ### The links (chapters 10 and 11) -/

/-- R161: what a byte, the inter-byte timer and a discard make of a receiver. `bytes` are those gathered so far. A
byte that completes nothing is gathered and starts the timer again; the last byte of a frame with its check completes it, and
the frame goes to the request of its kind; a length outside 2 to 242, the expiry of the timer and a wrong check discard what
was gathered.
That the expiry brings the run time up to the timer's and that a discard is a command of its own are the model's choices
(logs 3 and 30). -/
def Obligations.ReceiverCollectsAndDiscards : Prop :=
  ∀ (l : Link) (s : State) (bytes : List Byte) (expiry : Nat),
    let hunting := s.setLinks (s.links.setPort l { s.links.port l with receiver := .hunting }).settle
    ((s.links.port l).receiver = .hunting →
      (∀ b, b ≠ 0xA5#8 → exec (.receivedByte l b) s = .next s) ∧
      exec (.receivedByte l 0xA5#8) s = .next (s.setLinks (s.links.setPort l
        { s.links.port l with receiver := .collecting [] (s.runTime + 20) }).settle)) ∧
    ((s.links.port l).receiver = .collecting bytes expiry →
      exec (.interByteTimeout l) s = .next { hunting with runTime := max s.runTime expiry } ∧
      exec (.frameDiscard l) s = .next hunting ∧
      (∀ n : Byte, bytes = [] → n.toNat < 2 ∨ 242 < n.toNat → exec (.receivedByte l n) s = .next hunting) ∧
      (∀ n body check, bytes = n :: (body ++ [check]) → 2 ≤ n.toNat → n.toNat ≤ 242 → body.length = n.toNat →
        ∀ b, [check, b] ≠ checkBytes (crc16 (n :: body)) → exec (.receivedByte l b) s = .next hunting) ∧
      (∀ b n rest, bytes ++ [b] = n :: rest → 2 ≤ n.toNat → n.toNat ≤ 242 → rest.length < n.toNat + 2 →
        exec (.receivedByte l b) s = .next (s.setLinks (s.links.setPort l
          { s.links.port l with receiver := .collecting (bytes ++ [b]) (s.runTime + 20) }).settle)) ∧
      (∀ n kind tag payload check b, bytes = n :: kind :: tag :: (payload ++ [check]) → n.toNat = payload.length + 2 →
        n.toNat ≤ 242 → [check, b] = checkBytes (crc16 (n :: kind :: tag :: payload)) →
        exec (.receivedByte l b) s = completeFrame l kind tag payload s))

/-- R161, R164, R175, R176: a request whose frame arrives byte by byte on a HUNTING receiver is executed with its last
byte, exactly as the request itself. -/
def Obligations.RequestSentByteByByteExecutes : Prop :=
  ∀ (c : Instr) (h : RequestHead) (payload : List Byte) (s : State), c.wf = true → requestHead c = some h →
    requestPayload c = some payload → (s.links.port h.link).receiver = .hunting → s.links.Settled →
    feed h.link (frameBytes h.kind h.tag payload) s = exec c s

/-- R162, R164 to R166: the checks of a complete frame, in their order; whichever refuses, nothing but the link changes.
A frame that completes while the slot is HELD is answered BUSY through the refusal holder, or not at all when the holder is
full. A kind outside the table of R175 is answered UNKNOWN_KIND. On the till link every request kind but four is not
permitted, nor an AUTHORIZE when the grant is off or its port lies outside the till range. A payload that does not fit is
BAD_LENGTH in either part state, and a kind the part state does not allow is refused with its status. -/
def Obligations.RequestsAreCheckedInOrder : Prop :=
  ((∀ (l : Link) (kind tag : Byte) (s : State), ¬ s.slotFree l →
     exec (.busyRefusal l kind tag) s = .next (s.refusedBusy l kind tag)) ∧
   ∀ (c : Instr) (h : RequestHead) (s : State), requestHead c = some h → ¬ s.slotFree h.link →
     exec c s = .next (s.refusedBusy h.link h.kind h.tag)) ∧
  (∀ (l : Link) (kind tag : Byte) (s : State), s.slotFree l →
     (∀ (c : Instr) (h : RequestHead), requestHead c = some h → h.kind ≠ kind) →
     exec (.unknownKind l kind tag) s = .next (s.replied l kind tag .unknownKind [])) ∧
  ((∀ (c : Instr) (h : RequestHead) (s : State), requestHead c = some h → h.link = .till → h.kind ∉ tillKinds →
     s.slotFree .till → exec c s = .next (s.replied .till h.kind h.tag .notPermitted [])) ∧
   ∀ (tag : Byte) (f : AuthorizeFields) (s : State), s.slotFree .till → s.links.part = .live →
     (s.links.tillGrant = false ∨ f.port < s.links.tillFirst ∨ s.links.tillLast < f.port) →
     exec (.authorize .till tag (.fits f)) s = .next (s.replied .till 0x20#8 tag .notPermitted [])) ∧
  (∀ (c : Instr) (h : RequestHead) (s : State), requestHead c = some h → s.slotFree h.link →
     (h.link = .site ∨ h.kind ∈ tillKinds) →
     (h.fits = false → exec c s = .next (s.replied h.link h.kind h.tag .badLength [])) ∧
     (h.fits = true → s.links.part = .setup → h.kind ∈ liveOnlyKinds →
       exec c s = .next (s.replied h.link h.kind h.tag .notLive [])) ∧
     (h.fits = true → s.links.part = .live → h.kind ∈ setupOnlyKinds →
       exec c s = .next (s.replied h.link h.kind h.tag .wrongState [])))

/-- R162, R163, R172, R173, R175, R180: when the last byte of a frame has been sent, the place it came from is free and the
transmitter chooses again: the slot's reply, else the BUSY reply, else the pending notice of highest priority and among
equals of lowest kind number, whose entry becomes clear; nothing when nothing waits. A raise reaches the links of its
route; on each it makes a clear entry pending with count 1, or counts on to 255 at most, with its own data; no other entry
and nothing else changes.
And the bytes of what is sent. A reply has the kind of its request with 0x80 added, the tag of its request and a payload that
begins with its status, numbered in the order of R163; a notice has kind 0x7E, tag 0 and six payload bytes; either stands
between the start byte with the length and the check. A poll carries the address of its unit, the poll kind and the command
in the layout of 11.6.
That an idle transmitter chooses at the end of the whole event is the model's choice (log 11). -/
def Obligations.NoticesGatherAndAreSentInOrder : Prop :=
  (∀ (l : Link) (s : State) (frame : LinkFrame),
     let p := s.links.port l
     let after (q : LinkPort) : State := s.setLinks (s.links.setPort l { q with transmitter := .idle }).settle
     (p.transmitter = .sending .slot frame → exec (.transmitEnd l) s = .next (after { p with slot := none })) ∧
     (p.transmitter = .sending .holder frame → exec (.transmitEnd l) s = .next (after { p with holder := none })) ∧
     (p.transmitter = .sending .notice frame → exec (.transmitEnd l) s = .next (after p)) ∧
     (p.transmitter = .sending .detached frame → exec (.transmitEnd l) s = .next (after p))) ∧
  (∀ (c : LinkController) (p : LinkPort),
     (∀ src frame, p.transmitter = .sending src frame → c.begin p = p) ∧
     (p.transmitter = .idle →
       (∀ r, p.slot = some r → c.begin p = { p with transmitter := .sending .slot (.reply r) }) ∧
       (∀ r, p.slot = none → p.holder = some r → c.begin p = { p with transmitter := .sending .holder (.reply r) }) ∧
       (p.slot = none → p.holder = none → (∀ k, p.entry k = none) → c.begin p = p) ∧
       ∀ k e, p.slot = none → p.holder = none → p.entry k = some e →
         (∀ k', (p.entry k').isSome = true → k' ≠ k → (c.route k').priority < (c.route k).priority ∨
           ((c.route k').priority = (c.route k).priority ∧ k.number < k'.number)) →
         c.begin p = { p with transmitter := .sending .notice (.notice { kind := k, count := e.count, data := e.data }),
                              notices := put p.notices k.number none })) ∧
  (∀ (s : State) (k k' : NoticeKind) (data : Nat) (l : Link),
     let t := s.raise k data
     t = s.setLinks { s.links with site := t.links.site, till := t.links.till } ∧
     t.links.port l = { s.links.port l with notices := (t.links.port l).notices } ∧
     (t.links.port l).entry k' =
       if k' = k ∧ (s.links.route k).route.reaches l = true then
         (match (s.links.port l).entry k with
           | none => some { count := 1, data := data }
           | some e => some { count := min 255 (e.count + 1), data := data })
       else (s.links.port l).entry k') ∧
  (let framed (body : List Byte) : List Byte := 0xA5#8 :: (body ++ le 2 (crc16 body).toNat)
   (∀ (kind tag : Byte) (status : Status) (body : List Byte), kind.toNat < 128 →
      let r := mkReply kind tag status body
      r = { kind := kind + 0x80#8, tag := tag, status := status, body := body } ∧
      (LinkFrame.reply r).bytes = framed (byte (body.length + 3) :: (kind + 0x80#8) :: tag :: byte status.code :: body)) ∧
   [Status.ok, .accepted, .unknownKind, .notPermitted, .badLength, .outOfRange, .wrongState, .notLive, .inUse, .busy, .supply,
     .full, .empty, .notFound, .tooLate, .duplicate, .noMark, .noTariff, .badConfig].map Status.code = List.range 19 ∧
   (∀ (k : NoticeKind) (count data : Nat), (LinkFrame.notice { kind := k, count := count, data := data }).bytes =
      framed (0x08#8 :: 0x7E#8 :: 0x00#8 :: byte k.number :: byte count :: le 4 data)) ∧
   ∀ (f : FieldLinkController) (t : Transaction),
     let poll (kind : Nat) (payload : List Byte) : List Byte :=
       framed (byte ((f.unit t.unit).address.getD 0) :: byte (payload.length + 1) :: byte kind :: payload)
     let mode (m : ChargerMode) : Nat := match m with
       | .lockout => 0
       | .pause => 1
       | .run => 2
     (∀ m n, t.unit ≤ 32 → t.command = .charger m n → pollBytes f t = poll 1 (byte (mode m) :: le 2 n)) ∧
     (t.unit = 33 → t.command = .meter → pollBytes f t = poll 2 []) ∧
     (t.unit = 34 → t.command = .meter → pollBytes f t = poll 3 []) ∧
     (∀ w, 35 ≤ t.unit → t.unit ≤ 38 → t.command = .inverter (some w) → pollBytes f t = poll 4 (le 4 w)) ∧
     ∀ c, t.unit = 39 → t.command = .battery c → pollBytes f t = poll 5 (match c with
       | .idle => byte 0 :: le 4 0
       | .charge w => byte 1 :: le 4 w
       | .discharge w => byte 2 :: le 4 w
       | .islandSupport => byte 3 :: le 4 0))

/-- R170: the clock advances by one and wraps; SET_TIME sets it, and the first advance comes a second of run time
later. A tick comes at its run time (log 3). -/
def Obligations.SiteClockTicksAndIsSet : Prop :=
  ∀ (s : State),
    exec .siteClockTick s = .next { s with
      runTime := max s.runTime s.links.clock.nextTick
      links := ({ s.links with clock := { s.links.clock with
        time := (s.links.clock.time + 1) % 4294967296
        nextTick := s.links.clock.nextTick + 1000 } }).settle } ∧
    ∀ (tag : Byte) (time : Nat), time < 4294967296 → s.slotFree .site →
      exec (.setTime .site tag (.fits time)) s = .next (({ s with links := { s.links with
        clock := { time := time, isSet := true, nextTick := s.runTime + 1000 } } }).replied .site 0x0B#8 tag .ok [])

/-- R159, R166, R171: SET_TILL_ACCESS, SET_NOTICE_ROUTE and SET_QUEUE_LEVELS replace what they name, or nothing when a
value is out of its range. -/
def Obligations.LinkAndQueueSettingsAreReplaced : Prop :=
  (∀ (s : State) (tag : Byte), s.slotFree .site →
     (∀ f : TillFields, f.grant ≤ 1 → 1 ≤ f.first → f.first ≤ f.last → f.last ≤ 32 →
       exec (.setTillAccess .site tag (.fits f)) s = .next (({ s with links := { s.links with
         tillGrant := f.grant == 1, tillFirst := f.first, tillLast := f.last } }).replied .site 0x09#8 tag .ok [])) ∧
     (∀ f : TillFields, 1 < f.grant ∨ f.first < 1 ∨ f.last < f.first ∨ 32 < f.last →
       exec (.setTillAccess .site tag (.fits f)) s = .next (s.replied .site 0x09#8 tag .outOfRange [])) ∧
     (∀ (k : NoticeKind) (f : RouteFields) (r : Route), f.kind = k.number → routeOf f.route = some r → f.priority ≤ 7 →
       ∃ c : LinkController, exec (.setNoticeRoute .site tag (.fits f)) s =
           .next (({ s with links := c }).replied .site 0x08#8 tag .ok []) ∧
         c = { s.links with routes := c.routes } ∧ c.route k = { route := r, priority := f.priority } ∧
         ∀ k', k' ≠ k → c.route k' = s.links.route k') ∧
     ∀ f : RouteFields, f.kind < 1 ∨ 16 < f.kind ∨ 3 < f.route ∨ 7 < f.priority →
       exec (.setNoticeRoute .site tag (.fits f)) s = .next (s.replied .site 0x08#8 tag .outOfRange [])) ∧
  (∀ (s : State) (tag : Byte) (f : LevelFields), s.slotFree .site →
     (1 ≤ f.notify → f.notify ≤ 64 → 1 ≤ f.high → f.high ≤ 64 → exec (.setQueueLevels .site tag (.fits f)) s =
       .next (({ s with queue := { s.queue with notify := f.notify, high := f.high } }).replied .site 0x0A#8 tag .ok [])) ∧
     (f.notify < 1 ∨ 64 < f.notify ∨ f.high < 1 ∨ 64 < f.high →
       exec (.setQueueLevels .site tag (.fits f)) s = .next (s.replied .site 0x0A#8 tag .outOfRange [])))

/-! ### Configuration (chapters 1 to 5, 9) -/

/-- R48, R72, R89: in SETUP, SET_FEEDER sets the cap of one feeder, or is refused outside feeders 1 to 4 and caps of 1 to
8,000 credits. SET_UNIT: a kind, an inverter number, a rated power or an address out of its range is refused, then an address
of another present unit. An accepted one of a present unit gives it its address, and an inverter its rated power, which its
limits take; one of an absent unit gives it its reset entry. Either way the record of that unit has no value, and no other
unit changes. -/
def Obligations.FeederAndUnitAreConfigured : Prop :=
  (∀ (s : State) (tag : Byte) (f : FeederFields), s.slotFree .site → s.links.part = .setup →
     (1 ≤ f.feeder → f.feeder ≤ 4 → 1 ≤ f.cap → f.cap ≤ 8000 →
       ∃ v, exec (.setFeeder .site tag (.fits f)) s =
           .next (({ s with allocator := { s.allocator with feeders := v } }).replied .site 0x02#8 tag .ok []) ∧
         ∀ k, 1 ≤ k → k ≤ 4 → nth v none k = if k = f.feeder then some f.cap else nth s.allocator.feeders none k) ∧
     (f.feeder < 1 ∨ 4 < f.feeder ∨ f.cap < 1 ∨ 8000 < f.cap →
       exec (.setFeeder .site tag (.fits f)) s = .next (s.replied .site 0x02#8 tag .outOfRange []))) ∧
  (∀ (s : State) (tag : Byte) (f : UnitFields), s.slotFree .site → s.links.part = .setup →
     let run := exec (.setUnit .site tag (.fits f)) s
     let u := if f.kind = 0 then 33 else if f.kind = 1 then 34 else if f.kind = 2 then 34 + f.inverter else 39
     (f.kind ≤ 3 → (f.kind = 2 → 1 ≤ f.inverter ∧ f.inverter ≤ 4 ∧ 100 ≤ f.rated ∧ f.rated ≤ 1000000) →
       1 ≤ f.address → f.address ≤ 247 →
       (f.present = 1 → addressTaken s.field u f.address = true → run = .next (s.replied .site 0x04#8 tag .duplicate [])) ∧
       (f.present = 0 ∨ (f.present = 1 ∧ addressTaken s.field u f.address = false) → ∃ t, run = .next t ∧
         t = ({ s with
           field := { s.field with units := t.field.units }
           balance := { s.balance with
             grid := if u = 33 then Measurement.reset else s.balance.grid
             overrun := if u = 33 then false else s.balance.overrun
             store := if u = 34 then Measurement.reset else s.balance.store
             inverters := t.balance.inverters
             battery := if u = 39 then Measurement.reset else s.balance.battery }
           dispatch := { s.dispatch with limits := t.dispatch.limits } }).replied .site 0x04#8 tag .ok [] ∧
         t.field.unit u = (if f.present = 0 then FieldUnit.reset u
           else if f.kind = 2 then { s.field.unit u with
             present := true, address := some f.address, rated := some f.rated, target := .inverter (some f.rated),
             delivered := .inverter (some f.rated) }
           else { s.field.unit u with present := true, address := some f.address }) ∧
         (∀ v, v ≠ u → t.field.unit v = s.field.unit v) ∧
         (∀ k, t.balance.inverter k = if f.kind = 2 ∧ k = f.inverter then Measurement.reset else s.balance.inverter k) ∧
         ∀ k, nth t.dispatch.limits none k = if f.kind = 2 ∧ k = f.inverter
           then (if f.present = 1 then some f.rated else none) else nth s.dispatch.limits none k)) ∧
     (3 < f.kind ∨ (f.kind = 2 ∧ (f.inverter < 1 ∨ 4 < f.inverter ∨ f.rated < 100 ∨ 1000000 < f.rated)) ∨
         f.address < 1 ∨ 247 < f.address ∨ 1 < f.present →
       run = .next (s.replied .site 0x04#8 tag .outOfRange [])))

/-- R1: an accepted SET_PORT of a present port replaces its entry, a minimum of 0 standing for the default of the class,
and gives the charger its address and its presence; one with present = no makes port and charger absent; the other ports
and units stay as they are. A refused one changes nothing: a value out of range first, then an address in use. -/
def Obligations.SetPortReplacesOneEntry : Prop :=
  ∀ (s : State) (tag : Byte) (f : PortFields) (cls : PortClass), s.slotFree .site → s.links.part = .setup →
    portClassOf f.cls = some cls → f.freeVend ≤ 1 →
    let run := exec (.setPort .site tag (.fits f)) s
    (1 ≤ f.port → f.port ≤ 32 → 1 ≤ f.feeder → f.feeder ≤ 4 → 1 ≤ f.ratedMax → f.ratedMax ≤ 2000 → f.minimum ≤ 220 →
      1 ≤ f.address → f.address ≤ 247 →
      (f.present = 1 → addressTaken s.field f.port f.address = true →
        run = .next (s.replied .site 0x03#8 tag .duplicate [])) ∧
      (f.present = 1 → addressTaken s.field f.port f.address = false → ∃ t, run = .next t ∧
        t = ({ s with sessions := { s.sessions with ports := t.sessions.ports }
                      field := { s.field with units := t.field.units }
                      balance := { s.balance with chargers := t.balance.chargers } }).replied .site 0x03#8 tag .ok [] ∧
        (∀ p, t.sessions.entry p = if p = f.port then some
          { feeder := f.feeder, cls := cls, ratedMax := f.ratedMax,
            minimum := if f.minimum = 0 then (match cls with
              | .ac1 => 14
              | .ac3 => 42
              | .dc => 100) else f.minimum,
            address := f.address, freeVend := f.freeVend == 1 } else s.sessions.entry p) ∧
        (∀ u, t.field.unit u = if u = f.port then { s.field.unit f.port with present := true, address := some f.address }
          else s.field.unit u) ∧
        ∀ p, nth t.balance.chargers 0 p = if p = f.port then 0 else nth s.balance.chargers 0 p) ∧
      (f.present = 0 → ∃ t, run = .next t ∧
        t = ({ s with sessions := { s.sessions with ports := t.sessions.ports, records := t.sessions.records }
                      field := { s.field with units := t.field.units }
                      balance := { s.balance with chargers := t.balance.chargers }
                      metering := { s.metering with meters := t.metering.meters } }).replied .site 0x03#8 tag .ok [] ∧
        (∀ p, t.sessions.entry p = if p = f.port then none else s.sessions.entry p) ∧
        (∀ u, t.field.unit u = if u = f.port then FieldUnit.reset f.port else s.field.unit u) ∧
        (∀ p, p ≠ f.port → t.sessions.record p = s.sessions.record p ∧ t.metering.meter p = s.metering.meter p ∧
          nth t.balance.chargers 0 p = nth s.balance.chargers 0 p))) ∧
    (f.port < 1 ∨ 32 < f.port ∨ f.feeder < 1 ∨ 4 < f.feeder ∨ f.ratedMax < 1 ∨ 2000 < f.ratedMax ∨ 220 < f.minimum ∨
        f.address < 1 ∨ 247 < f.address ∨ 1 < f.present → run = .next (s.replied .site 0x03#8 tag .outOfRange []))

/-- R26, R32, R41, R51, R63, R96, R143: an accepted SET_SITE replaces the five settings, takes a next receipt number other
than 0, and in LIVE recomputes the balance record. An accepted SET_TIMERS replaces all eight settings and touches no timer
that runs. SET_WATERMARKS replaces both; in LIVE the high watermark must be below the urgent one, and the Session
Controller is sent the new ones. A value out of its range and none is replaced. -/
def Obligations.SiteTimerAndWatermarkSettingsAreReplaced : Prop :=
  (∀ (s : State) (tag : Byte) (f : SiteFields), s.slotFree .site →
     let settings : SiteSettings := { importLimit := f.importLimit, margin := f.margin, exportLimit := f.exportLimit,
                                      storePeak := f.storePeak, fallback := f.fallback }
     let t : State := { s with balance := { s.balance with settings := settings }
                               builder := { s.builder with next := if f.nextReceipt = 0 then s.builder.next
                                                                   else f.nextReceipt } }
     (1 ≤ f.importLimit ∧ f.importLimit ≤ 2000 ∧ f.margin ≤ 100 ∧ f.margin < f.importLimit ∧ f.exportLimit ≤ 2000 ∧
         1 ≤ f.storePeak ∧ f.storePeak ≤ 2000 ∧ 1 ≤ f.fallback ∧ f.fallback ≤ 220 ∧ f.nextReceipt < 4294967296 →
       exec (.setSite .site tag (.fits f)) s = .next ((if s.links.part = .live then t.recompute else t).replied .site
         0x01#8 tag .ok [])) ∧
     (f.importLimit < 1 ∨ 2000 < f.importLimit ∨ 100 < f.margin ∨ f.importLimit ≤ f.margin ∨ 2000 < f.exportLimit ∨
         f.storePeak < 1 ∨ 2000 < f.storePeak ∨ f.fallback < 1 ∨ 220 < f.fallback →
       exec (.setSite .site tag (.fits f)) s = .next (s.replied .site 0x01#8 tag .outOfRange []))) ∧
  (∀ (s : State) (tag : Byte) (f : TimerFields), s.slotFree .site →
     (30 ≤ f.authorization ∧ f.authorization ≤ 1800 ∧ 10 ≤ f.dormant ∧ f.dormant ≤ 3600 ∧ 5 ≤ f.closing ∧
         f.closing ≤ 300 ∧ 2 ≤ f.stale ∧ f.stale ≤ 60 ∧ 10 ≤ f.restore ∧ f.restore ≤ 600 ∧ 10 ≤ f.fallbackHold ∧
         f.fallbackHold ≤ 600 ∧ 1 ≤ f.period ∧ f.period ≤ 10 ∧ 10 ≤ f.reply ∧ f.reply ≤ 200 →
       exec (.setTimers .site tag (.fits f)) s = .next (({ s with
       sessions := { s.sessions with
         authorizationTimeout := f.authorization, dormantDelay := f.dormant, closingTimeout := f.closing }
       balance := { s.balance with staleTime := f.stale, restoreDelay := f.restore, fallbackHold := f.fallbackHold }
       allocator := { s.allocator with period := f.period }
       field := { s.field with replyTimeout := f.reply } }).replied .site 0x06#8 tag .ok [])) ∧
     (f.authorization < 30 ∨ 1800 < f.authorization ∨ f.dormant < 10 ∨ 3600 < f.dormant ∨ f.closing < 5 ∨
         300 < f.closing ∨ f.stale < 2 ∨ 60 < f.stale ∨ f.restore < 10 ∨ 600 < f.restore ∨ f.fallbackHold < 10 ∨
         600 < f.fallbackHold ∨ f.period < 1 ∨ 10 < f.period ∨ f.reply < 10 ∨ 200 < f.reply →
       exec (.setTimers .site tag (.fits f)) s = .next (s.replied .site 0x06#8 tag .outOfRange []))) ∧
  (∀ (s : State) (tag : Byte) (f : WatermarkFields), s.slotFree .site →
     let t : State := { s with allocator := { s.allocator with high := f.high, urgent := f.urgent } }
     let run := exec (.setWatermarks .site tag (.fits f)) s
     (1 ≤ f.high → f.high ≤ 15 → 1 ≤ f.urgent → f.urgent ≤ 15 → s.links.part = .setup →
       run = .next (t.replied .site 0x07#8 tag .ok [])) ∧
     (1 ≤ f.high → f.high < f.urgent → f.urgent ≤ 15 → s.links.part = .live →
       run = .next ((t.sendAllocatorMessage (.reclassify f.high f.urgent)).replied .site 0x07#8 tag .ok [])) ∧
     (f.high < 1 ∨ 15 < f.high ∨ f.urgent < 1 ∨ 15 < f.urgent ∨ (s.links.part = .live ∧ f.urgent ≤ f.high) →
       run = .next (s.replied .site 0x07#8 tag .outOfRange [])))

/-- R73, R76, R78, R85, R86: SET_BATTERY_POLICY in SETUP replaces the settings, whatever their order; in LIVE it is refused
unless hard floor, soft reserve and full limit rise. In LIVE the allowance is evaluated under the new settings, and published
when it differs from the one published last; then the command is computed from the new settings with trigger POLICY: the
record holds the case, target, figures and limits that `outcomeOf` and `limitsOf` give, the target and the limits are in
force, and they are handed over, changed or not.
That a target which no longer stands under a changed allowance is computed and handed over once more before that is the
model's reading (log 24). -/
def Obligations.SetBatteryPolicyIsCheckedInLive : Prop :=
  ∀ (s : State) (tag : Byte) (f : PolicyFields), s.slotFree .site →
    let policy : BatteryPolicy := { hardFloor := f.hardFloor, softReserve := f.softReserve, fullLimit := f.fullLimit,
                                    dischargeCap := f.dischargeCap, chargeCap := f.chargeCap, topUp := f.topUp }
    let run := exec (.setBatteryPolicy .site tag (.fits f)) s
    let set : BatteryDispatchUnit := { s.dispatch with policy := policy }
    let d : BatteryDispatchUnit := { set with allowance := allowanceOf s.batteryPresent set }
    let changed := d.allowance != s.dispatch.allowance
    let record := s.dispatchComputed d .policy
    (f.hardFloor ≤ 1000 → f.softReserve ≤ 1000 → f.fullLimit ≤ 1000 → f.dischargeCap ≤ 1000000 →
      f.chargeCap ≤ 1000000 → f.topUp ≤ 1000000 →
      (s.links.part = .setup → run = .next
        (({ s with dispatch := { s.dispatch with policy := policy } }).replied .site 0x05#8 tag .ok [])) ∧
      (s.links.part = .live → f.hardFloor < f.softReserve → f.softReserve < f.fullLimit → run = .next (({ s with
        dispatch := d.commanded record
        events := { s.events with
          allowances := s.events.allowances ++ (if changed then [d.allowance] else [])
          handovers := s.events.handovers ++
            (if changed && !stands s.batteryPresent d then [s.handoverOf record none] else []) ++
            [s.handoverOf record none] } }).replied .site 0x05#8 tag .ok [])) ∧
      (s.links.part = .live → ¬ (f.hardFloor < f.softReserve ∧ f.softReserve < f.fullLimit) →
        run = .next (s.replied .site 0x05#8 tag .outOfRange []))) ∧
    (1000 < f.hardFloor ∨ 1000 < f.softReserve ∨ 1000 < f.fullLimit ∨ 1000000 < f.dischargeCap ∨
        1000000 < f.chargeCap ∨ 1000000 < f.topUp → run = .next (s.replied .site 0x05#8 tag .outOfRange []))

/-! ### Going live and the resets (chapters 2, 7, 10) -/

/-- R93, R94, R167, R168: the first check that fails gives BAD_CONFIG with its item code and number, and nothing changes; a
GO_LIVE whose checks pass starts every block. The poll cycle is the present chargers, inverters and battery in groups of 8,
the grid meter and the store meter after each group; the first poll goes to its first entry with the target of that unit, and
the cycle position is the next entry.
That the Battery Dispatch Unit computes when it takes the change of site state it is sent, and that no charger is sent a
target, are the model's reading (logs 13 and 17); the item code and the item number take one byte each by its choice (log
41). -/
def Obligations.GoLiveChecksAndStarts : Prop :=
  ∀ (s : State) (tag : Byte), s.slotFree .site → s.links.part = .setup →
    let refused (code number : Nat) : Prop := exec (.goLive .site tag (.fits ())) s =
      .next (s.replied .site 0x0C#8 tag .badConfig [byte code, byte number])
    let fed (p : Nat) : Prop := ∀ e, s.sessions.entry p = some e → (nth s.allocator.feeders none e.feeder).isSome = true
    let fits (p : Nat) : Prop := ∀ e, s.sessions.entry p = some e → e.minimum ≤ e.ratedMax
    let c1 : Prop := ∃ p ∈ portNumbers, (s.sessions.entry p).isSome = true
    let c2 : Prop := ∀ p ∈ portNumbers, fed p
    let c3 : Prop := ∀ p ∈ portNumbers, fits p
    let c4 : Prop := s.allocator.high < s.allocator.urgent
    let c5 : Prop := s.dispatch.policy.hardFloor < s.dispatch.policy.softReserve ∧
      s.dispatch.policy.softReserve < s.dispatch.policy.fullLimit
    (¬ c1 → refused 1 0) ∧
    (∀ p ∈ portNumbers, c1 → ¬ fed p → (∀ q ∈ portNumbers, q < p → fed q) → refused 2 p) ∧
    (∀ p ∈ portNumbers, c1 → c2 → ¬ fits p → (∀ q ∈ portNumbers, q < p → fits q) → refused 3 p) ∧
    (c1 → c2 → c3 → ¬ c4 → refused 4 0) ∧
    (c1 → c2 → c3 → c4 → ¬ c5 → refused 5 0) ∧
    (c1 → c2 → c3 → c4 → c5 → (s.field.unit 33).present = false → refused 6 0) ∧
    (c1 → c2 → c3 → c4 → c5 → (s.field.unit 33).present = true → (s.field.unit 34).present = false → refused 7 0) ∧
    (c1 → c2 → c3 → c4 → c5 → (s.field.unit 33).present = true → (s.field.unit 34).present = true →
      ∃ t, exec (.goLive .site tag (.fits ())) s = .next t ∧
        t = { s with
          links := ({ s.links with part := .live }).withReply .site (mkReply 0x0C#8 tag .ok [])
          sessions := { s.sessions with records := t.sessions.records }
          field := t.field
          balance := { s.balance with siteState := .starting, restoreTimer := none, record := t.balance.record }
          allocator := { s.allocator with periodTimer := some (s.runTime + 1000 * s.allocator.period) }
          events := { s.events with
            siteToSessions := s.events.siteToSessions ++ [{ before := s.balance.siteState, after := .starting }]
            siteToDispatch := s.events.siteToDispatch ++ [{ before := s.balance.siteState, after := .starting }]
            siteToStore := s.events.siteToStore ++ [{ before := s.balance.siteState, after := .starting }] } } ∧
        (∀ p ∈ portNumbers, t.sessions.record p = if (s.sessions.entry p).isSome
          then { s.sessions.record p with state := some .free } else s.sessions.record p) ∧
        (let run := (portNumbers ++ [35, 36, 37, 38, 39]).filter fun u => (s.field.unit u).present
         t.field = { s.field with
           cycle := (List.range ((run.length + 7) / 8)).flatMap fun g => (run.drop (8 * g)).take 8 ++ [33, 34]
           position := if run = [] then 0 else 1
           urgent := [], decrease := []
           transaction := run.head?.map fun u =>
             { unit := u, command := (s.field.unit u).target, urgent := false, timeout := s.field.replyTimeout,
               replyTimer := none } }) ∧
        t.balance.record = balanceOf s.field s.sessions { s.balance with siteState := .starting })

/-- R120, R121, R169: a RESTART that is taken gives every block but the Tariff Store its values after power-on; a frame
being sent is sent to its end, the reply OK waits in the site slot; the slots keep their contents and states, out of use
and with none active, but for the slot of an operation in flight, which becomes BAD. NORMAL is refused while a session or a
retained receipt is left. Power-on gives every block its reset values; each slot is EMPTY, VALID or BAD by its bytes, which
the examination does not change; only the slot of an erasing or writing in flight holds what was left behind.
What stays on its way and when the next second falls are the model's reading (log 16, log 21), and that the low byte
of the stored check lies first in a slot (log 46); that POWER_ON_RESET cuts a frame being sent is its choice (log 42). -/
def Obligations.RestartAndPowerOnReset : Prop :=
  (∀ (s : State) (tag : Byte) (mode : Nat), s.slotFree .site →
     let run := exec (.restart .site tag (.fits mode)) s
     (2 ≤ mode → run = .next (s.replied .site 0x0D#8 tag .outOfRange [])) ∧
     (mode = 0 → s.sessions.table ≠ [] ∨ s.queue.retained ≠ [] →
       run = .next (s.replied .site 0x0D#8 tag .wrongState [])) ∧
     ((mode = 0 ∧ s.sessions.table = [] ∧ s.queue.retained = []) ∨ mode = 1 → ∃ t, run = .next t ∧
       t = { State.reset with pending := s.pending, runTime := s.runTime, draws := t.draws, links := t.links,
                              store := { TariffStore.reset with slots := t.store.slots } } ∧
       t.links = ({ LinkController.reset with
         clock := { time := 0, isSet := false, nextTick := (s.runTime / 1000 + 1) * 1000 }
         site := { LinkPort.reset with transmitter := s.links.site.transmitter.detach }
         till := { LinkPort.reset with transmitter := s.links.till.transmitter.detach } }).withReply .site
           (mkReply 0x0D#8 tag .ok []) ∧
       ∀ k, k < 8 → (t.store.slot k).uses = 0 ∧
         (s.store.operation.map StoreOperation.slot ≠ some k →
           t.store.slot k = { s.store.slot k with uses := 0 }) ∧
         (s.store.operation.map StoreOperation.slot = some k → (t.store.slot k).state = .bad))) ∧
  (∀ (s : State), ∃ t, exec .powerOnReset s = .next t ∧
     t = { State.reset with pending := s.pending, draws := t.draws,
                            store := { TariffStore.reset with slots := t.store.slots } } ∧
     ∀ k, k < 8 → (t.store.slot k).uses = 0 ∧
       ((t.store.slot k).state = .empty ↔ (t.store.slot k).bytes = erasedPattern) ∧
       ((t.store.slot k).state = .valid ↔ (t.store.slot k).bytes ≠ erasedPattern ∧
         (t.store.slot k).bytes.drop 35 = checkBytes (slotCheck k ((t.store.slot k).bytes.take 35))) ∧
       (t.store.slot k).state ≠ .busy ∧
       ((∀ op, s.store.operation = some op → op.slot ≠ k ∨ op.phase = .verifying) →
         (t.store.slot k).bytes = (s.store.slot k).bytes))

/-! ### Charging sessions (chapter 1) -/

/-- R12, R14, R25: what every change of a session's state or demand brings with it. `y` is the session as the change
itself makes it. -/
def Obligations.TransitionCarriesItsEffects : Prop :=
  ∀ (s : State) (x y : Session), s.sessions.find x.number = some x →
    let t := s.transition x.number fun _ => y
    let stays : Prop := x.state = .active ∧ x.demand = 0
    t = { s with links := t.links, sessions := t.sessions, events := t.events } ∧
    t.sessions = s.sessions.update x.number (fun _ => { y with
      allocation := if y.state = .active then y.allocation else 0
      dormantTimer := if y.state = .active ∧ y.demand = 0 then
        (if stays then x.dormantTimer else some (s.runTime + 1000 * s.sessions.dormantDelay)) else none
      nextIdle := if y.state = .dormant then (if x.state = .dormant then x.nextIdle else some (s.runTime + 1000))
        else none }) ∧
    t.events = { s.events with
      chargerTargets := s.events.chargerTargets ++ (if x.state = .active ∧ y.state ≠ .active
        then [{ port := y.port, mode := .pause, setpoint := 0 }] else [])
      earlyRequests := s.events.earlyRequests + (if (x.state = .active ∧ 0 < x.demand ↔ y.state = .active ∧ 0 < y.demand)
        then 0 else 1) } ∧
    t.links = if x.state = y.state then s.links else s.links.raise .sessionChange y.number

/-- R8, R9: AUTHORIZE. The checks in their order; a request that passes them binds the session to the active slot, whose
use count rises, and the session leaves PLUGGED for ACTIVE, or for HELD when something holds it.
That a request without a departure time removes one that SET_DEPARTURE stored is the model's choice (log 33), and so are
the two bytes of the session number in the reply (log 41). -/
def Obligations.AuthorizeBindsTheSession : Prop :=
  ∀ (s : State) (l : Link) (tag : Byte) (f : AuthorizeFields), s.slotFree l → s.links.part = .live →
    (l = .till → tillGrant s f = true) →
    let run := exec (.authorize l tag (.fits f)) s
    let refused (st : Status) : Prop := run = .next (s.replied l 0x20#8 tag st [])
    (f.port < 1 ∨ 32 < f.port → refused .outOfRange) ∧
    (1 ≤ f.port → f.port ≤ 32 →
      (s.sessions.holder f.port = none → refused .notFound) ∧
      ∀ x, s.sessions.holder f.port = some x → s.sessions.find x.number = some x →
        (x.state ≠ .plugged → refused .wrongState) ∧
        (x.state = .plugged → s.store.active = none → refused .noTariff) ∧
        ∀ slot, x.state = .plugged → s.store.active = some slot →
          run = .next (((s.setStore (s.store.bind slot)).transition x.number fun _ => { x with
            authorizer := some (match l with
              | .site => .site
              | .till => .till)
            customer := f.customer.map (List.take 16)
            departure := if f.departure = 0 then none else some (max s.siteTime f.departure)
            slot := some slot
            meterStart := (s.metering.meter x.port).last
            authorized := some s.siteTime
            authorizationTimer := none
            state := if x.holds.isEmpty then .active else .held
            flags := { x.flags with
              timeUnset := x.flags.timeUnset || !s.links.clock.isSet
              gridLost := x.flags.gridLost || x.holds.island
              chargerLost := x.flags.chargerLost || x.holds.chargerLost } }).replied l 0x20#8 tag .ok (le 2 x.number)))

/-- R15 to R17: HOLD_PORT and RELEASE_PORT on the session that holds a port, after their checks. -/
def Obligations.HoldAndReleasePort : Prop :=
  ∀ (s : State) (tag : Byte) (p : Nat), s.slotFree .site → s.links.part = .live →
    let hold := exec (.holdPort .site tag (.fits p)) s
    let release := exec (.releasePort .site tag (.fits p)) s
    let both (st : Status) : Prop := hold = .next (s.replied .site 0x21#8 tag st []) ∧
      release = .next (s.replied .site 0x22#8 tag st [])
    (p < 1 ∨ 32 < p → both .outOfRange) ∧
    (1 ≤ p → p ≤ 32 → (s.sessions.holder p = none → both .notFound) ∧
      ∀ x, s.sessions.holder p = some x → s.sessions.find x.number = some x →
        (x.state = .closing → both .wrongState) ∧
        (x.state = .plugged ∨ x.state = .active ∨ x.state = .dormant ∨ x.state = .held →
          hold = .next ((s.transition x.number fun _ => { x with
            holds := { x.holds with siteHold := true }
            state := if x.state = .plugged then .plugged else .held }).replied .site 0x21#8 tag .ok []) ∧
          (x.state = .plugged → release = .next ((s.transition x.number fun _ => { x with
            holds := { x.holds with siteHold := false } }).replied .site 0x22#8 tag .ok [])) ∧
          (x.state = .held → release = .next ((s.transition x.number fun _ => { x with
            holds := { x.holds with siteHold := false }
            state := if x.holds.island ∨ x.holds.fault ∨ x.holds.chargerLost then .held
                     else if 0 < x.demand then .active else .dormant }).replied .site 0x22#8 tag .ok [])) ∧
          (x.state = .active ∨ x.state = .dormant →
            release = .next ((s.transition x.number fun _ => x).replied .site 0x22#8 tag .ok []))))

/-- R18, R22, R23, R152: STOP_SESSION, SET_DEPARTURE and LINK_PURCHASE of a session in the table, and of a number that no
session in the table has: NOT_FOUND, but TOO_LATE for a LINK_PURCHASE when a receipt of that session is in the copy ring or
the receipt queue. -/
def Obligations.SessionRequestsChangeOneSession : Prop :=
  (∀ (s : State) (l : Link) (tag : Byte) (x : Session), s.links.part = .live → s.sessions.find x.number = some x →
     let change (f : Session → Session) : State := { s with sessions := s.sessions.update x.number f }
     (s.slotFree .site → x.state = .active ∨ x.state = .dormant ∨ x.state = .held →
       exec (.stopSession .site tag (.fits x.number)) s = .next ((s.transition x.number fun _ => { x with
         state := .closing, flags := { x.flags with stopped := true }, holds := Holds.none,
         closingTimer := some (s.runTime + 1000 * s.sessions.closingTimeout) }).replied .site 0x23#8 tag .ok [])) ∧
     (s.slotFree .site → x.state = .plugged ∨ x.state = .closing ∨ x.state = .pricing ∨ x.state = .waitQueue →
       exec (.stopSession .site tag (.fits x.number)) s = .next (s.replied .site 0x23#8 tag .wrongState [])) ∧
     (s.slotFree .site → x.state = .plugged ∨ x.state = .active ∨ x.state = .dormant ∨ x.state = .held →
       ∀ d, exec (.setDeparture .site tag (.fits { session := x.number, departure := d })) s =
         .next ((change fun y => { y with departure := if d = 0 then none else some (max s.siteTime d) }).replied .site
           0x24#8 tag .ok [])) ∧
     (s.slotFree .site → x.state = .closing ∨ x.state = .pricing ∨ x.state = .waitQueue →
       ∀ d, exec (.setDeparture .site tag (.fits { session := x.number, departure := d })) s =
         .next (s.replied .site 0x24#8 tag .wrongState [])) ∧
     (s.slotFree l → ∀ (amount : Nat) (reference : List Byte), reference.length = 8 → 1 ≤ amount → amount ≤ 1000000 →
       let run := exec (.linkPurchase l tag (.fits { session := x.number, amount := amount, reference := some reference })) s
       let refused (st : Status) : Prop := run = .next (s.replied l 0x27#8 tag st [])
       (x.state = .waitQueue → refused .tooLate) ∧
       (x.state ≠ .waitQueue → (∃ k ∈ x.links, k.reference = reference) → refused .duplicate) ∧
       (x.state ≠ .waitQueue → (∀ k ∈ x.links, k.reference ≠ reference) → 4 ≤ x.links.length → refused .full) ∧
       (x.state ≠ .waitQueue → (∀ k ∈ x.links, k.reference ≠ reference) → x.links.length < 4 →
         run = .next ((change fun y => { y with links := y.links ++ [{ reference := reference, amount := amount }] }).replied
           l 0x27#8 tag .ok [])))) ∧
  ∀ (s : State) (l : Link) (tag : Byte) (n : Nat), s.links.part = .live →
    (s.slotFree .site → s.sessions.find n = none →
      exec (.stopSession .site tag (.fits n)) s = .next (s.replied .site 0x23#8 tag .notFound []) ∧
      ∀ d, exec (.setDeparture .site tag (.fits { session := n, departure := d })) s =
        .next (s.replied .site 0x24#8 tag .notFound [])) ∧
    (s.slotFree l → ∀ (amount : Nat) (reference : Option (List Byte)),
      let run := exec (.linkPurchase l tag (.fits { session := n, amount := amount, reference := reference })) s
      let fits : Prop := 1 ≤ amount ∧ amount ≤ 1000000 ∧ ∃ t, reference = some t ∧ t.length = 8
      let known : Prop := (∃ r, some r ∈ s.builder.ring.toList ∧ r.session = n) ∨ ∃ r ∈ s.queue.retained, r.session = n
      (¬ fits → run = .next (s.replied l 0x27#8 tag .outOfRange [])) ∧
      (fits → s.sessions.find n = none → known → run = .next (s.replied l 0x27#8 tag .tooLate [])) ∧
      (fits → s.sessions.find n = none → ¬ known → run = .next (s.replied l 0x27#8 tag .notFound [])))

/-- R3 to R7, R10, R25: a charger report at a port without a session, and the session a freed entry opens. The report's
acceptance and fault indication are recorded, CHARGER_FAULT raised when the fault becomes yes. On a FREE port a connected
vehicle opens a session while the table has room; with the table full the port becomes WAITING and joins the wait list, and
TABLE_FULL is raised. A disconnect frees a WAITING port, which leaves the list, and a BLOCKED one; every other report leaves
the port as it is. A freed entry opens a session on the port at the head of the wait list. An opened session has the first
number from the counter on that no session has, and the values of R7; its port is IN_SESSION with PAUSE. On a free-vend port
with an active slot it is authorized at once.
That the site state of R7 is read from the published balance record, and CHARGER_LOST from the health in the unit table, is
the model's reading (log 27). -/
def Obligations.ConnectedReportOpensASession : Prop :=
  let next (n : Nat) : Nat := if n < 65535 then n + 1 else 1
  let opened (u : State) (p : Nat) (e : PortEntry) (t : State) : Prop :=
    let record := u.sessions.record p
    let demand := match record.acceptance with
      | some a => if a ≤ 0 then 0 else min ((a.toNat + 99) / 100) e.ratedMax
      | none => 0
    let island := decide (u.balance.record.siteState = .island ∨ u.balance.record.siteState = .restoring)
    let lost := decide ((u.field.unit p).health = .lost)
    let free := !(island || record.fault || lost)
    ∃ n k, k ≤ 48 ∧ n = next^[k] u.sessions.counter ∧ u.sessions.find n = none ∧
      (∀ j, j < k → (u.sessions.find (next^[j] u.sessions.counter)).isSome = true) ∧
      let x : Session :=
        { number := n, port := p, state := .plugged
          holds := { island := island, siteHold := false, fault := record.fault, chargerLost := lost }
          customer := none, authorizer := none, slot := none, created := u.siteTime, authorized := none, ended := none
          departure := none, demand := demand, effMin := min e.minimum demand, allocation := 0, highest := 0, deferral := 0
          cls := .normal, meterStart := none, total := 0, solarAcc := 0, batteryAcc := 0, idle := 0, links := []
          flags := { clamped := false, estimated := false, timeUnset := !u.links.clock.isSet, gridLost := false
                     chargerLost := false, stopped := false }
          authorizationTimer := some (u.runTime + 1000 * u.sessions.authorizationTimeout), dormantTimer := none
          closingTimer := none, nextIdle := none, final := none, handedOver := false }
      let holding (y : Session) : State := { u with
        links := u.links.raise .sessionChange n
        sessions := { u.sessions.withPortState p .inSession with table := u.sessions.table ++ [y], counter := next n }
        events := { u.events with
          chargerTargets := u.events.chargerTargets ++ [{ port := p, mode := .pause, setpoint := 0 }] } }
      (e.freeVend = false ∨ u.store.active = none → t = holding x) ∧
      (∀ slot, e.freeVend = true → u.store.active = some slot →
        let y : Session := { x with
          authorizer := some .free, slot := some slot, meterStart := (u.metering.meter p).last, authorized := some u.siteTime
          authorizationTimer := none, state := if free then .active else .held
          flags := { x.flags with gridLost := island, chargerLost := lost }
          dormantTimer := if free = true ∧ demand = 0 then some (u.runTime + 1000 * u.sessions.dormantDelay) else none }
        t = { holding y with
          links := (u.links.raise .sessionChange n).raise .sessionChange n
          store := u.store.setSlot slot { u.store.slot slot with uses := (u.store.slot slot).uses + 1 }
          events := { (holding y).events with
            earlyRequests := u.events.earlyRequests + if free = true ∧ 0 < demand then 1 else 0 } })
  (∀ (s : State) (r : ChargerReport) (rest : List ChargerReport) (e : PortEntry), s.TableWf →
    takeFirst (fun q => q.port == r.port) s.events.chargerReports = some (r, rest) → 1 ≤ r.port → r.port ≤ 32 →
    s.sessions.entry r.port = some e → s.sessions.holder r.port = none →
    let p := r.port
    let state := (s.sessions.record p).state
    let u := s.reportTaken r rest
    let run := exec (.chargerReport p) s
    let becomes (st : PortState) (waiting : List Nat) (links : LinkController) : State := { u with
      links := links
      sessions := { u.sessions.withPortState p st with waiting := waiting }
      events := { u.events with
        chargerTargets := s.events.chargerTargets ++ [{ port := p, mode := .lockout, setpoint := 0 }] } }
    (state = some .free → r.connected = true →
      (s.sessions.table.length < 48 → ∃ t, run = .next t.settle ∧ opened u p e t) ∧
      (48 ≤ s.sessions.table.length →
        run = .next (becomes .waiting (s.sessions.waiting ++ [p]) (u.links.raise .tableFull p)).settle)) ∧
    (state = some .waiting → r.connected = false →
      run = .next (becomes .free (s.sessions.waiting.filter fun q => q != p) u.links).settle) ∧
    (state = some .blocked → r.connected = false → run = .next (becomes .free s.sessions.waiting u.links).settle) ∧
    (state = some .free ∧ r.connected = false ∨ (state = some .waiting ∨ state = some .blocked) ∧ r.connected = true →
      run = .next u.settle)) ∧
  ∀ (s : State), s.TableWf →
    (s.sessions.waiting = [] → s.serveWaiting = s) ∧
    ∀ p rest e, s.sessions.waiting = p :: rest → s.sessions.table.length < 48 → s.sessions.entry p = some e →
      opened { s with sessions := { s.sessions with waiting := rest } } p e s.serveWaiting

/-- R5, R11, R12, R15, R19 to R21, R113: a charger report at a port that a session holds, and the end of the session. The
report's acceptance, fault and demand come first: FAULT is added to the hold set or removed from it, the demand follows in
every state, and a demand above 0 ends DORMANT. Then a disconnect removes a session in PLUGGED, its entry serving the wait
list; a disconnect is the final report of one in ACTIVE, DORMANT or HELD, and in CLOSING without a final report a disconnect
or a power of 0 is. When the reading of the final report has been applied already, the closing completes with the report, and
the port's only new target is LOCKOUT. Otherwise a closing completes when the reading of its final report has been applied,
or when its timer runs out: the end time is now, the session is handed over and its port released, FREE only when the final
report showed the vehicle gone; the timer makes it ESTIMATED and its port BLOCKED.
That the timer expires by its command, that reports are told apart by their numbers, and that a session handed over is still
in CLOSING are the model's choices (logs 3, 8 and 9), and so is that the fault of a report comes before its demand (log 48).
Its readings of the rules are these: the hold set is kept when a disconnect takes the session to CLOSING (log 28), a
connected report is final at a power of exactly 0 and not at a negative one (log 31), and LOCKOUT alone is sent when the
session passes through HELD on the same report (log 43). -/
def Obligations.ClosingCompletesAtTheFinalReading : Prop :=
  (∀ (s : State) (x : Session), s.TableWf → s.sessions.holder x.port = some x → x.state = .closing → 1 ≤ x.port →
     x.port ≤ 32 →
     let closed (t : State) (estimated connected : Bool) (events : Events) : Prop :=
       t = { s with
         runTime := t.runTime
         links := s.links.settle
         sessions := { s.sessions with table := t.sessions.table, records := t.sessions.records }
         events := { events with
           chargerTargets := events.chargerTargets ++ [{ port := x.port, mode := .lockout, setpoint := 0 }]
           handOvers := events.handOvers ++ [x.number] } } ∧
       t.sessions.table = (s.sessions.update x.number fun _ => { x with
         ended := some s.siteTime, closingTimer := none, handedOver := true,
         flags := { x.flags with timeUnset := x.flags.timeUnset || !s.links.clock.isSet
                                 estimated := x.flags.estimated || estimated } }).table ∧
       (t.sessions.record x.port).state = some (if connected then .blocked else .free) ∧
       (∀ p, p ≠ x.port → t.sessions.record p = s.sessions.record p) ∧
       t.sessions.holder x.port = none
     (∀ (f : FinalReport) (r : ReadingApplied) (rest : List ReadingApplied), x.final = some f → f.report ≤ r.report →
       takeFirst (fun q => q.port == x.port) s.events.readingsApplied = some (r, rest) →
       ((s.sessions.table.filter Session.holdsPort).map Session.port).Nodup →
       ∃ t, exec (.readingApplied x.port) s = .next t ∧ t.runTime = s.runTime ∧
         closed t (!f.hasReading) f.connected { s.events with readingsApplied := rest }) ∧
     (∀ expiry, x.closingTimer = some expiry →
       ((s.sessions.table.filter Session.holdsPort).map Session.port).Nodup →
       ∃ t, exec (.closingTimeout x.number) s = .next t ∧ t.runTime = max s.runTime expiry ∧ closed t true true s.events)) ∧
  ∀ (s : State) (r : ChargerReport) (rest : List ChargerReport) (e : PortEntry) (x : Session), s.TableWf →
    takeFirst (fun q => q.port == r.port) s.events.chargerReports = some (r, rest) → 1 ≤ r.port → r.port ≤ 32 →
    s.sessions.entry r.port = some e → s.sessions.holder r.port = some x →
    (s.sessions.record r.port).state = some .inSession → x.HandedWf →
    let p := r.port
    let n := x.number
    let run := exec (.chargerReport p) s
    let demand := if r.acceptance ≤ 0 then 0 else min ((r.acceptance.toNat + 99) / 100) e.ratedMax
    let faulted : Session :=
      if x.state = .closing then x
      else if r.fault = true then { x with
        holds := { x.holds with fault := true }, state := if x.state = .plugged then .plugged else .held }
      else if x.state = .plugged then { x with holds := { x.holds with fault := false } }
      else if x.state = .held then { x with
        holds := { x.holds with fault := false }
        state := if x.holds.island ∨ x.holds.siteHold ∨ x.holds.chargerLost then .held
                 else if 0 < x.demand then .active else .dormant }
      else x
    let taken := s.reportTaken r rest
    let judged : State := if r.fault = (s.sessions.record p).fault then taken else taken.transition n fun _ => faulted
    let reported := judged.transition n fun y => { y with
      demand := demand, effMin := min e.minimum demand
      state := if y.state = .dormant ∧ 0 < demand then .active else y.state }
    let closing := reported.transition n fun y => { y with
      state := .closing, closingTimer := none
      final := some { report := r.report, connected := r.connected, hasReading := r.hasReading } }
    let charging : Prop := x.state = .active ∨ x.state = .dormant ∨ x.state = .held
    let isFinal : Prop := charging ∧ r.connected = false ∨
      x.state = .closing ∧ x.final = none ∧ (r.connected = false ∨ r.power = 0)
    let lockout : List ChargerTarget := s.events.chargerTargets ++ [{ port := p, mode := .lockout, setpoint := 0 }]
    (¬ isFinal → ¬ (x.state = .plugged ∧ r.connected = false) → run = .next reported.settle) ∧
    (isFinal → (∀ m, (s.sessions.record p).applied = some m → m < r.report) → run = .next closing.settle) ∧
    (isFinal → (∃ m, (s.sessions.record p).applied = some m ∧ r.report ≤ m) → run = .next ({ closing with
      sessions := (closing.sessions.update n fun y => { y with
        ended := some s.siteTime, closingTimer := none, handedOver := true
        flags := { y.flags with timeUnset := y.flags.timeUnset || !s.links.clock.isSet
                                estimated := y.flags.estimated || !r.hasReading } }).withPortState p
          (if r.connected then .blocked else .free)
      events := { closing.events with chargerTargets := lockout, handOvers := s.events.handOvers ++ [n] } }).settle) ∧
    (x.state = .plugged → r.connected = false → p ∉ s.sessions.waiting → run = .next (({ reported with
      links := reported.links.raise .sessionAbandoned n
      sessions := { reported.sessions.withPortState p .free with
        table := reported.sessions.table.filter fun y => y.number != n }
      events := { reported.events with chargerTargets := lockout } }).serveWaiting.settle))

/-- R11, R14: the timers of a session. An authorization timeout removes a PLUGGED session without a receipt and blocks its
port, and its entry serves the port wait list; a dormant timeout makes an ACTIVE session DORMANT; in DORMANT each whole
second adds an idle second.
That an expiry comes at its run time and only by its command is the model's choice (log 3). -/
def Obligations.SessionTimersExpire : Prop :=
  ∀ (s : State) (x : Session) (expiry : Nat), s.sessions.find x.number = some x →
    let abandoned : State := { s with
      runTime := max s.runTime expiry
      links := s.links.raise .sessionAbandoned x.number
      sessions := { s.sessions.withPortState x.port .blocked with
        table := s.sessions.table.filter fun y => y.number != x.number }
      events := { s.events with
        chargerTargets := s.events.chargerTargets ++ [{ port := x.port, mode := .lockout, setpoint := 0 }] } }
    (x.state = .plugged → x.authorizationTimer = some expiry →
      exec (.authorizationTimeout x.number) s = .next abandoned.serveWaiting.settle) ∧
    (x.state = .plugged → x.authorizationTimer = some expiry → s.sessions.waiting = [] → 1 ≤ x.port → x.port ≤ 32 →
      ∃ t, exec (.authorizationTimeout x.number) s = .next t ∧
        t = { s with
          runTime := max s.runTime expiry
          links := (s.links.raise .sessionAbandoned x.number).settle
          sessions := { s.sessions with table := t.sessions.table, records := t.sessions.records }
          events := { s.events with
            chargerTargets := s.events.chargerTargets ++ [{ port := x.port, mode := .lockout, setpoint := 0 }] } } ∧
        t.sessions.table = s.sessions.table.filter (fun y => y.number != x.number) ∧
        (t.sessions.record x.port).state = some .blocked ∧
        ∀ p, p ≠ x.port → t.sessions.record p = s.sessions.record p) ∧
    (x.state = .active → x.dormantTimer = some expiry →
      exec (.dormantTimeout x.number) s = .next (({ s with runTime := max s.runTime expiry }).transition x.number
        fun _ => { x with state := .dormant }).settle) ∧
    (x.state = .dormant → x.nextIdle = some expiry →
      exec (.idleSecondTick x.number) s = .next (({ s with
        runTime := max s.runTime expiry
        sessions := s.sessions.update x.number fun y => { y with
          idle := min (y.idle + 1) 4294967295, nextIdle := some (expiry + 1000) } }).settle))

/-- R13: an allocation result at the Session Controller. A session in ACTIVE on the port its entry names takes the entry's
allocation, count and class, and its highest allocation rises to it; an ACTIVE session without an entry gets 0; every other
session keeps its record. The allocator is told. For each session whose class becomes URGENT from another, in the order of
the entries, URGENT_SESSION is raised with its number, and nothing else is. -/
def Obligations.ResultIsAppliedEntryByEntry : Prop :=
  ∀ (s : State) (r : AllocationResult) (rest : List AllocatorMessage), s.events.allocatorMessages = .result r :: rest →
    (s.sessions.table.map Session.number).Nodup → (r.entries.map CandidateEntry.session).Nodup →
    ∃ t, exec .allocationResultSessions s = .next t ∧
      t = { s with
        links := ((r.entries.filter fun e => s.sessions.table.any fun x =>
          x.number == e.session && x.port == e.port && x.state == .active && x.cls != .urgent && e.cls == .urgent).foldl
            (fun c e => c.raise .urgentSession e.session) s.links).settle
        sessions := { s.sessions with table := t.sessions.table }
        events := { s.events with allocatorMessages := rest, resultsApplied := s.events.resultsApplied + 1 } } ∧
      t.sessions.table = s.sessions.table.map (fun x =>
        if x.state ≠ .active then x
        else match r.entries.find? fun e => e.session == x.number && e.port == x.port with
          | none => { x with allocation := 0 }
          | some e => { x with allocation := e.allocation, highest := max x.highest e.allocation, deferral := e.count,
                               cls := e.cls })

/-- R12, R14 to R16, R25: what the Session Controller makes of a change of site state and of a charger's change to or from
LOST, as the whole next state. Entry to ISLAND adds ISLAND, and NORMAL after RESTORING removes it, for every session of the
table; every other change of site state changes no session. A change of health adds or removes CHARGER_LOST for the session
that holds the port, in PLUGGED, ACTIVE, DORMANT, HELD and CLOSING, and changes nothing but the wait of its event at a port
that no session holds.
A reason added joins the set in PLUGGED, and takes ACTIVE and DORMANT to HELD with its flag; in CLOSING only the flag is set,
and only before the session is handed over (that a session handed over is in CLOSING still is the model's choice, log 9);
PRICING and WAIT_QUEUE stay as they are. A reason removed leaves the set in PLUGGED and HELD, and HELD ends for ACTIVE or
DORMANT with the last of them. Each session that leaves ACTIVE loses its allocation and its charger is sent PAUSE; each that
enters or leaves the candidate set makes an early-round request; each that changes its state raises SESSION_CHANGE with its
number; the dormant timer runs in ACTIVE with demand 0 only, and the first idle second comes a second after DORMANT began.
That the sessions are gone through in the order of the table is the model's choice (log 35), and so is that an event with
nothing waiting changes nothing (log 2). -/
def Obligations.HoldReasonsFollowTheSite : Prop :=
  ∀ (s : State), (s.sessions.table.map Session.number).Nodup →
    let added (reason : Holds → Holds) (flag : SessionFlags → SessionFlags) (x : Session) : Session :=
      if x.state = .plugged then { x with holds := reason x.holds }
      else if x.state = .active ∨ x.state = .dormant ∨ x.state = .held then
        { x with holds := reason x.holds, state := .held, flags := flag x.flags }
      else if x.state = .closing ∧ x.handedOver = false then { x with flags := flag x.flags }
      else x
    let removed (reason : Holds → Holds) (x : Session) : Session :=
      let left := reason x.holds
      if x.state = .plugged then { x with holds := left }
      else if x.state = .held then { x with
        holds := left
        state := if left.island ∨ left.siteHold ∨ left.fault ∨ left.chargerLost then .held
                 else if 0 < x.demand then .active else .dormant }
      else x
    let carried (x y : Session) : Session := { y with
      allocation := if y.state = .active then y.allocation else 0
      dormantTimer :=
        if y.state = .active ∧ y.demand = 0 then
          (if x.state = .active ∧ x.demand = 0 then x.dormantTimer else some (s.runTime + 1000 * s.sessions.dormantDelay))
        else none
      nextIdle :=
        if y.state = .dormant then (if x.state = .dormant then x.nextIdle else some (s.runTime + 1000)) else none }
    let candidate (x : Session) : Bool := x.state == .active && decide (0 < x.demand)
    let every (f : Session → Session) (rest : List SiteChange) : State :=
      let table := s.sessions.table
      { s with
        links := ((table.filter fun x => x.state != (f x).state).foldl (fun c x => c.raise .sessionChange x.number)
          s.links).settle
        sessions := { s.sessions with table := table.map fun x => carried x (f x) }
        events := { s.events with
          siteToSessions := rest
          chargerTargets := s.events.chargerTargets ++
            ((table.filter fun x => x.state == .active && (f x).state != .active).map fun x =>
              { port := x.port, mode := .pause, setpoint := 0 })
          earlyRequests := s.events.earlyRequests + (table.filter fun x => candidate x != candidate (f x)).length } }
    (s.events.siteToSessions = [] → exec .siteStateChangeSessions s = .next s) ∧
    (∀ (c : SiteChange) (rest : List SiteChange), s.events.siteToSessions = c :: rest →
      exec .siteStateChangeSessions s = .next
        (if c.after = .island then
          every (added (fun h => { h with island := true }) fun f => { f with gridLost := true }) rest
        else if c.before = .restoring ∧ c.after = .normal then every (removed fun h => { h with island := false }) rest
        else { s with links := s.links.settle, events := { s.events with siteToSessions := rest } })) ∧
    (∀ p, takeFirst (fun q => q.unit == p) s.events.chargerHealth = none → exec (.chargerHealthChange p) s = .next s) ∧
    ∀ (h : HealthChange) (rest : List HealthChange),
      takeFirst (fun q => q.unit == h.unit) s.events.chargerHealth = some (h, rest) →
      let taken : State := { s with events := { s.events with chargerHealth := rest } }
      (s.sessions.holder h.unit = none → exec (.chargerHealthChange h.unit) s = .next taken.settle) ∧
      ∀ x, s.sessions.holder h.unit = some x →
        exec (.chargerHealthChange h.unit) s = .next ((taken.transition x.number fun _ =>
          if h.after = .lost then added (fun k => { k with chargerLost := true }) (fun f => { f with chargerLost := true }) x
          else removed (fun k => { k with chargerLost := false }) x).settle)

/-- R10, R130: an activation authorizes every free-vend session in PLUGGED against the active slot, whose use count rises
by their number; every other session keeps its record. Without an active slot the event is taken and nothing else happens.
That an authorization without a request removes a departure time that SET_DEPARTURE stored is the model's choice (log 33). -/
def Obligations.ActivationAuthorizesFreeVendSessions : Prop :=
  ∀ (s : State) (k : Nat) (rest : List Nat), s.events.activations = k :: rest →
    (s.store.active = none → exec .activationEvent s = .next ({ s with events := { s.events with
      activations := rest } }.settle)) ∧
    ∀ slot, (s.sessions.table.map Session.number).Nodup → slot < 8 → s.store.active = some slot →
    let freeVend (x : Session) : Bool :=
      decide (x.state = .plugged ∧ (s.sessions.entry x.port).map PortEntry.freeVend = some true)
    ∃ t, exec .activationEvent s = .next t ∧
      t = { s with links := t.links
                   sessions := { s.sessions with table := t.sessions.table }
                   store := { s.store with slots := t.store.slots }
                   events := { s.events with
                     activations := rest
                     earlyRequests := t.events.earlyRequests } } ∧
      (∀ j, t.store.slot j = if j = slot then { s.store.slot slot with
        uses := (s.store.slot slot).uses + (s.sessions.table.filter freeVend).length } else s.store.slot j) ∧
      t.sessions.table.map Session.number = s.sessions.table.map Session.number ∧
      ∀ x ∈ s.sessions.table, (freeVend x = false → x ∈ t.sessions.table) ∧
        (freeVend x = true → ∃ y ∈ t.sessions.table, y.number = x.number ∧ y.authorizer = some .free ∧
          y.slot = some slot ∧ y.customer = none ∧ y.departure = none ∧ y.authorized = some s.siteTime ∧
          y.authorizationTimer = none ∧ y.meterStart = (s.metering.meter x.port).last ∧ y.holds = x.holds ∧
          y.state = if x.holds.isEmpty then .active else .held)

/-! ### The site balance (chapter 2) -/

/-- R31, R40, R42 to R46: every field of a computed balance record, from the settings, the records and the health of the
chargers as they stand. The phantom total is the sum of the reservations over all ports, and each feeder's sum that over the
ports configured on it; a stale store meter counts with the store peak, a stale inverter with 0. STORE_STALE, PV_PARTIAL,
BATTERY_STALE and GRID_STALE show a stale record, of an inverter or battery that is present; STORE_OVERLOAD shows a B_W below
0 in NORMAL, IMPORT_OVERRUN the overrun.
That LOST is read from the unit table, before the change is taken, is the model's choice (log 34). -/
def Obligations.BudgetAndMixAreComputed : Prop :=
  ∀ (f : FieldLinkController) (c : SessionController) (b : SiteBalanceUnit),
    let r := balanceOf f c b
    let store : Int := if b.store.fresh then (b.store.value.getD (b.settings.storePeak * 1000) : Nat)
      else b.settings.storePeak * 1000
    let canopy (g : InverterValues → Nat) : Nat := ([1, 2, 3, 4].map fun k =>
      match (b.inverter k).fresh, (b.inverter k).value with
      | true, some v => g v
      | _, _ => 0).sum
    let pc := ((portNumbers.filter fun p => (c.entry p).isSome && !((f.unit p).health == .lost)).map fun p =>
      nth b.chargers 0 p).sum
    let pdis : Nat := match b.battery.fresh, b.battery.value with
      | true, some v => (max 0 v.power).toNat
      | _, _ => 0
    let solar := min (canopy InverterValues.output) pc
    let battery := min pdis (pc - solar)
    let reserved (p : Nat) : Nat := match b.phantom p with
      | none => 0
      | some k => k.current
    r.siteState = b.siteState ∧
    r.storeEff = store ∧ r.pvEff = canopy InverterValues.available ∧ r.batteryEff = b.allowance ∧
    r.phantomTotal = (portNumbers.map reserved).sum ∧
    (∀ k, 1 ≤ k → k ≤ 4 → nth r.phantomFeeder 0 k =
      ((portNumbers.filter fun p => (c.entry p).map PortEntry.feeder == some k).map reserved).sum) ∧
    r.flags = {
      storeStale := !b.store.fresh
      pvPartial := [1, 2, 3, 4].any fun k => (f.unit (34 + k)).present && !(b.inverter k).fresh
      batteryStale := (f.unit 39).present && !b.battery.fresh
      gridStale := !b.grid.fresh
      storeOverload := b.siteState == .normal && decide (r.budgetW < 0)
      importOverrun := b.overrun } ∧
    r.budgetW = ((b.settings.importLimit : Int) - b.settings.margin) * 1000 - store + canopy InverterValues.available +
      b.allowance ∧
    (b.siteState = .normal → (r.budget : Int) = max 0 (min 8000 (r.budgetW / 100 - r.phantomTotal))) ∧
    (b.siteState ≠ .normal → r.budget = 0) ∧
    (pc = 0 → r.mix = { solar := 0, battery := 0, grid := 1024 }) ∧
    (0 < pc → r.mix.solar = 1024 * solar / pc ∧ r.mix.battery = 1024 * battery / pc) ∧
    r.mix.solar + r.mix.battery + r.mix.grid = 1024

/-- R29, R43, R46, R74: a report replaces the record of its unit as a whole, fresh from now on, within the bounds of R29;
every other record stays, and the balance record is computed from the new values. What a grid and a store report make of the
site state is the next statement. A charger, an inverter and a battery report leave the site state, raise STORE_OVERLOAD when
its flag rises and nothing else, and send nothing but the battery's change to fresh.
That the balance record after a grid report is computed with the overrun of that same report is the model's
choice (log 44). -/
def Obligations.ReportReplacesItsRecord : Prop :=
  ∀ (s : State) (r : Report) (rest : List Report),
    takeFirst (fun q => q.unit == r.unit) s.events.reports = some (r, rest) →
    let fresh {α : Type} (v : α) : Measurement α :=
      { value := some v, arrival := some s.runTime, fresh := true, timer := some (s.runTime + 1000 * s.balance.staleTime) }
    let quiet (t : State) (b : SiteBalanceUnit) (sent : List Bool) : Prop :=
      t = { s with
        links := (if s.balance.record.flags.storeOverload = false ∧ t.balance.record.flags.storeOverload = true
          then s.links.raise .storeOverload (-t.balance.record.budgetW).toNat else s.links).settle
        balance := { b with record := t.balance.record }
        events := { s.events with reports := rest, freshness := s.events.freshness ++ sent } }
    ∃ t, exec (.reportArrival r.unit) s = .next t ∧
      t = { s with links := t.links, balance := t.balance, events := t.events } ∧ t.events.reports = rest ∧
      t.balance.record = balanceOf s.field s.sessions t.balance ∧ t.balance.settings = s.balance.settings ∧
      t.balance.phantoms = s.balance.phantoms ∧ t.balance.allowance = s.balance.allowance ∧
      (∀ power, r.values = .charger power → 1 ≤ r.unit → r.unit ≤ 32 →
        quiet t { s.balance with chargers := t.balance.chargers } [] ∧
        ∀ p, nth t.balance.chargers 0 p = if p = r.unit then power.toNat else nth s.balance.chargers 0 p) ∧
      (∀ power present, r.values = .grid power present → t.balance = { s.balance with
        grid := fresh { power := power, present := present }
        siteState := t.balance.siteState, restoreTimer := t.balance.restoreTimer, overrun := t.balance.overrun
        record := t.balance.record }) ∧
      (∀ load, r.values = .store load → t.balance = { s.balance with
        store := fresh load.toNat
        siteState := t.balance.siteState, restoreTimer := t.balance.restoreTimer, record := t.balance.record }) ∧
      (∀ output available curtailed, r.values = .inverter output available curtailed → 35 ≤ r.unit → r.unit ≤ 38 →
        quiet t { s.balance with inverters := t.balance.inverters } [] ∧
        ∀ k, t.balance.inverter k = if k = r.unit - 34
          then fresh { output := output.toNat, available := max available.toNat output.toNat, curtailed := curtailed }
          else s.balance.inverter k) ∧
      (∀ soc power maxCharge maxDischarge state, r.values = .battery soc power maxCharge maxDischarge state →
        quiet t { s.balance with battery := fresh { soc := min soc 1000, power := power, maxCharge := maxCharge.toNat,
                                                    maxDischarge := maxDischarge.toNat, state := state } }
          (if s.balance.battery.fresh then [] else [true]))

/-- R33 to R36, R43, R45: what a grid report makes of the site state, whom it tells, and the overrun; and what a store report
makes of it, which ends STARTING when the grid has been reported present. A grid report raises GRID_LOST at each entry to
ISLAND and IMPORT_OVERRUN at each overrun, and either report STORE_OVERLOAD when its flag rises, in the state before the
change or at an entry to NORMAL.
That the record shows IMPORT_OVERRUN as the overrun check of the same report leaves it, because the record is recomputed
once more after the check, is the model's choice (log 44). -/
def Obligations.GridReportDrivesTheSiteState : Prop :=
  ∀ (s : State) (u : Nat),
    let old := s.balance.siteState
    let overload (c : LinkController) (rises : Bool) (w : Int) : LinkController :=
      if rises = true ∧ w < 0 then c.raise .storeOverload (-w).toNat else c
    let wasNormal := old == .normal && !s.balance.record.flags.storeOverload
    let becomesNormal (new : SiteState) : Bool := old != .normal && new == .normal
    (∀ (power : Int) (present : Bool) (rest : List Report),
      takeFirst (fun q => q.unit == u) s.events.reports = some ({ unit := u, values := .grid power present }, rest) →
      let new : SiteState := match old, present with
        | .starting, false => .island
        | .starting, true => if s.balance.store.value.isSome then .normal else .starting
        | .normal, false => .island
        | .restoring, false => .island
        | .island, true => .restoring
        | x, _ => x
      let sent : List SiteChange := if new = old then [] else [{ before := old, after := new }]
      let overrun : Bool := decide (present = true ∧ (s.balance.settings.importLimit : Int) * 1000 < power)
      ∃ t, exec (.reportArrival u) s = .next t ∧ t.balance.siteState = new ∧ t.balance.record.siteState = new ∧
        t.balance.restoreTimer = (if new = old then s.balance.restoreTimer
          else if new = .restoring then some (s.runTime + 1000 * s.balance.restoreDelay) else none) ∧
        t.balance.overrun = overrun ∧ t.balance.record.flags.importOverrun = overrun ∧
        (let w := t.balance.record.budgetW
         let c := overload s.links wasNormal w
         let c := if new = .island ∧ old ≠ .island then c.raise .gridLost s.siteTime else c
         let c := overload c (becomesNormal new) w
         t.links = (if overrun then c.raise .importOverrun power.toNat else c).settle) ∧
        t.events = { s.events with
          reports := rest
          siteToSessions := s.events.siteToSessions ++ sent
          siteToDispatch := s.events.siteToDispatch ++ sent
          siteToStore := s.events.siteToStore ++ sent
          earlyRequests := s.events.earlyRequests + if overrun then 1 else 0 }) ∧
    ∀ (load : Int) (rest : List Report),
      takeFirst (fun q => q.unit == u) s.events.reports = some ({ unit := u, values := .store load }, rest) →
      let new : SiteState := if old = .starting ∧ s.balance.grid.value.map GridValues.present = some true then .normal
        else old
      let sent : List SiteChange := if new = old then [] else [{ before := old, after := new }]
      ∃ t, exec (.reportArrival u) s = .next t ∧ t.balance.siteState = new ∧ t.balance.record.siteState = new ∧
        t.balance.restoreTimer = (if new = old then s.balance.restoreTimer else none) ∧
        t.links = (overload (overload s.links wasNormal t.balance.record.budgetW) (becomesNormal new)
          t.balance.record.budgetW).settle ∧
        t.events = { s.events with
          reports := rest
          siteToSessions := s.events.siteToSessions ++ sent
          siteToDispatch := s.events.siteToDispatch ++ sent
          siteToStore := s.events.siteToStore ++ sent }

/-- R30, R35, R38, R39, R43, R45, R74, R76, R98: the other events at the Site Balance Unit. A record whose stale timer
expires or whose unit becomes LOST is stale and keeps its values; a stale grid record ends the overrun, and a battery record
that was fresh is reported stale to the Battery Dispatch Unit. A LOST charger reserves its delivered setpoint, until the
fallback hold expires or the charger answers; the restore timer ends RESTORING with GRID_BACK; a published allowance becomes
P_bd.
Each recomputes the balance record, and raises STORE_OVERLOAD when its flag rises.
The timers expire by their commands only (log 3). -/
def Obligations.BalanceEventsActAndRecompute : Prop :=
  ∀ (s : State),
    let f := s.field
    let c := s.sessions
    let alarm (c : LinkController) (t : State) : LinkController :=
      (if s.balance.record.flags.storeOverload = false ∧ t.balance.record.flags.storeOverload = true
        then c.raise .storeOverload (-t.balance.record.budgetW).toNat else c).settle
    let stale (u now : Nat) (e : Events) (t : State) : Prop :=
      t = { s with
        runTime := now
        links := alarm s.links t
        balance := { s.balance with
          grid := if u = 33 then { s.balance.grid with fresh := false, timer := none } else s.balance.grid
          overrun := if u = 33 then false else s.balance.overrun
          store := if u = 34 then { s.balance.store with fresh := false, timer := none } else s.balance.store
          inverters := t.balance.inverters
          battery := if u = 39 then { s.balance.battery with fresh := false, timer := none } else s.balance.battery
          record := t.balance.record }
        events := { e with
          freshness := e.freshness ++ if u = 39 ∧ s.balance.battery.fresh = true then [false] else [] } } ∧
      (∀ k, t.balance.inverter k = if 1 ≤ k ∧ k ≤ 4 ∧ u = 34 + k
        then { s.balance.inverter k with fresh := false, timer := none } else s.balance.inverter k) ∧
      t.balance.record = balanceOf f c t.balance
    (∀ u expiry, (u = 33 ∧ s.balance.grid.timer = some expiry) ∨ (u = 34 ∧ s.balance.store.timer = some expiry) ∨
        (35 ≤ u ∧ u ≤ 38 ∧ (s.balance.inverter (u - 34)).timer = some expiry) ∨
        (u = 39 ∧ s.balance.battery.timer = some expiry) →
      ∃ t, exec (.staleTimerExpiry u) s = .next t ∧ stale u (max s.runTime expiry) s.events t) ∧
    (∀ (h : HealthChange) (rest : List HealthChange), 33 ≤ h.unit → h.unit ≤ 39 →
      takeFirst (fun q => q.unit == h.unit) s.events.unitHealth = some (h, rest) →
      ∃ t, exec (.unitHealthChange h.unit) s = .next t ∧
        (h.after = .lost → stale h.unit s.runTime { s.events with unitHealth := rest } t) ∧
        (h.after ≠ .lost → t = { s with links := alarm s.links t, events := { s.events with unitHealth := rest }
                                        balance := { s.balance with record := balanceOf f c s.balance } })) ∧
    (∀ (h : HealthChange) (rest : List HealthChange), 1 ≤ h.unit → h.unit ≤ 32 →
      takeFirst (fun q => q.unit == h.unit) s.events.unitHealth = some (h, rest) →
      ∃ t, exec (.unitHealthChange h.unit) s = .next t ∧
        t = { s with links := alarm s.links t, events := { s.events with unitHealth := rest }, balance := { s.balance with
          phantoms := t.balance.phantoms, record := t.balance.record } } ∧
        t.balance.record = balanceOf f c t.balance ∧
        ∀ p, t.balance.phantom p = if p ≠ h.unit then s.balance.phantom p
          else if h.after = .lost then some { start := f.deliveredSetpoint p, current := f.deliveredSetpoint p,
                                              timer := some (s.runTime + 1000 * s.balance.fallbackHold) }
          else if h.before = .lost then none else s.balance.phantom p) ∧
    (∀ p (r : Phantom) expiry, 1 ≤ p → p ≤ 32 → s.balance.phantom p = some r → r.timer = some expiry →
      ∃ t, exec (.fallbackHoldExpiry p) s = .next t ∧
        t = { s with runTime := max s.runTime expiry, links := alarm s.links t, balance := { s.balance with
          phantoms := t.balance.phantoms, record := t.balance.record } } ∧
        t.balance.record = balanceOf f c t.balance ∧
        ∀ q, t.balance.phantom q = if q = p
          then some { start := r.start, current := min s.balance.settings.fallback r.start, timer := none }
          else s.balance.phantom q) ∧
    (∀ expiry, s.balance.siteState = .restoring → s.balance.restoreTimer = some expiry →
      ∃ t, exec .restoreTimerExpiry s = .next t ∧
        t = { s with runTime := max s.runTime expiry, links := alarm (s.links.raise .gridBack s.siteTime) t
                     balance := { s.balance with siteState := .normal, restoreTimer := none, record := t.balance.record }
                     events := { s.events with
                       siteToSessions := s.events.siteToSessions ++ [{ before := .restoring, after := .normal }]
                       siteToDispatch := s.events.siteToDispatch ++ [{ before := .restoring, after := .normal }]
                       siteToStore := s.events.siteToStore ++ [{ before := .restoring, after := .normal }] } } ∧
        t.balance.record = balanceOf f c t.balance) ∧
    (∀ w rest, s.events.allowances = w :: rest → ∃ t, exec .dischargeAllowanceChange s = .next t ∧
      t = { s with links := alarm s.links t, events := { s.events with allowances := rest }
                   balance := { s.balance with allowance := w, record := t.balance.record } } ∧
      t.balance.record = balanceOf f c t.balance)

/-! ### Power allocation (chapter 3) -/

/-- R51 to R54, R64: when a round is taken and when a request waits. A round publishes its result to three blocks and starts
the period timer again; a request less than 250 ms after the last round, or while a result is not applied, is pending.
The timers expire by their commands only (log 3); the feeders and the port targets stand in the result in the order of their
numbers, which is the model's choice (log 45). -/
def Obligations.RoundsAreTakenAndSpaced : Prop :=
  ∀ (s : State),
    let a := s.allocator
    let result := roundResult s.sessions a s.balance.record
    let round (now : Nat) (e : Events) : State := { s with
      runTime := now
      links := s.links.settle
      allocator := { a with round := result.round, lastRun := some now, periodTimer := some (now + 1000 * a.period),
                            pending := false, spacing := none, last := some result, applied := false }
      events := { e with allocatorMessages := e.allocatorMessages ++ [.result result]
                         resultsToField := e.resultsToField ++ [result]
                         resultsToDispatch := e.resultsToDispatch ++ [result] } }
    let waits (now : Nat) (x : PowerAllocator) (e : Events) : State :=
      { s with runTime := now, links := s.links.settle, allocator := x, events := e }
    let early (t : Nat) : Prop := a.lastRun = some t ∧ s.runTime < t + 250
    (∀ n, s.events.earlyRequests = n + 1 →
      let e : Events := { s.events with earlyRequests := n }
      let run := exec .earlyRequest s
      (s.links.part = .setup ∨ a.pending = true → run = .next (waits s.runTime a e)) ∧
      (s.links.part = .live → a.pending = false →
        (∀ t, early t → run = .next (waits s.runTime { a with pending := true, spacing := some (t + 250) } e)) ∧
        ((∀ t, ¬ early t) → a.applied = false → run = .next (waits s.runTime { a with pending := true } e)) ∧
        ((∀ t, ¬ early t) → a.applied = true → run = .next (round s.runTime e)))) ∧
    (∀ expiry, a.periodTimer = some expiry →
      (a.applied = true → exec .roundPeriodExpiry s = .next (round (max s.runTime expiry) s.events)) ∧
      (a.applied = false → exec .roundPeriodExpiry s =
        .next (waits (max s.runTime expiry) { a with periodTimer := none, pending := true } s.events))) ∧
    (∀ expiry, a.spacing = some expiry →
      (a.applied = true → exec .spacingTimerExpiry s = .next (round (max s.runTime expiry) s.events)) ∧
      (a.applied = false → exec .spacingTimerExpiry s =
        .next (waits (max s.runTime expiry) { a with spacing := none, pending := true } s.events))) ∧
    ∀ n, s.events.resultsApplied = n + 1 →
      let e : Events := { s.events with resultsApplied := n }
      (a.pending = false → exec .resultApplied s = .next (waits s.runTime { a with applied := true } e)) ∧
      (a.pending = true → (∀ t, early t → exec .resultApplied s =
        .next (waits s.runTime { a with applied := true, spacing := some (t + 250) } e)) ∧
        ((∀ t, ¬ early t) → exec .resultApplied s = .next (round s.runTime e)))

/-- R49, R54, R55, R57 to R60, R64, R65: a round spends no more than the budget, on no feeder more than its room, which is
its cap less the phantom reservations of the record on it; a candidate gets nothing or at least its effective minimum and at
most its demand; the totals add up. The candidates are the sessions in ACTIVE with a demand, in admission order, and one is
admitted exactly when its minimum fits beside those admitted before it, in the budget and in its feeder's room. The result
has the next round number, the site state, the budget and the phantom total of the record, an entry for each candidate, the
counts of the deferred and of the urgent, and a target for each present port: the session that holds it, with its allocation
or 0.
That the configured feeders and the port targets stand in the order of their numbers is the model's choice (log 45), and so is
that a round without candidates leaves its whole budget unspent (log 49). -/
def Obligations.RoundStaysWithinItsBounds : Prop :=
  ∀ (c : SessionController) (a : PowerAllocator) (r : BalanceRecord), (c.table.map Session.number).Nodup →
    let res := roundResult c a r
    let xs := allocateAll c a r
    let order := admissionOrder ((c.table.filter fun x => x.state == .active && decide (0 < x.demand)).map (candidateOf c a))
    let room (k : Nat) : Int := match nth a.feeders none k with
      | none => 0
      | some cap => (cap : Int) - nth r.phantomFeeder 0 k
    res.total ≤ r.budget ∧ res.unspent + res.total = r.budget ∧
    res.total = (res.entries.map CandidateEntry.allocation).sum ∧
    (res.feeders.map fun f => (f.feeder, f.room)) = [1, 2, 3, 4].filterMap (fun k =>
      (nth a.feeders none k).map fun cap => (k, (cap : Int) - nth r.phantomFeeder 0 k)) ∧
    (∀ f ∈ res.feeders, (f.allocated : Int) ≤ max 0 f.room ∧
      f.allocated = ((res.entries.filter fun e => (c.entry e.port).map PortEntry.feeder == some f.feeder).map
        CandidateEntry.allocation).sum) ∧
    (∀ x ∈ c.table, let y := candidateOf c a x
      y.session = x.number ∧ y.port = x.port ∧ y.demand = x.demand ∧ ∀ p, c.entry x.port = some p →
        y.feeder = p.feeder ∧ y.minimum = min p.minimum x.demand) ∧
    (xs.map fun x => { x with admitted := false, allocation := 0 }) = order ∧ res.entries = xs.map (entryOf r.siteState a) ∧
    (∀ before x after, xs = before ++ x :: after →
      let taken := before.filter Candidate.admitted
      (x.admitted = true ↔ (taken.map Candidate.minimum).sum + x.minimum ≤ r.budget ∧
        ((((taken.filter fun y => y.feeder == x.feeder).map Candidate.minimum).sum + x.minimum : Nat) : Int) ≤
          room x.feeder)) ∧
    res.round = (if a.round + 1 < 4294967296 then a.round + 1 else 1) ∧
    res.siteState = r.siteState ∧ res.budget = r.budget ∧ res.phantomTotal = r.phantomTotal ∧
    res.deferred = (res.entries.filter fun e => !e.admitted).length ∧
    res.urgent = (res.entries.filter fun e => e.cls == .urgent).length ∧
    res.targets = ((portNumbers.filter fun p => (c.entry p).isSome).map fun p => match c.holder p with
      | none => { port := p, session := none, setpoint := 0 }
      | some x => { port := p, session := some x.number
                    setpoint := ((res.entries.find? fun e => e.session == x.number).map CandidateEntry.allocation).getD 0 }) ∧
    ∀ e ∈ res.entries, ∃ x ∈ c.table, x.number = e.session ∧ x.port = e.port ∧ x.state = .active ∧
      (e.admitted = false → e.allocation = 0) ∧
      (e.admitted = true → e.allocation ≤ x.demand ∧ ∀ p, c.entry x.port = some p → min p.minimum x.demand ≤ e.allocation)

/-- R49, R59: the pool is dealt until it is spent or no admitted candidate can take a credit, and evenly: of two admitted
candidates on one feeder, one that was dealt a credit is at most one credit ahead of one that wants more. Who is admitted
says the statement before. -/
def Obligations.DealingIsMaximalAndEven : Prop :=
  ∀ (c : SessionController) (a : PowerAllocator) (r : BalanceRecord), (c.table.map Session.number).Nodup →
    let xs := allocateAll c a r
    let room (k : Nat) : Int := match nth a.feeders none k with
      | none => 0
      | some cap => (cap : Int) - nth r.phantomFeeder 0 k
    (allocated xs = r.budget ∨ ∀ x ∈ xs, x.admitted = true →
      x.allocation = x.demand ∨ room x.feeder ≤ allocatedOn x.feeder xs) ∧
    ∀ x ∈ xs, ∀ y ∈ xs, x.admitted = true → y.admitted = true → x.feeder = y.feeder → y.minimum < y.allocation →
      x.allocation + 1 < y.allocation → x.allocation = x.demand

/-- R56: the admission order is an order of the same candidates, and each stands before the next by the keys of R56: class,
deferral count, departure time, session number. The class is the one the recorded count and the watermarks give. -/
def Obligations.AdmissionOrderIsSorted : Prop :=
  (∀ (c : SessionController) (a : PowerAllocator) (x : Session),
    let y := candidateOf c a x
    y.session = x.number ∧ y.count = x.deferral ∧ y.departure = x.departure ∧
      y.cls = if a.urgent ≤ x.deferral then .urgent else if a.high ≤ x.deferral then .high else .normal) ∧
  ∀ (xs : List Candidate), (xs.map Candidate.session).Nodup →
    let departs (x : Candidate) : Nat × Nat := match x.departure with
      | some d => (0, d)
      | none => (1, 0)
    (admissionOrder xs).Perm xs ∧
    (admissionOrder xs).Pairwise fun x y =>
      x.cls.rank < y.cls.rank ∨ (x.cls.rank = y.cls.rank ∧ (y.count < x.count ∨ (x.count = y.count ∧
        ((departs x).1 < (departs y).1 ∨ ((departs x).1 = (departs y).1 ∧ ((departs x).2 < (departs y).2 ∨
          ((departs x).2 = (departs y).2 ∧ x.session < y.session)))))))

/-- R61 to R64: the deferral count and the class of an entry. In NORMAL a deferred candidate counts up to 15, one granted
its whole demand counts down to 0, any other keeps its count, and so does every one outside NORMAL. New watermarks at the
Session Controller classify every session again from its count, and nothing else of it changes; URGENT_SESSION is raised for
each whose class becomes URGENT from another. The class of an entry follows its new count in the same way.
The order of these raises, that of the table, is the model's choice (log 35). -/
def Obligations.DeferralCountsAndClassesFollow : Prop :=
  (∀ (site : SiteState) (a : PowerAllocator) (x : Candidate),
     let e := entryOf site a x
     e.session = x.session ∧ e.port = x.port ∧ e.allocation = x.allocation ∧ e.admitted = x.admitted ∧
     (site ≠ .normal → e.count = x.count) ∧
     (site = .normal → x.admitted = false → e.count = min 15 (x.count + 1)) ∧
     (site = .normal → x.admitted = true → x.allocation = x.demand → e.count = x.count - 1) ∧
     (site = .normal → x.admitted = true → x.allocation ≠ x.demand → e.count = x.count) ∧
     (e.cls = .urgent ↔ a.urgent ≤ e.count) ∧ (e.cls = .high ↔ e.count < a.urgent ∧ a.high ≤ e.count)) ∧
  (∀ (s : State) (high urgent : Nat) (rest : List AllocatorMessage),
     s.events.allocatorMessages = .reclassify high urgent :: rest → (s.sessions.table.map Session.number).Nodup →
     ∃ t, exec .reclassification s = .next t ∧
       t = { s with links := ((s.sessions.table.filter fun x => x.cls != .urgent && decide (urgent ≤ x.deferral)).foldl
                      (fun c x => c.raise .urgentSession x.number) s.links).settle
                    sessions := { s.sessions with table := t.sessions.table }
                    events := { s.events with allocatorMessages := rest } } ∧
       t.sessions.table = s.sessions.table.map fun x => { x with cls :=
         if urgent ≤ x.deferral then .urgent else if high ≤ x.deferral then .high else .normal })

/-! ### The battery and the canopy (chapter 4) -/

/-- R75, R79 to R85: the discharge allowance by its rows, and with it what urgent release opens: between hard floor and
soft reserve the battery feeds vehicles only while it is on. And the battery target and the case of a computation: in ISLAND
it is ISLAND_SUPPORT with every limit released; in RESTORING IDLE, with the canopy curtailed as in a surplus with a charge of
0 when net is below 0, and every limit released otherwise. A limit that is released is the inverter's rated power. In
NORMAL and STARTING a net above the limit discharges, a net below 0 charges and curtails what the export limit cannot take,
and any other tops up or idles. The battery is used only while present, fresh and READY. And the standing conditions of a
target in force: none for IDLE and ISLAND_SUPPORT; a usable battery for the others, with the allowance for a discharge, and
for a charge the limits of its case.
That a fresh copy without values gives an allowance of 0 is the model's reading (log 26), and so is that RESTORING shows its
surplus figures whatever net is (log 25); the order of the limits is its choice (log 45). -/
def Obligations.AllowanceAndBatteryCommandFollowTheCases : Prop :=
  (∀ (present : Bool) (d : BatteryDispatchUnit),
     (present = false ∨ d.fresh = false ∨ d.copy = none → allowanceOf present d = 0) ∧
     ∀ v, d.copy = some v →
       (v.state ≠ .ready ∨ v.soc ≤ d.policy.hardFloor → allowanceOf present d = 0) ∧
       (present = true → d.fresh = true → v.state = .ready → d.policy.hardFloor < v.soc →
         allowanceOf present d = if d.policy.softReserve < v.soc ∨ d.urgent = true
           then min v.maxDischarge d.policy.dischargeCap else 0)) ∧
  (∀ (site : SiteState) (u : Option BatteryValues) (d : BatteryDispatchUnit) (net limit : Int) (exportKw pv : Nat),
     let o := outcomeOf site u d net limit exportKw pv
     let normal : Prop := site = .normal ∨ site = .starting
     (site = .island → o.target = .islandSupport ∧ o.case = .island ∧ o.curtail = none) ∧
     (site = .restoring → o.target = .idle ∧ o.case = .restoring ∧ o.surplus = some (-net) ∧ o.charge = some 0 ∧
       o.remaining = some (-net) ∧ (0 ≤ net → o.curtail = none) ∧
       (net < 0 → o.curtail = if (exportKw : Int) * 1000 < -net
         then some ((pv : Int) - (-net - exportKw * 1000)).toNat else none)) ∧
     (normal → u = none → o.target = .idle) ∧
     (normal → limit < net → o.case = .peak ∧ o.curtail = none ∧ ∀ v, u = some v →
       o.target = if min (net - limit).toNat d.allowance = 0 then .idle
         else .discharge (min (net - limit).toNat d.allowance)) ∧
     (normal → net ≤ limit → net < 0 → o.case = .surplus ∧ ∃ charge : Nat, o.surplus = some (-net) ∧
       o.charge = some (charge : Int) ∧ o.remaining = some (-net - charge) ∧
       o.target = (if charge = 0 then .idle else .charge charge) ∧
       (∀ v, u = some v → charge = if v.soc < d.policy.fullLimit
         then min (-net).toNat (min v.maxCharge d.policy.chargeCap) else 0) ∧
       (o.curtail = if (exportKw : Int) * 1000 < -net - charge
         then some ((pv : Int) - (-net - charge - exportKw * 1000)).toNat else none)) ∧
     (normal → net ≤ limit → 0 ≤ net → o.curtail = none ∧ ∀ v, u = some v →
       (v.soc < d.policy.softReserve → d.urgent = false → o.case = .topUp ∧
         o.target = (if min (limit - net).toNat (min d.policy.topUp v.maxCharge) = 0 then .idle
           else .charge (min (limit - net).toNat (min d.policy.topUp v.maxCharge)))) ∧
       (d.policy.softReserve ≤ v.soc ∨ d.urgent = true → o.case = .balanced ∧ o.target = .idle))) ∧
  (∀ (f : FieldLinkController) (b : SiteBalanceUnit) (pv : Nat), limitsOf f b pv none =
     (([1, 2, 3, 4].filter fun k => (f.unit (34 + k)).present).map fun k => (k, (f.unit (34 + k)).rated.getD 0))) ∧
  ∀ (present : Bool) (d : BatteryDispatchUnit),
    (∀ v, usable present d = some v ↔ present = true ∧ d.fresh = true ∧ d.copy = some v ∧ v.state = .ready) ∧
    (stands present d = true ↔ match d.target with
      | .idle => True
      | .islandSupport => True
      | .discharge w => (∃ v, usable present d = some v) ∧ w ≤ d.allowance
      | .charge w => ∃ v, usable present d = some v ∧
        (d.record.map DispatchRecord.case = some .topUp →
          v.soc < d.policy.softReserve ∧ d.urgent = false ∧ w ≤ min d.policy.topUp v.maxCharge) ∧
        (d.record.map DispatchRecord.case ≠ some .topUp →
          v.soc < d.policy.fullLimit ∧ w ≤ min v.maxCharge d.policy.chargeCap))

/-- R82: the limits of a curtailed canopy: every present inverter gets one; together the fresh inverters get no more than
the curtail total, and exactly that when no rated power cuts a share and no absent inverter counts as fresh; a stale one
gets 0; none gets more than its rated power. The share of a fresh one is floor(T × a / P_pv_eff) with its available power a,
and the fresh one of the largest available power, the lowest-numbered among equals, takes the W left over as well. Without
any available power the curtail total is 0, and so is every limit.
That the limits stand in the order of the inverter numbers is the model's choice (log 45). -/
def Obligations.CurtailmentIsShared : Prop :=
  ∀ (f : FieldLinkController) (b : SiteBalanceUnit) (total : Nat),
    (b.pvEff = 0 → limitsOf f b b.pvEff (some 0) = (presentInverters f).map fun k => (k, 0)) ∧
    (b.pvEff ≠ 0 →
    let limits := limitsOf f b b.pvEff (some total)
    let power (k : Nat) : Nat := (b.inverter k).available
    let fresh := (presentInverters f).filter fun k => (b.inverter k).fresh
    let share (k : Nat) : Nat := total * power k / b.pvEff
    limits.map Prod.fst = presentInverters f ∧ (limits.map Prod.snd).sum ≤ total ∧
    (∀ x ∈ limits, x.2 ≤ ratedOf f x.1 ∧ ((b.inverter x.1).fresh = false → x.2 = 0)) ∧
    ((∀ k, (f.unit (34 + k)).present = false → 1 ≤ k → k ≤ 4 → (b.inverter k).fresh = false) →
      (∀ k ∈ presentInverters f, total ≤ ratedOf f k) → (limits.map Prod.snd).sum = total) ∧
    (∀ k ∈ fresh, (∃ j ∈ fresh, power k < power j ∨ (power k = power j ∧ j < k)) →
      (k, min (share k) (ratedOf f k)) ∈ limits) ∧
    ∀ k ∈ fresh, (∀ j ∈ fresh, j ≠ k → power j < power k ∨ (power j = power k ∧ k < j)) →
      (k, min (share k + (total - (fresh.map share).sum)) (ratedOf f k)) ∈ limits)

/-- R74, R76 to R79, R84 to R86: the events at the Battery Dispatch Unit. A result sets the last total, its round and urgent
release; a change of release evaluates the allowance, and publishes it when it differs. A result and a change of site state
then compute the command from the balance record: the record holds the case, target, figures and limits that `outcomeOf` and
`limitsOf` give, the target and the limits are in force, and they are handed over, changed or not, naming the round after a
result. A battery report replaces the copy and a change of freshness its freshness; each evaluates the allowance, publishes
it when it differs, and computes and hands over a command with trigger BATTERY when the target in force no longer stands.
That a result whose release changes the allowance checks the target before its own computation is the model's reading
(log 24). -/
def Obligations.DispatchEventsComputeAndHandOver : Prop :=
  ∀ (s : State),
    let old := s.dispatch.allowance
    let published (w : Nat) : List Nat := s.events.allowances ++ if w = old then [] else [w]
    let checked (e : Events) (d : BatteryDispatchUnit) : State :=
      let w := allowanceOf s.batteryPresent d
      let d : BatteryDispatchUnit := { d with allowance := w }
      let record := s.dispatchComputed d .battery
      { s with
        links := s.links.settle
        dispatch := if stands s.batteryPresent d then d else d.commanded record
        events := { e with
          allowances := published w
          handovers := e.handovers ++ if stands s.batteryPresent d then [] else [s.handoverOf record none] } }
    (∀ r rest, s.events.resultsToDispatch = r :: rest →
      let urgent := decide (0 < r.urgent)
      let taken : BatteryDispatchUnit := { s.dispatch with lastTotal := some r.total, basis := some r.round, urgent := urgent }
      let w := if urgent = s.dispatch.urgent then old else allowanceOf s.batteryPresent taken
      let d : BatteryDispatchUnit := { taken with allowance := w }
      let falls := w != old && !stands s.batteryPresent d
      exec .allocationResultDispatch s = .next { s with
        links := s.links.settle
        dispatch := d.commanded (s.dispatchComputed d .result)
        events := { s.events with
          resultsToDispatch := rest
          allowances := published w
          handovers := s.events.handovers ++
            (if falls then [s.handoverOf (s.dispatchComputed d .battery) none] else []) ++
            [s.handoverOf (s.dispatchComputed d .result) (some r.round)] } }) ∧
    (∀ c rest, s.events.siteToDispatch = c :: rest →
      let record := s.dispatchComputed s.dispatch .siteState
      exec .siteStateChangeDispatch s = .next { s with
        links := s.links.settle
        dispatch := s.dispatch.commanded record
        events := { s.events with
          siteToDispatch := rest, handovers := s.events.handovers ++ [s.handoverOf record none] } }) ∧
    (∀ soc power maxCharge maxDischarge state rest,
      s.events.batteryReports = .battery soc power maxCharge maxDischarge state :: rest →
      exec .batteryReport s = .next (checked { s.events with batteryReports := rest } { s.dispatch with
        copy := some { soc := min soc 1000, power := power, maxCharge := maxCharge.toNat,
                       maxDischarge := maxDischarge.toNat, state := state } })) ∧
    (∀ fresh rest, s.events.freshness = fresh :: rest →
      exec .batteryFreshnessChange s =
        .next (checked { s.events with freshness := rest } { s.dispatch with fresh := fresh })) ∧
    ∀ (d : BatteryDispatchUnit) (trigger : DispatchTrigger) (k : Nat),
      let record := s.dispatchComputed d trigger
      nth (d.commanded record).limits none k = match record.limits.find? fun x => x.1 == k with
        | some x => some x.2
        | none => nth d.limits none k

/-! ### The field link (chapter 5) -/

/-- R94 to R96, R104: the next poll goes to the head of the urgent queue, without moving the cycle position, else to the
unit at the cycle position, which advances, from the last entry to the first. The unit leaves the urgent queue. The poll
carries the target, but under raise hold a charger whose target is above its delivered setpoint gets its delivered
command. With neither there is no poll. -/
def Obligations.NextPollFollowsQueueThenCycle : Prop :=
  ∀ (f : FieldLinkController),
    let poll (u : Nat) (urgent : Bool) : Transaction :=
      { unit := u, urgent := urgent, timeout := f.replyTimeout, replyTimer := none
        command := match (f.unit u).target with
          | .charger mode n => if f.decrease ≠ [] ∧ (f.unit u).delivered.setpoint < (Command.charger mode n).setpoint
            then (f.unit u).delivered else .charger mode n
          | c => c }
    (∀ e rest, f.urgent = e :: rest → f.nextPoll = { f with
      urgent := f.urgent.filter fun x => x.unit != e.unit, transaction := some (poll e.unit true) }) ∧
    (∀ u, f.urgent = [] → f.cycle[f.position]? = some u → f.nextPoll = { f with
      position := (f.position + 1) % f.cycle.length, transaction := some (poll u false) }) ∧
    (f.urgent = [] → f.cycle[f.position]? = none → f.nextPoll = { f with transaction := none })

/-- R92, R94, R95, R97 to R100, R102, R103: how a transaction ends. The reply timer starts when the poll has been sent. A
reply is valid when its check, its address, its kind, its length and its echo are right. A valid reply records the command,
the time and health OK, and hands its report on; a target that is no longer a decrease leaves the urgent queue and the
decrease set, one that still is keeps its membership and has its figure renewed, and a unit back from LOST is assessed
afresh. Any other reply, and the timer, is a miss, the third of which in a row makes the unit LOST, which leaves queue and
set. Only the polled unit's entry, queue entry and membership change, and the next poll is chosen. A charger's change to or
from LOST goes to the Session Controller as well.
That the reply timer ends by its command and that reports are numbered are the model's choices (logs 3 and 8). -/
def Obligations.TransactionsEndByReplyOrMiss : Prop :=
  ∀ (s : State) (tr : Transaction), s.field.transaction = some tr → 1 ≤ tr.unit → tr.unit ≤ 39 →
    let u := tr.unit
    let x := s.field.unit u
    let changed (after : Health) : List HealthChange :=
      if x.health = after then [] else [{ unit := u, before := x.health, after := after }]
    let changes (after : Health) (e : Events) : Events := { e with
      unitHealth := e.unitHealth ++ changed after
      chargerHealth := e.chargerHealth ++ if u ≤ 32 ∧ (x.health = .lost ∨ after = .lost) then changed after else [] }
    let others (g : FieldLinkController) : Prop :=
      (∀ v, v ≠ u → g.unit v = s.field.unit v ∧ (v ∈ g.decrease ↔ v ∈ s.field.decrease)) ∧
      (g.urgent.filter fun e => e.unit != u) = (s.field.urgent.filter fun e => e.unit != u) ∧
      g.nextPoll.units = g.units ∧ g.nextPoll.cycle = g.cycle ∧ g.nextPoll.decrease = g.decrease ∧
      g.nextPoll.reports = g.reports
    let queued (g : FieldLinkController) : List UrgentEntry := g.urgent.filter fun e => e.unit == u
    (tr.replyTimer = none → exec .pollEnd s = .next ({ s with field := { s.field with
      transaction := some { tr with replyTimer := some (s.runTime + tr.timeout) } } }.settle)) ∧
    ∀ expiry, tr.replyTimer = some expiry →
      let valid (frame : FieldFrame) : Prop :=
        frame.check = crc16 (frame.address :: byte (frame.payload.length + 1) :: frame.kind :: frame.payload) ∧
        x.address = some frame.address.toNat ∧
        frame.kind.toNat = 128 + (if u ≤ 32 then 1 else if u = 33 then 2 else if u = 34 then 3 else if u ≤ 38 then 4 else 5) ∧
        (if u ≤ 32 then 16 else if u = 33 then 5 else if u = 34 then 4 else if u ≤ 38 then 13 else 20) ≤
          frame.payload.length ∧
        echoOf u frame.payload = some tr.command
      let replied (frame : FieldFrame) (g : FieldLinkController) : State := { s with
        links := if x.health = .lost then s.links.raise .unitBack u else s.links
        field := g.nextPoll
        events := { changes .ok s.events with
          reports := s.events.reports ++ [{ unit := u, values := reportValues u frame.payload }]
          chargerReports := s.events.chargerReports ++
            (if u ≤ 32 then [chargerReportOf u frame.payload (s.field.reports + 1)] else [])
          readings := s.events.readings ++
            (if u ≤ 32 then [meterReadingOf u frame.payload s.runTime (s.field.reports + 1)] else [])
          batteryReports := s.events.batteryReports ++
            (if u = 39 then [reportValues u frame.payload] else []) } }
      (∀ frame : FieldFrame, valid frame → ∃ g, exec (.fieldReply frame) s = .next (replied frame g).settle ∧
        g = { s.field with units := g.units, urgent := g.urgent, decrease := g.decrease, reports := s.field.reports + 1 } ∧
        g.unit u = { x with delivered := tr.command, lastReport := some s.runTime, misses := 0, health := .ok } ∧
        others g ∧
        queued g = (match removalFigure tr.command x.target with
          | some figure =>
            if x.health = .lost ∨ (∃ e ∈ s.field.urgent, e.unit = u) then [{ unit := u, figure := figure }] else []
          | none => []) ∧
        (u ∈ g.decrease ↔ (removalFigure tr.command x.target).isSome = true ∧
          (x.health = .lost ∨ u ∈ s.field.decrease))) ∧
      let misses := min 255 (x.misses + 1)
      let after : Health := if 3 ≤ misses ∨ x.health = .lost then .lost else .missed
      let missed (now : Nat) (g : FieldLinkController) : State := { s with
        runTime := now
        links := if after = .lost ∧ x.health ≠ .lost then s.links.raise .unitLost u else s.links
        field := g.nextPoll
        events := changes after s.events }
      let miss (run : Host.Outcome State Fault Refusal) (now : Nat) : Prop := ∃ g, run = .next (missed now g).settle ∧
        g = { s.field with units := g.units, urgent := g.urgent, decrease := g.decrease } ∧
        g.unit u = { x with misses := misses, health := after } ∧ others g ∧
        (after = .lost → x.health ≠ .lost → queued g = [] ∧ u ∉ g.decrease) ∧
        (after ≠ .lost ∨ x.health = .lost → g.urgent = s.field.urgent ∧ g.decrease = s.field.decrease)
      (∀ frame : FieldFrame, ¬ valid frame → miss (exec (.fieldReply frame) s) s.runTime) ∧
      miss (exec .replyTimeout s) (max s.runTime expiry)

/-- R91, R92, R100, R102: a charger target from the Session Controller replaces the charger's target. Below the delivered
setpoint it is a decrease: the charger gets one urgent entry with its removal figure, and is a member of the decrease set
unless LOST; any other target leaves both. No other unit's target or membership changes.
That a target below the delivered setpoint is a decrease, as the table of R92 has it and against the second example of R103,
is the model's choice (log 47). -/
def Obligations.ChargerTargetsAreAssessed : Prop :=
  ∀ (s : State) (g : ChargerTarget) (rest : List ChargerTarget) (mode : ChargerMode) (n : Nat), 1 ≤ g.port → g.port ≤ 32 →
    takeFirst (fun q => q.port == g.port) s.events.chargerTargets = some (g, rest) →
    (s.field.unit g.port).delivered = .charger mode n →
    let d := (s.field.unit g.port).delivered.setpoint
    let n' := (Command.charger g.mode g.setpoint).setpoint
    ∃ t, exec (.chargerTarget g.port) s = .next t ∧
      t = { s with
        links := s.links.settle
        field := { s.field with units := t.field.units, urgent := t.field.urgent, decrease := t.field.decrease }
        events := { s.events with chargerTargets := rest } } ∧
      (∀ v, t.field.unit v = if v = g.port then { s.field.unit v with target := .charger g.mode g.setpoint }
        else s.field.unit v) ∧
      (t.field.urgent.filter fun e => e.unit == g.port) =
        (if n' < d then [{ unit := g.port, figure := 100 * (d - n') }] else []) ∧
      (t.field.urgent.filter fun e => e.unit != g.port) = (s.field.urgent.filter fun e => e.unit != g.port) ∧
      (g.port ∈ t.field.decrease ↔ n' < d ∧ (s.field.unit g.port).health ≠ .lost) ∧
      ∀ v, v ≠ g.port → (v ∈ t.field.decrease ↔ v ∈ s.field.decrease)

/-- R65, R86, R90 to R92, R100 to R102: the port targets of a result and a hand-over of the Battery Dispatch Unit at the
Field Link Controller. Each unit named takes its target, decided for a charger from port and session as they stand. The new
target is assessed against the delivered command: on a decrease the unit has one urgent entry with the removal figure, and is
a member of the decrease set unless LOST; otherwise it has no entry and is no member. A unit that is not named keeps target
and entry; it leaves the decrease set when it is one of those the event covers (every charger for a result, the battery and
every inverter for a hand-over), and stays as it was when not. Queue and set stay in their orders. A hand-over without a
battery target names no battery.
That a hand-over waits for the result it follows is the model's reading (log 20), and that an event with nothing to take
changes nothing is its choice (log 2). That a target below the delivered setpoint is a decrease, as the table of R92 has it
and against the second example of R103, is its choice too (log 47). -/
def Obligations.ResultsAndHandoversSetTheTargets : Prop :=
  ∀ (s : State),
    let credits (c : Command) : Nat := match c with
      | .charger .run n => n
      | _ => 0
    let importValue (c : BatteryCommand) : Int := match c with
      | .charge w => w
      | .discharge w => -(w : Int)
      | .idle => 0
      | .islandSupport => 0
    let figure (delivered target : Command) : Option Nat := match delivered, target with
      | .charger _ _, .charger _ _ =>
        if credits target < credits delivered then some (100 * (credits delivered - credits target)) else none
      | .battery d, .battery t =>
        if t = .islandSupport then (if d = .islandSupport then none else some 2147483647)
        else if importValue t < importValue d then some (importValue d - importValue t).toNat
        else none
      | .inverter (some d), .inverter (some t) => if t < d then some (d - t) else none
      | _, _ => none
    let assessed (t : State) (events : Events) (covers : Nat → Bool) (target : Nat → Option Command) : Prop :=
      t = { s with
        links := s.links.settle
        field := { s.field with units := t.field.units, urgent := t.field.urgent, decrease := t.field.decrease }
        events := events } ∧
      (∀ u, ∀ c, target u = some c → t.field.unit u = { s.field.unit u with target := c } ∧
        (t.field.urgent.filter fun e => e.unit == u) =
          (match figure (s.field.unit u).delivered c with
            | none => []
            | some w => [{ unit := u, figure := w }]) ∧
        (u ∈ t.field.decrease ↔
          (figure (s.field.unit u).delivered c).isSome = true ∧ (s.field.unit u).health ≠ .lost)) ∧
      (∀ u, target u = none → t.field.unit u = s.field.unit u ∧
        (t.field.urgent.filter fun e => e.unit == u) = (s.field.urgent.filter fun e => e.unit == u) ∧
        (u ∈ t.field.decrease ↔ covers u = false ∧ u ∈ s.field.decrease)) ∧
      (let ordered (q : List UrgentEntry) : Prop :=
         q.Pairwise fun a b => b.figure < a.figure ∨ (a.figure = b.figure ∧ a.unit < b.unit)
       ordered s.field.urgent → ordered t.field.urgent) ∧
      (s.field.decrease.Pairwise (· < ·) → t.field.decrease.Pairwise (· < ·))
    (s.events.resultsToField = [] → exec .allocationResultField s = .next s) ∧
    (∀ (r : AllocationResult) (rest : List AllocationResult), s.events.resultsToField = r :: rest →
      (r.targets.map PortTarget.port).Nodup → (∀ g ∈ r.targets, 1 ≤ g.port ∧ g.port ≤ 32) →
      ∃ t, exec .allocationResultField s = .next t ∧
        assessed t { s.events with resultsToField := rest } (fun u => decide (u ≤ 32)) fun u =>
          (r.targets.find? fun g => g.port == u).map fun g =>
            match (s.sessions.record g.port).state, s.sessions.holder g.port with
            | some .inSession, some x =>
              if g.session = some x.number ∧ x.state = .active ∧ 0 < g.setpoint then .charger .run g.setpoint
              else .charger .pause 0
            | some .inSession, none => .charger .pause 0
            | _, _ => .charger .lockout 0) ∧
    (s.events.handovers = [] → exec .dispatchHandover s = .next s) ∧
    ∀ (h : Handover) (rest : List Handover), s.events.handovers = h :: rest →
      let waits : Prop := ∃ n, h.follows = some n ∧ ∃ r ∈ s.events.resultsToField, r.round = n
      (waits → exec .dispatchHandover s = .next s) ∧
      (¬ waits → (h.limits.map Prod.fst).Nodup → (∀ x ∈ h.limits, 1 ≤ x.1 ∧ x.1 ≤ 4) →
        ∃ t, exec .dispatchHandover s = .next t ∧
          assessed t { s.events with handovers := rest } (fun u => decide (32 < u)) fun u =>
            if u = 39 then h.battery.map .battery
            else (h.limits.find? fun x => 34 + x.1 == u).map fun x => .inverter (some x.2))

/-! ### Metering (chapter 6) -/

/-- R107 to R115, R118: the application of a reading. A report without a reading changes no record; the first reading of a
port is stored without a delta, gives an authorized session without a meter start its meter start, and returns its highest
allocation. On a port that has a last reading the bound follows the highest allocation of the session that holds the port,
in any state, and is 10 Wh without one. The delta up to the bound goes to a session that accepts energy, attributed with the
mix in force and up to the cap of E_total; every other watt-hour the meter has counted is in the unbilled counter, so none is
lost; a rollback adds nothing. A delta above the bound and a rollback are logged and raise METER_DISCREPANCY, nothing else
does; the flags say which happened, and every reading ends in a reading-applied event.
That a delta of 0 leaves CLAMPED as it is, at the cap as well, is the model's choice (log 38). -/
def Obligations.ReadingIsBoundedAndAccountedFor : Prop :=
  ∀ (s : State) (r : MeterReading) (rest : List MeterReading),
    takeFirst (fun q => q.port == r.port) s.events.readings = some (r, rest) → 1 ≤ r.port → r.port ≤ 32 →
    (s.sessions.table.map Session.number).Nodup →
    let ended : Events := { s.events with
      readings := rest
      readingsApplied := s.events.readingsApplied ++
        [{ port := r.port, value := r.value, arrival := r.arrival, report := r.report }] }
    (r.value = none → exec (.readingApplication r.port) s = .next ({ s with events := ended }.settle)) ∧
    (∀ reading, r.value = some reading → (s.metering.meter r.port).last = none →
      ∃ t, exec (.readingApplication r.port) s = .next t ∧
        t = { s with
          links := s.links.settle
          sessions := { s.sessions with table := t.sessions.table }
          metering := { s.metering with meters := t.metering.meters }
          events := ended } ∧
        (∀ p, t.metering.meter p = if p = r.port
          then { s.metering.meter p with last := some reading, arrival := some r.arrival } else s.metering.meter p) ∧
        (s.sessions.holder r.port = none → t.sessions = s.sessions) ∧
        ∀ x, s.sessions.holder r.port = some x → s.sessions.find x.number = some x →
          t.sessions = s.sessions.update x.number (fun _ => { x with
            meterStart := if x.authorizer.isSome = true ∧ x.meterStart = none then some reading else x.meterStart
            highest := x.allocation })) ∧
    ∀ (reading last since : Nat), r.value = some reading → (s.metering.meter r.port).last = some last →
      (s.metering.meter r.port).arrival = some since →
    let before := (s.metering.meter r.port).unbilled
    let applied (t : State) (session : Option Nat) (bound : Nat) : Prop :=
      let found (kind : DiscrepancyKind) (b : Option Nat) : Prop :=
        t.metering.log = s.metering.log.add { kind := kind, port := r.port, session := session, reading := reading,
                                              last := last, bound := b, time := s.siteTime } ∧
        t.links = (s.links.raise .meterDiscrepancy r.port).settle
      t = { s with
        links := t.links
        sessions := { s.sessions with table := t.sessions.table }
        metering := t.metering
        events := ended } ∧
      (t.metering.meter r.port).last = some reading ∧ (t.metering.meter r.port).arrival = some r.arrival ∧
      (∀ p, p ≠ r.port → t.metering.meter p = s.metering.meter p) ∧
      (reading < last → found .major none) ∧ (last ≤ reading → bound < reading - last → found .minor (some bound)) ∧
      (last ≤ reading → reading - last ≤ bound → t.metering.log = s.metering.log ∧ t.links = s.links.settle)
    (∀ x, s.sessions.holder r.port = some x → s.sessions.find x.number = some x → x.total ≤ 4000000 →
      let bound := (x.highest * (r.arrival - since) + 28799) / 28800 + 10
      let mix := s.balance.record.mix
      ∃ t e y, exec (.readingApplication r.port) s = .next t ∧ applied t (some x.number) bound ∧
        t.sessions = s.sessions.update x.number (fun _ => y) ∧
        y = { x with
          total := x.total + e, solarAcc := x.solarAcc + e * mix.solar, batteryAcc := x.batteryAcc + e * mix.battery
          highest := x.allocation, flags := y.flags } ∧ y.total ≤ 4000000 ∧
        (x.acceptsEnergy = false → e = 0 ∧ y.flags = x.flags ∧
          (t.metering.meter r.port).unbilled = min (before + (reading - last)) 4294967295) ∧
        (x.acceptsEnergy = true → reading < last → e = 0 ∧ y.flags = { x.flags with estimated := true } ∧
          (t.metering.meter r.port).unbilled = min before 4294967295) ∧
        (x.acceptsEnergy = true → last ≤ reading → e = min (min (reading - last) bound) (4000000 - x.total) ∧
          y.flags = { x.flags with clamped := x.flags.clamped || decide (e < reading - last) } ∧
          (t.metering.meter r.port).unbilled = min (before + (reading - last - e)) 4294967295)) ∧
    (s.sessions.holder r.port = none → ∃ t, exec (.readingApplication r.port) s = .next t ∧ applied t none 10 ∧
      t.sessions = s.sessions ∧
      (t.metering.meter r.port).unbilled = min (before + (reading - last)) 4294967295)

/-- R118: each discrepancy counts in its kind, to 255 at most; the record is the first MINOR, or the first MAJOR found
after it, and a MAJOR one is never replaced. -/
def Obligations.DiscrepancyLogKeepsTheFirst : Prop :=
  ∀ (g : DiscrepancyLog) (d : Discrepancy),
    (d.kind = .minor → (g.add d).minor = min 255 (g.minor + 1) ∧ (g.add d).major = g.major ∧
      (g.lock = .empty → (g.add d).record = some d ∧ (g.add d).lock = .holdingMinor) ∧
      (g.lock ≠ .empty → (g.add d).record = g.record ∧ (g.add d).lock = g.lock)) ∧
    (d.kind = .major → (g.add d).major = min 255 (g.major + 1) ∧ (g.add d).minor = g.minor ∧
      (g.add d).lock = .holdingMajor ∧
      (g.lock = .holdingMajor → (g.add d).record = g.record) ∧
      (g.lock ≠ .holdingMajor → (g.add d).record = some d))

/-! ### The Tariff Store (chapter 7) -/

/-- R122, R123, R129: PROGRAM_TARIFF, ERASE_TARIFF and ACTIVATE_TARIFF. An accepted operation makes its slot BUSY and starts
in ERASING with the content it intends; one on a slot in use, in ISLAND or RESTORING, or beside another operation is refused,
in this order; only a VALID slot is activated. Before that a slot above 7, or a record with a field out of its range or a
label that is absent, longer than 12 characters or not ASCII, is refused.
That an ASCII character is a byte of 0 to 0x7F is the model's reading (log 39), and so is the order of the two bytes of the
stored check in the content (log 46). -/
def Obligations.TariffRequestsAreChecked : Prop :=
  ∀ (s : State) (tag : Byte) (k : Nat), s.slotFree .site →
    let started (kind : StoreKind) (image : List Byte) : State := { s with store := { s.store with
      slots := s.store.slots.setIfInBounds k { s.store.slot k with state := .busy }
      operation := some { slot := k, kind := kind, image := image, phase := .erasing } } }
    let inUse : Prop := s.store.active = some k ∨ (s.store.slot k).uses ≠ 0
    let supply : Prop := s.store.siteCopy = .island ∨ s.store.siteCopy = .restoring
    let judged (code : Byte) (accepted : State) (run : Host.Outcome State Fault Refusal) : Prop :=
      (inUse → run = .next (s.replied .site code tag .inUse [])) ∧
      (¬ inUse → supply → run = .next (s.replied .site code tag .supply [])) ∧
      (¬ inUse → ¬ supply → s.store.operation.isSome = true → run = .next (s.replied .site code tag .busy [])) ∧
      (¬ inUse → ¬ supply → s.store.operation = none → run = .next (accepted.replied .site code tag .accepted []))
    (k ≤ 7 → ∀ f : TariffFields, tariffInRange f = true →
      judged 0x30#8 (started .program (slotImage k f)) (exec (.programTariff .site tag (.fits { slot := k, record := f })) s)) ∧
    (k ≤ 7 → judged 0x31#8 (started .erase (List.replicate 37 0xFF#8)) (exec (.eraseTariff .site tag (.fits k)) s)) ∧
    (k ≤ 7 → ((s.store.slot k).state = .valid → exec (.activateTariff .site tag (.fits k)) s =
        .next (({ s with store := { s.store with active := some k }
                         events := { s.events with activations := s.events.activations ++ [k] } }).replied .site
          0x32#8 tag .ok [])) ∧
      ((s.store.slot k).state ≠ .valid → exec (.activateTariff .site tag (.fits k)) s =
        .next (s.replied .site 0x32#8 tag .wrongState []))) ∧
    (7 < k → (∀ f, exec (.programTariff .site tag (.fits { slot := k, record := f })) s =
        .next (s.replied .site 0x30#8 tag .outOfRange [])) ∧
      exec (.eraseTariff .site tag (.fits k)) s = .next (s.replied .site 0x31#8 tag .outOfRange []) ∧
      exec (.activateTariff .site tag (.fits k)) s = .next (s.replied .site 0x32#8 tag .outOfRange [])) ∧
    ∀ f : TariffFields, f.id < 1 ∨ 65535 < f.id ∨ 65535 < f.solarRate ∨ 65535 < f.batteryRate ∨ 65535 < f.gridRate ∨
        240 < f.idleGrace ∨ 1000 < f.idleRate ∨ 100000 < f.idleCap ∨ 100000 < f.step ∨ 50000 < f.perStep ∨
        100000 < f.allowanceCap ∨ f.label = none ∨ (∃ t, f.label = some t ∧ (12 < t.length ∨ ∃ b ∈ t, 128 ≤ b.toNat)) →
      exec (.programTariff .site tag (.fits { slot := k, record := f })) s = .next (s.replied .site 0x30#8 tag .outOfRange [])

/-- R124, R125: the phases of an operation. ERASING leaves the erased pattern, WRITING the intended content; VERIFYING ends
in VALID or EMPTY, or in BAD when the slot did not read back, with TARIFF_DONE and the store-free event, and the copy of the
site state as it was. An abort on entry to ISLAND leaves the slot BAD and moves the copy; another change of site state, and
every change with no operation in flight, moves the copy and nothing else.
That an ERASE goes from ERASING to VERIFYING at once, and that the outcome of the verify comes with its command, are the
model's reading and choice (logs 18 and 19), and that an event which does not take place changes nothing is its choice (log
2). -/
def Obligations.StoreOperationRunsThroughItsPhases : Prop :=
  (∀ (s : State) (op : StoreOperation), s.store.operation = some op → op.slot < 8 →
    let k := op.slot
    let frame (t : State) (events : Events) (copy : SiteState) (data : Nat) : Prop :=
      t = { s with draws := t.draws, links := (s.links.raise .tariffDone data).settle,
                   store := { s.store with slots := t.store.slots, operation := none, siteCopy := copy },
                   events := { events with storeFree := events.storeFree + 1 } } ∧
      (∀ j, j ≠ k → t.store.slot j = s.store.slot j) ∧ (t.store.slot k).uses = (s.store.slot k).uses
    let word (result : Nat) : Nat := k + 256 * (if op.kind = .program then 0 else 1) + 65536 * result
    (op.phase = .erasing → exec .erasingEnd s = .next ({ s with store := { s.store with
      slots := s.store.slots.setIfInBounds k { s.store.slot k with bytes := List.replicate 37 0xFF#8 }
      operation := some { op with phase := if op.kind = StoreKind.program then .writing else .verifying } } }.settle)) ∧
    (op.phase = .writing → exec .writingEnd s = .next ({ s with store := { s.store with
      slots := s.store.slots.setIfInBounds k { s.store.slot k with bytes := op.image }
      operation := some { op with phase := .verifying } } }.settle)) ∧
    (op.phase = .verifying →
      (∃ t, exec (.operationCompletion true) s = .next t ∧ frame t s.events s.store.siteCopy (word 0) ∧
        t.store.slot k = { s.store.slot k with state := if op.kind = .program then .valid else .empty }) ∧
      ∃ t, exec (.operationCompletion false) s = .next t ∧ frame t s.events s.store.siteCopy (word 1) ∧
        (t.store.slot k).state = .bad) ∧
    (op.phase ≠ .erasing → exec .erasingEnd s = .next s) ∧ (op.phase ≠ .writing → exec .writingEnd s = .next s) ∧
    (op.phase ≠ .verifying → ∀ verified, exec (.operationCompletion verified) s = .next s) ∧
    ∀ c rest, s.events.siteToStore = c :: rest → c.after = .island →
      ∃ t, exec .siteStateChangeStore s = .next t ∧ frame t { s.events with siteToStore := rest } .island (word 2) ∧
        (t.store.slot k).state = .bad) ∧
  ∀ (s : State),
    (s.events.siteToStore = [] → exec .siteStateChangeStore s = .next s) ∧
    (∀ c rest, s.events.siteToStore = c :: rest → c.after ≠ .island ∨ s.store.operation = none →
      exec .siteStateChangeStore s = .next ({ s with
        store := { s.store with siteCopy := c.after }, events := { s.events with siteToStore := rest } }.settle)) ∧
    (s.store.operation = none → exec .erasingEnd s = .next s ∧ exec .writingEnd s = .next s ∧
      ∀ verified, exec (.operationCompletion verified) s = .next s)

/-- R121, R122, R177: what PROGRAM_TARIFF intends for a slot is 37 bytes, is VALID by the examination at power-on, in that
slot and in no other of the eight, and reads back as the record programmed, field by field.
That the low byte of the stored check lies first is the model's reading (log 46). -/
def Obligations.SlotImageReadsBack : Prop :=
  ∀ (k : Nat) (f : TariffFields), k ≤ 7 → tariffInRange f = true →
    (slotImage k f).length = 37 ∧ examine k (slotImage k f) = .valid ∧
    (∀ j, j ≤ 7 → j ≠ k → examine j (slotImage k f) = .bad) ∧
    readTariff (slotImage k f) =
      { id := f.id, rate := { solar := f.solarRate, battery := f.batteryRate, grid := f.gridRate },
        idleGrace := f.idleGrace, idleRate := f.idleRate, idleCap := f.idleCap, step := f.step, perStep := f.perStep,
        allowanceCap := f.allowanceCap, label := f.label.getD [] }

/-! ### Pricing and receipts (chapter 8) -/

/-- R136 to R142: the figures of a priced receipt, and what it takes over from session and tariff, with the number and the
priced time of its event; TIME_UNSET is added while the clock has not been set. The allowance earned in whole steps up to its
cap; the allowance applied is all taken, from dearer sources first; lines rounded to the nearest unit; the fee for the
minutes beyond the grace; and the total is the sum of the lines and the fee. -/
def Obligations.PriceFollowsTheTariff : Prop :=
  ∀ (x : Session) (t : Tariff) (number : Nat) (clock : SiteClock), x.EnergyWf →
    let r := price x t number clock
    r.number = number ∧ r.session = x.number ∧ r.port = x.port ∧ r.authorizer = x.authorizer ∧ r.customer = x.customer ∧
    (∀ k, x.slot = some k → r.slot = k) ∧ r.tariffId = t.id ∧ r.label = t.label ∧ r.created = x.created ∧
    (∀ k, x.authorized = some k → r.authorized = k) ∧ (∀ k, x.ended = some k → r.ended = k) ∧ r.priced = clock.time ∧
    r.total = x.total ∧ r.energy.solar = x.solarAcc / 1024 ∧ r.energy.battery = x.batteryAcc / 1024 ∧ r.rate = t.rate ∧
    r.links = x.links ∧ r.idle = x.idle ∧ r.billableMinutes = x.idle / 60 - t.idleGrace ∧
    r.flags = { x.flags with timeUnset := x.flags.timeUnset || !clock.isSet } ∧
    r.energy.solar + r.energy.battery + r.energy.grid = x.total ∧ r.purchases = (x.links.map PurchaseLink.amount).sum ∧
    r.earned = (if t.step = 0 then 0 else min (r.purchases / t.step * t.perStep) t.allowanceCap) ∧
    r.applied = min r.earned x.total ∧ r.taken.solar + r.taken.battery + r.taken.grid = r.applied ∧
    (∀ k : Source, r.taken.get k ≤ r.energy.get k ∧ r.billed.get k = r.energy.get k - r.taken.get k ∧
      r.line.get k = (r.billed.get k * t.rate.get k + 50000) / 100000) ∧
    (∀ k m : Source, t.rate.get k < t.rate.get m → 0 < r.taken.get k → r.billed.get m = 0) ∧
    (t.rate.battery = t.rate.grid → 0 < r.taken.battery → r.billed.grid = 0) ∧
    (t.rate.solar = t.rate.battery → 0 < r.taken.solar → r.billed.battery = 0) ∧
    (t.rate.solar = t.rate.grid → 0 < r.taken.solar → r.billed.grid = 0) ∧
    r.idleFee = min ((x.idle / 60 - t.idleGrace) * t.idleRate) t.idleCap ∧
    r.amount = r.line.solar + r.line.battery + r.line.grid + r.idleFee

/-- R130, R134, R143, R144, R147, R150, R159, R160: a hand-over taken with nothing on the pricing list and no store
operation is priced at once: the slot's use count falls, the receipt takes the next number and is copied to the ring, and it
enters the queue, the session leaving the table and its entry serving the port wait list, when there is room and no receipt
waits; the queue raises RECEIPTS_PENDING when the unread count comes to its level, QUEUE_HIGH when the retained count comes
to its, and QUEUE_FULL at 64. Otherwise the receipt joins the wait list and the session is in WAIT_QUEUE. A hand-over that
finds the store in operation or the list not empty joins the list, and the session is in PRICING. -/
def Obligations.HandOverPricesOrDefers : Prop :=
  ∀ (s : State) (x : Session) (slot : Nat) (rest : List Nat), s.events.handOvers = x.number :: rest →
    s.sessions.find x.number = some x → x.state = .closing → x.handedOver = true → x.slot = some slot → slot < 8 →
    s.builder.ringPosition < 16 →
    let receipt := price x (readTariff (s.store.slot slot).bytes) s.builder.next s.links.clock
    let taken (t : State) : Prop :=
      t.store = { s.store with slots := t.store.slots } ∧
      (∀ j, t.store.slot j = if j = slot then { s.store.slot j with uses := (s.store.slot j).uses - 1 }
        else s.store.slot j) ∧
      t.builder.next = (if s.builder.next + 1 < 4294967296 then s.builder.next + 1 else 1) ∧
      t.builder.ring[s.builder.ringPosition]? = some (some receipt) ∧
      t.builder.ringPosition = (s.builder.ringPosition + 1) % 16 ∧ t.builder.pricing = s.builder.pricing ∧
      t.events = { s.events with handOvers := rest }
    (s.builder.pricing = [] → s.store.operation = none → s.builder.waiting = [] → s.queue.retained.length < 64 →
      let queue : ReceiptQueue := { s.queue with retained := s.queue.retained ++ [receipt] }
      let left : State := { s with
        links := (s.links.receiptTaken queue receipt.number).raise .sessionChange x.number
        sessions := { s.sessions with table := s.sessions.table.filter fun y => y.number != x.number }
        store := s.store.setSlot slot { s.store.slot slot with uses := (s.store.slot slot).uses - 1 }
        builder := { s.builder with
          next := if s.builder.next + 1 < 4294967296 then s.builder.next + 1 else 1
          ring := s.builder.ring.setIfInBounds s.builder.ringPosition (some receipt)
          ringPosition := (s.builder.ringPosition + 1) % 16 }
        queue := queue
        events := { s.events with handOvers := rest } }
      exec .handOver s = .next left.serveWaiting.settle) ∧
    (s.builder.pricing = [] → s.store.operation = none → s.builder.waiting = [] → s.queue.retained.length < 64 →
      s.sessions.waiting = [] → ∃ t, exec .handOver s = .next t ∧ taken t ∧
        t = { s with links := t.links, sessions := t.sessions, store := t.store, builder := t.builder, queue := t.queue,
                     events := t.events } ∧
        t.builder.waiting = [] ∧ t.queue = { s.queue with retained := s.queue.retained ++ [receipt] } ∧
        t.sessions = { s.sessions with table := s.sessions.table.filter fun y => y.number != x.number }) ∧
    (s.builder.pricing = [] → s.store.operation = none → s.builder.waiting ≠ [] ∨ 64 ≤ s.queue.retained.length →
      ∃ t, exec .handOver s = .next t ∧ taken t ∧
        t = { s with links := (s.links.raise .sessionChange x.number).settle, sessions := t.sessions, store := t.store,
                     builder := t.builder, events := t.events } ∧
        t.builder.waiting = s.builder.waiting ++ [receipt] ∧
        (t.sessions.find x.number).map Session.state = some .waitQueue) ∧
    (s.builder.pricing ≠ [] ∨ s.store.operation.isSome = true → exec .handOver s = .next (({ s with
      builder := { s.builder with pricing := s.builder.pricing ++ [x.number] }
      events := { s.events with handOvers := rest } }).transition x.number fun _ => { x with state := .pricing }).settle)

/-- R130, R135, R136, R143 to R145, R147, R150, R159, R160: the store-free event prices the session at the head of the
pricing list from the tariff of its slot: the receipt takes the next number and is copied to the ring, and the slot's use
count falls. With room and no receipt waiting it enters the queue, which raises the notices of its levels, and the session
leaves the table, its entry serving the port wait list; otherwise it joins the wait list and the session WAIT_QUEUE. The
event goes on while the list has a new head; it ends with an empty list, and while the store is again in operation nothing is
priced.
The room event moves waiting receipts into the queue, oldest first, as far as there is room, and each session served leaves
the table.
That one command prices one session of the list is the model's choice (log 14). -/
def Obligations.StoreFreeAndRoomServeTheirLists : Prop :=
  ∀ (s : State),
    let entered (u : State) (r : Receipt) : State :=
      let queue : ReceiptQueue := { u.queue with retained := u.queue.retained ++ [r] }
      { u with
        links := (u.links.receiptTaken queue r.number).raise .sessionChange r.session
        sessions := { u.sessions with table := u.sessions.table.filter fun y => y.number != r.session }
        queue := queue }
    (∀ n, s.events.storeFree = n + 1 →
      let used : Events := { s.events with storeFree := n }
      (s.store.operation.isSome = true ∨ s.builder.pricing = [] →
        exec .storeFree s = .next ({ s with events := used }.settle)) ∧
      (∀ (x : Session) (slot : Nat) (rest : List Nat), s.store.operation = none → s.builder.pricing = x.number :: rest →
        s.sessions.find x.number = some x → x.state = .pricing → x.slot = some slot →
        let receipt := price x (readTariff (s.store.slot slot).bytes) s.builder.next s.links.clock
        let priced : State := { s with
          store := s.store.setSlot slot { s.store.slot slot with uses := (s.store.slot slot).uses - 1 }
          builder := { s.builder with
            pricing := rest
            next := if s.builder.next + 1 < 4294967296 then s.builder.next + 1 else 1
            ring := s.builder.ring.setIfInBounds s.builder.ringPosition (some receipt)
            ringPosition := (s.builder.ringPosition + 1) % 16 }
          events := if rest = [] then used else s.events }
        (s.builder.waiting = [] → s.queue.retained.length < 64 →
          exec .storeFree s = .next (entered priced receipt).serveWaiting.settle) ∧
        (s.builder.waiting ≠ [] ∨ 64 ≤ s.queue.retained.length →
          let waits : State := { priced with builder := { priced.builder with waiting := s.builder.waiting ++ [receipt] } }
          exec .storeFree s = .next (waits.transition x.number fun _ => { x with state := .waitQueue }).settle))) ∧
    ∀ n, s.events.rooms = n + 1 →
      let moved := min s.builder.waiting.length (64 - s.queue.retained.length)
      let served (u : State) (r : Receipt) : State :=
        (entered { u with builder := { u.builder with waiting := u.builder.waiting.drop 1 } } r).serveWaiting
      exec .roomEvent s = .next (((s.builder.waiting.take moved).foldl served
        { s with events := { s.events with rooms := n } }).settle) ∧
      (s.sessions.waiting = [] → ∃ t, exec .roomEvent s = .next t ∧
        t = { s with links := t.links, sessions := t.sessions, builder := { s.builder with
                       waiting := s.builder.waiting.drop moved }
                     queue := { s.queue with retained := s.queue.retained ++ s.builder.waiting.take moved }
                     events := { s.events with rooms := n } } ∧
        t.sessions = { s.sessions with table := s.sessions.table.filter fun y =>
          !((s.builder.waiting.take moved).map Receipt.session).contains y.number })

/-! ### The Receipt Queue (chapter 9) -/

/-- R151 to R157: the requests of the Receipt Queue. Without a mark a read removes the head receipt; under a mark it moves
the read position on. SET_MARK and RELEASE_MARK remove what has been read under a mark, REWIND keeps it and returns to the
head, FLUSH_QUEUE removes all. A request that removes a receipt sends a room event, and no other does.
That each count of these replies takes one byte is the model's choice (log 41). -/
def Obligations.QueueRequestsKeepTheReceipts : Prop :=
  ∀ (s : State) (tag : Byte), s.slotFree .site → s.links.part = .live → s.queue.Wf →
    let q := s.queue
    let answered (code : Byte) (status : Status) (body : List Byte) (q' : ReceiptQueue) (removed : Nat) :
        Host.Outcome State Fault Refusal :=
      .next (({ s with queue := q', events := { s.events with rooms := s.events.rooms + if removed = 0 then 0 else 1 } })
        |>.replied .site code tag status body)
    let read := exec (.readReceipt .site tag (.fits ())) s
    (q.read = q.retained.length → read = answered 0x40#8 .empty [byte q.retained.length, byte s.builder.waiting.length] q 0) ∧
    (∀ r rest, q.mark = false → q.retained = r :: rest →
      read = answered 0x40#8 .ok ([byte rest.length, 0] ++ r.bytes) { q with retained := rest } 1) ∧
    (∀ r, q.mark = true → q.retained[q.read]? = some r →
      read = answered 0x40#8 .ok ([byte (q.retained.length - q.read - 1), 1] ++ r.bytes) { q with read := q.read + 1 } 0) ∧
    exec (.setMark .site tag (.fits ())) s = answered 0x41#8 .ok [byte q.read, byte (q.retained.length - q.read)]
      { q with retained := q.retained.drop q.read, read := 0, mark := true } q.read ∧
    (q.mark = true → exec (.rewind .site tag (.fits ())) s = answered 0x42#8 .ok [byte q.retained.length]
      { q with read := 0 } 0) ∧
    (q.mark = true → exec (.releaseMark .site tag (.fits ())) s = answered 0x43#8 .ok [byte q.read]
      { q with retained := q.retained.drop q.read, read := 0, mark := false } q.read) ∧
    (q.mark = false → exec (.rewind .site tag (.fits ())) s = answered 0x42#8 .noMark [] q 0 ∧
      exec (.releaseMark .site tag (.fits ())) s = answered 0x43#8 .noMark [] q 0) ∧
    exec (.flushQueue .site tag (.fits ())) s = answered 0x44#8 .ok [byte q.retained.length]
      { q with retained := [], read := 0, mark := false } q.retained.length

/-! ### Status (chapters 1 to 9) -/

/-- R24, R47, R70, R105, R119, R128, R148, R158: a status request changes nothing but its link, whatever it asks for and
whatever it is answered. -/
def Obligations.StatusRequestsChangeNothing : Prop :=
  ∀ (c : Instr) (h : RequestHead) (s : State), requestHead c = some h → s.slotFree h.link →
    h.kind ∈ [0x25#8, 0x26#8, 0x33#8, 0x45#8, 0x46#8, 0x50#8, 0x60#8, 0x61#8, 0x62#8] →
    ∃ status body, exec c s = .next (s.replied h.link h.kind h.tag status body)

/-- R24, R47, R70, R105, R119, R127, R148, R158, R178, R179: what each status request answers, OK or refused, and when;
CLEAR_DISCREPANCY empties the log it has shown; and where the fields of the receipt record, of every status reply and
of READ_TARIFF stand in their bytes: SESSION_STATUS, PORT_STATUS, QUEUE_STATUS, READ_DISCREPANCY, the pages of SITE_STATUS
with the records of the measuring units, the pages of ALLOC_STATUS with a candidate entry and a port target, and UNIT_STATUS
of a unit and of the link. The codes, orders and sizes that the spec leaves open are the model's choices (logs 12, 36, 37,
40, 41, 45), and so are the unit of the spacing timer's remaining time (log 50), the figures it leaves without a value (logs 6
and 7), and that a run time, an age or a remaining time beyond four bytes is sent as its low 32 bits, which R179 does not say
(log 15). -/
def Obligations.StatusRepliesCarryTheirRecords : Prop :=
  (∀ (s : State) (l : Link) (tag : Byte), s.slotFree l →
    let okay (code : Byte) (body : List Byte) : Host.Outcome State Fault Refusal := .next (s.replied l code tag .ok body)
    let refused (code : Byte) (status : Status) : Host.Outcome State Fault Refusal :=
      .next (s.replied l code tag status [])
    (l = .site →
      exec (.readDiscrepancy l tag (.fits ())) s = okay 0x50#8 s.metering.log.bytes ∧
      exec (.clearDiscrepancy l tag (.fits ())) s = .next (({ s with metering := { s.metering with
        log := { record := none, lock := .empty, minor := 0, major := 0 } } }).replied l 0x51#8 tag .ok
          s.metering.log.bytes) ∧
      (∀ page, page ≤ 2 → exec (.siteStatus l tag (.fits page)) s = okay 0x60#8 (sitePageBytes s page)) ∧
      (∀ page, 2 < page → exec (.siteStatus l tag (.fits page)) s = refused 0x60#8 .outOfRange) ∧
      exec (.unitStatus l tag (.fits 0)) s = okay 0x62#8 (linkSummaryBytes s) ∧
      (∀ u, 1 ≤ u → u ≤ 39 → (s.field.unit u).present = true →
        exec (.unitStatus l tag (.fits u)) s = okay 0x62#8 (unitStatusBytes s u)) ∧
      (∀ u, 1 ≤ u → u ≤ 39 → (s.field.unit u).present = false →
        exec (.unitStatus l tag (.fits u)) s = refused 0x62#8 .notFound) ∧
      (∀ u, 39 < u → exec (.unitStatus l tag (.fits u)) s = refused 0x62#8 .outOfRange) ∧
      (∀ k, k ≤ 7 → s.store.operation = none →
        exec (.readTariff l tag (.fits k)) s = okay 0x33#8 (readTariffBody s.store k)) ∧
      (∀ k op, k ≤ 7 → s.store.operation = some op → exec (.readTariff l tag (.fits k)) s =
        .next (s.replied l 0x33#8 tag .busy [byte op.slot, byte op.kind.code, byte op.phase.code])) ∧
      (∀ k, 7 < k → exec (.readTariff l tag (.fits k)) s = refused 0x33#8 .outOfRange) ∧
      (s.links.part = .live →
        (∀ x, s.sessions.find x.number = some x →
          exec (.sessionStatus l tag (.fits x.number)) s = okay 0x25#8 x.bytes) ∧
        (∀ n, s.sessions.find n = none → exec (.sessionStatus l tag (.fits n)) s = refused 0x25#8 .notFound) ∧
        exec (.queueStatus l tag (.fits ())) s = okay 0x46#8 (queueStatusBytes s.queue s.builder.waiting.length) ∧
        (∀ page, page ≤ 3 → exec (.allocStatus l tag (.fits page)) s = okay 0x61#8 (allocPageBytes s page)) ∧
        ∀ page, 3 < page → exec (.allocStatus l tag (.fits page)) s = refused 0x61#8 .outOfRange)) ∧
    (s.links.part = .live →
      (∀ p e, 1 ≤ p → p ≤ 32 → s.sessions.entry p = some e →
        exec (.portStatus l tag (.fits p)) s = okay 0x26#8 (portStatusBytes s p)) ∧
      (∀ p, 1 ≤ p → p ≤ 32 → s.sessions.entry p = none →
        exec (.portStatus l tag (.fits p)) s = refused 0x26#8 .notFound) ∧
      (∀ p, p = 0 ∨ 32 < p → exec (.portStatus l tag (.fits p)) s = refused 0x26#8 .outOfRange) ∧
      ∀ selector n : Nat,
        let asked : Receipt → Bool := fun r => if selector = 0 then r.session == n else r.port == n
        let answer := exec (.receiptCopy l tag (.fits { selector := selector, value := n })) s
        if (selector = 0 ∧ 1 ≤ n ∧ n ≤ 65535) ∨ (selector = 1 ∧ 1 ≤ n ∧ n ≤ 32) then
          (∀ r, s.builder.recent.find? asked = some r → answer = okay 0x45#8 r.bytes) ∧
          (s.builder.recent.find? asked = none → answer = refused 0x45#8 .notFound)
        else answer = refused 0x45#8 .outOfRange)) ∧
  let laid (bytes : List Byte) (rows : List (Nat × Nat × Nat)) : Prop :=
    ∀ x ∈ rows, field bytes x.1 x.2.1 = x.2.2 % 256 ^ x.2.1
  let flagBits (f : SessionFlags) : Nat :=
    bits [f.clamped, f.estimated, f.timeUnset, f.gridLost, f.chargerLost, f.stopped]
  (∀ r : Receipt,
    laid r.bytes [(0, 4, r.number), (4, 2, r.session), (6, 1, r.port), (7, 1, authorizerCode r.authorizer),
      (8, 1, flagBits r.flags), (9, 1, r.slot), (10, 2, r.tariffId), (12, 4, r.created), (16, 4, r.authorized),
      (20, 4, r.ended), (24, 4, r.priced), (28, 3, r.total), (31, 3, r.energy.solar), (34, 3, r.energy.battery),
      (37, 3, r.energy.grid), (40, 2, r.rate.solar), (42, 2, r.rate.battery), (44, 2, r.rate.grid),
      (46, 3, r.purchases), (49, 3, r.earned), (52, 3, r.applied), (55, 3, r.taken.solar), (58, 3, r.taken.battery),
      (61, 3, r.taken.grid), (64, 3, r.billed.solar), (67, 3, r.billed.battery), (70, 3, r.billed.grid),
      (73, 3, r.line.solar), (76, 3, r.line.battery), (79, 3, r.line.grid), (82, 4, r.idle), (86, 4, r.billableMinutes),
      (90, 3, r.idleFee), (93, 3, r.amount), (96, 1, r.links.length)] ∧
    r.bytes.drop 97 = textBytes (some r.label) ++ textBytes r.customer ++
      r.links.flatMap (fun k => k.reference ++ le 3 k.amount) ∧
    (r.links = [] → r.label = [] → r.customer = some [] → r.bytes.length = 99) ∧
    (r.links.length = 4 → (∀ k ∈ r.links, k.reference.length = 8) → r.label.length = 12 →
      (∃ t, r.customer = some t ∧ t.length = 16) → r.bytes.length = 171)) ∧
  (∀ x : Session, x.bytes.length = 53 ∧
    laid x.bytes [(0, 2, x.number), (2, 1, x.port), (3, 1, x.state.code),
      (4, 1, bits [x.holds.island, x.holds.siteHold, x.holds.fault, x.holds.chargerLost]),
      (5, 1, authorizerCode x.authorizer), (6, 1, x.slot.getD 255),
      (7, 1, bits [x.authorized.isSome, x.ended.isSome, x.departure.isSome]), (8, 4, x.created),
      (12, 4, x.authorized.getD 0), (16, 4, x.ended.getD 0), (20, 4, x.departure.getD 0), (24, 2, x.demand),
      (26, 2, x.effMin), (28, 2, x.allocation), (30, 1, x.deferral), (31, 1, x.cls.code), (32, 3, x.total),
      (35, 3, x.energy.solar), (38, 3, x.energy.battery), (41, 3, x.energy.grid), (44, 4, x.idle),
      (48, 1, x.links.length), (49, 3, (x.links.map PurchaseLink.amount).sum), (52, 1, flagBits x.flags)]) ∧
  (∀ (s : State) (p : Nat) (mode : ChargerMode) (setpoint : Nat),
    (s.field.unit p).delivered = .charger mode setpoint → (portStatusBytes s p).length = 17 ∧
    laid (portStatusBytes s p) [(0, 1, ((s.sessions.record p).state.map PortState.code).getD 255),
      (1, 2, ((s.sessions.holder p).map Session.number).getD 0), (3, 2, setpoint), (5, 1, mode.code),
      (6, 1, (s.sessions.record p).fault.toNat), (7, 1, (s.metering.meter p).last.isSome.toNat),
      (8, 4, (s.metering.meter p).last.getD 0), (12, 4, (s.metering.meter p).unbilled),
      (16, 1, if p ∈ s.sessions.waiting then s.sessions.waiting.idxOf p + 1 else 0)]) ∧
  (∀ (q : ReceiptQueue) (waiting : Nat),
    let receipt (r : Option Receipt) : Nat := (r.map Receipt.number).getD 0
    (queueStatusBytes q waiting).length = 19 ∧
    laid (queueStatusBytes q waiting) [(0, 1, q.retained.length), (1, 1, q.unread), (2, 1, q.mark.toNat),
      (3, 1, q.retained.length - q.unread), (4, 4, receipt q.retained[0]?), (8, 4, receipt q.retained[q.read]?),
      (12, 4, receipt q.retained.getLast?), (16, 1, q.notify), (17, 1, q.high), (18, 1, waiting)]) ∧
  (∀ g : DiscrepancyLog, g.bytes.length = 23 ∧
    laid g.bytes [(0, 1, g.lock.code), (21, 1, g.minor), (22, 1, g.major)] ∧
    match g.record with
    | none => laid g.bytes [(1, 20, 0)]
    | some d => laid g.bytes [(1, 1, d.kind.code), (2, 1, d.port), (3, 2, d.session.getD 0), (5, 4, d.reading),
        (9, 4, d.last), (13, 4, d.bound.getD 0), (17, 4, d.time)]) ∧
  (∀ e : CandidateEntry, e.bytes.length = 8 ∧
    laid e.bytes [(0, 2, e.session), (2, 1, e.port), (3, 2, e.allocation), (5, 1, e.count), (6, 1, e.cls.code),
      (7, 1, e.admitted.toNat)]) ∧
  (∀ t : PortTarget, t.bytes.length = 5 ∧ laid t.bytes [(0, 1, t.port), (1, 2, t.session.getD 0), (3, 2, t.setpoint)]) ∧
  (∀ (t : TariffStore) (k : Nat),
    laid (readTariffBody t k) [(0, 1, k), (1, 1, match (t.slot k).state with
        | .empty => 0
        | .valid => 1
        | .bad => 2
        | .busy => 3), (2, 1, (t.slot k).uses), (3, 1, (t.active == some k).toNat)] ∧
    ((t.slot k).state ≠ .valid → (readTariffBody t k).length = 4) ∧
    ∀ f, (t.slot k).state = .valid → (t.slot k).bytes = slotImage k f → tariffInRange f = true →
      (readTariffBody t k).drop 4 = le 2 f.id ++ le 2 f.solarRate ++ le 2 f.batteryRate ++ le 2 f.gridRate ++
        le 1 f.idleGrace ++ le 2 f.idleRate ++ le 3 f.idleCap ++ le 3 f.step ++ le 2 f.perStep ++ le 3 f.allowanceCap ++
        textBytes f.label) ∧
  let age (now : Nat) (arrival : Option Nat) : Nat := match arrival with
    | none => 4294967295
    | some t => now - t
  let power (bytes : List Byte) (rows : List (Nat × Option Int)) : Prop := ∀ x ∈ rows, match x.2 with
    | none => wattsField bytes x.1 = -2147483648
    | some w => -2147483648 ≤ w → w < 2147483648 → wattsField bytes x.1 = w
  let yes (v : Option Bool) : Nat := match v with
    | none => 255
    | some v => v.toNat
  let batteryState (v : Option BatteryValues) : Nat := match v.map BatteryValues.state with
    | none => 255
    | some .ready => 0
    | some .fault => 1
    | some .islanded => 2
  (∀ s : State,
    let b := s.balance
    let r := b.record
    let page := sitePageBytes s 0
    page.length = 63 ∧
    laid page [(0, 4, s.runTime), (4, 1, s.links.part.code), (5, 1, r.siteState.code), (6, 2, r.budget),
      (12, 2, r.phantomTotal), (14, 2, nth r.phantomFeeder 0 1), (16, 2, nth r.phantomFeeder 0 2),
      (18, 2, nth r.phantomFeeder 0 3), (20, 2, nth r.phantomFeeder 0 4), (34, 2, r.mix.solar), (36, 2, r.mix.battery),
      (38, 2, r.mix.grid),
      (40, 1, bits [r.flags.storeStale, r.flags.pvPartial, r.flags.batteryStale, r.flags.gridStale, r.flags.storeOverload,
        r.flags.importOverrun]),
      (41, 2, b.settings.importLimit), (43, 2, b.settings.margin), (45, 2, b.settings.exportLimit),
      (47, 2, b.settings.storePeak), (49, 2, b.settings.fallback), (51, 1, s.links.tillGrant.toNat),
      (52, 1, s.links.tillFirst), (53, 1, s.links.tillLast), (54, 4, s.links.clock.time),
      (58, 1, s.links.clock.isSet.toNat)] ∧
    power page [(8, some r.budgetW), (22, some (r.storeEff : Int)), (26, some (r.pvEff : Int)),
      (30, some (r.batteryEff : Int))] ∧
    (b.restoreTimer = none → field page 59 4 = 4294967295) ∧
    (∀ t, b.restoreTimer = some t → (t - s.runTime) % 1000 = 0 →
      field page 59 4 = (t - s.runTime) / 1000 % 4294967296) ∧
    (let units := [33, 34, 35, 36, 37, 38, 39].filter fun u => (s.field.unit u).present
     sitePageBytes s 1 = le 4 s.runTime ++ byte units.length :: units.flatMap (measurementBytes s)) ∧
    (let ports := portNumbers.filter fun p => (b.phantom p).isSome
     sitePageBytes s 2 = le 4 s.runTime ++ byte ports.length :: ports.flatMap fun p => match b.phantom p with
       | none => []
       | some k => byte p :: (le 2 k.current ++ [yesNo k.timer.isNone])) ∧
    (let m := measurementBytes s 33
     m.length = 11 ∧ power m [(0, b.grid.value.map GridValues.power)] ∧
     laid m [(4, 1, yes (b.grid.value.map GridValues.present)), (5, 4, age s.runTime b.grid.arrival),
       (9, 1, b.grid.fresh.toNat), (10, 1, b.overrun.toNat)]) ∧
    (let m := measurementBytes s 34
     m.length = 9 ∧ power m [(0, b.store.value.map Int.ofNat)] ∧
     laid m [(4, 4, age s.runTime b.store.arrival), (8, 1, b.store.fresh.toNat)]) ∧
    (∀ k, 1 ≤ k → k ≤ 4 →
      let x := b.inverter k
      let m := measurementBytes s (34 + k)
      m.length = 14 ∧
      power m [(0, x.value.map fun v => (v.output : Int)), (4, x.value.map fun v => (v.available : Int))] ∧
      laid m [(8, 1, yes (x.value.map InverterValues.curtailed)), (9, 4, age s.runTime x.arrival), (13, 1, x.fresh.toNat)]) ∧
    (let v := b.battery.value
     let m := measurementBytes s 39
     m.length = 20 ∧ (∀ x, v = some x → field m 0 2 = x.soc % 65536) ∧
     power m [(2, v.map BatteryValues.power), (6, v.map fun x => (x.maxCharge : Int)),
       (10, v.map fun x => (x.maxDischarge : Int))] ∧
     laid m [(14, 1, batteryState v), (15, 4, age s.runTime b.battery.arrival), (19, 1, b.battery.fresh.toNat)])) ∧
  (∀ s : State,
    let a := s.allocator
    let page := allocPageBytes s 0
    let feeders := [1, 2, 3, 4].filter fun k => (nth a.feeders none k).isSome
    laid page [(0, 4, a.round), (4, 1, a.high), (5, 1, a.urgent), (6, 2, a.period), (8, 4, age s.runTime a.lastRun),
      (12, 1, a.pending.toNat), (13, 4, match a.spacing with
        | none => 4294967295
        | some t => t - s.runTime), (17, 1, a.applied.toNat), (18, 1, feeders.length)] ∧
    (a.last = none → page.length = 30 + 7 * feeders.length ∧ field page (19 + 7 * feeders.length) 1 = 255) ∧
    (∀ r, a.last = some r → (∀ k ∈ feeders, ∃ g, (r.feeders.find? fun g => g.feeder == k) = some g ∧ 0 ≤ g.room) →
      page.drop 19 = (feeders.flatMap fun k => byte k :: (le 2 ((nth a.feeders none k).getD 0) ++
          match r.feeders.find? fun g => g.feeder == k with
          | none => []
          | some g => le 2 g.room.toNat ++ le 2 g.allocated)) ++
        [byte r.siteState.code] ++ le 2 r.budget ++ le 2 r.phantomTotal ++ le 2 r.total ++ le 2 r.unspent ++
        [byte r.deferred, byte r.urgent]) ∧
    (let entries : List CandidateEntry := match a.last with
       | none => []
       | some r => r.entries
     let targets : List PortTarget := match a.last with
       | none => []
       | some r => r.targets
     let listed (bytes : List (List Byte)) : List Byte := le 4 a.round ++ byte bytes.length :: bytes.flatten
     allocPageBytes s 1 = listed ((entries.take 16).map CandidateEntry.bytes) ∧
     allocPageBytes s 2 = listed (((entries.drop 16).take 16).map CandidateEntry.bytes) ∧
     allocPageBytes s 3 = listed (targets.map PortTarget.bytes))) ∧
  ∀ s : State,
    let f := s.field
    let d := s.dispatch
    let watt (w : Option Int) : List Byte := match w with
      | none => le 4 2147483648
      | some w => if -2147483648 ≤ w ∧ w < 2147483648 then le 4 (w % 4294967296).toNat else watts w
    let credit (w : Option Nat) : Option Int := w.map Int.ofNat
    let command (c : Command) : List Byte := match c with
      | .charger m n => byte m.code :: le 2 n
      | .battery .idle => 0x00#8 :: le 4 0
      | .battery (.charge w) => 0x01#8 :: le 4 w
      | .battery (.discharge w) => 0x02#8 :: le 4 w
      | .battery .islandSupport => 0x03#8 :: le 4 0
      | .inverter none => le 4 2147483648
      | .inverter (some w) => le 4 w
      | .meter => []
    let basic (u : Nat) : List Byte :=
      let x := f.unit u
      [byte u, byte (if u ≤ 32 then 0 else if u = 33 then 1 else if u = 34 then 2 else if u ≤ 38 then 3 else 4),
        byte (x.address.getD 0)] ++
      (if 35 ≤ u ∧ u ≤ 38 then watt (credit x.rated) else []) ++
      [byte (match x.health with
        | .unpolled => 0
        | .ok => 1
        | .missed => 2
        | .lost => 3), byte x.misses] ++ le 4 (age s.runTime x.lastReport) ++
      command x.target ++ command x.delivered ++ command (f.sendable u) ++
      [byte (if u ∈ f.urgent.map UrgentEntry.unit then (f.urgent.map UrgentEntry.unit).idxOf u + 1 else 0)] ++
      watt ((f.urgent.find? fun e => e.unit == u).map fun e => (e.figure : Int)) ++ [byte (if u ∈ f.decrease then 1 else 0)]
    let v := d.copy
    let soc : List Byte := le 2 (match v with
      | none => Config.openValue .absentPerMille
      | some x => x.soc)
    (∀ u, u ≤ 34 → unitStatusBytes s u = basic u) ∧
    (∀ k, 1 ≤ k → k ≤ 4 → unitStatusBytes s (34 + k) = basic (34 + k) ++ watt (credit (nth d.limits none k)) ++
      watt (credit (d.record.bind DispatchRecord.curtail))) ∧
    unitStatusBytes s 39 = basic 39 ++
      (le 2 d.policy.hardFloor ++ le 2 d.policy.softReserve ++ le 2 d.policy.fullLimit ++ le 4 d.policy.dischargeCap ++
        le 4 d.policy.chargeCap ++ le 4 d.policy.topUp) ++
      (soc ++ watt (v.map BatteryValues.power) ++ watt (v.map fun x => (x.maxCharge : Int)) ++
        watt (v.map fun x => (x.maxDischarge : Int)) ++ [byte (batteryState v)]) ++
      [byte (if d.fresh then 0 else 1)] ++ watt (some d.allowance) ++ [byte (if d.urgent then 1 else 0)] ++
      (match d.record with
        | none => le 4 0 ++ [0xFF#8, 0xFF#8] ++ (List.replicate 6 (le 4 2147483648)).flatten ++
            0xFF#8 :: (le 4 2147483648 ++ [0x00#8])
        | some r => le 4 (r.basis.getD 0) ++
            [byte (match r.trigger with
              | .result => 0
              | .siteState => 1
              | .policy => 2
              | .battery => 3),
             byte (match r.case with
              | .peak => 0
              | .surplus => 1
              | .topUp => 2
              | .balanced => 3
              | .island => 4
              | .restoring => 5)] ++
            watt (some r.net) ++ watt (some r.limit) ++ watt r.surplus ++ watt r.charge ++ watt r.remaining ++
            watt (credit r.curtail) ++ command (.battery r.target) ++
            byte r.limits.length :: r.limits.flatMap fun x => byte x.1 :: le 4 x.2) ∧
    let held (h : Health) : Nat := ((List.range' 1 39).filter fun u => (f.unit u).present && (f.unit u).health == h).length
    linkSummaryBytes s = [byte s.links.part.code] ++ le 2 f.replyTimeout ++
      [byte f.cycle.length, byte (if f.cycle = [] then 0 else f.position + 1)] ++
      (match f.transaction with
        | none => [0x00#8, 0xFF#8]
        | some t => [byte t.unit, byte (if t.urgent then 0 else 1)]) ++
      byte f.urgent.length :: (f.urgent.map fun e => byte e.unit) ++
      byte f.decrease.length :: (f.decrease.map byte) ++
      [byte (held .unpolled), byte (held .ok), byte (held .missed), byte (held .lost)]

/-! ### Invariants: what every step keeps -/

/-- Every step completes: no command ends in a fault or a refusal. And (R162, R163) no transmitter is IDLE with something
to send, and a reply being sent from the slot or the refusal holder is the one held there. -/
def Obligations.EveryStepCompletesAndKeepsTheLinks : Prop :=
  ∀ s : State, ∃ t, step s = .next t ∧ (s.links.Settled → s.links.Wf → t.links.Settled ∧ t.links.Wf)

/-- R61, R64, R118, R147, R149, R159: what counts within bounds stays there: the receipt queue and its read position, the
discrepancy log, the deferral counts of sessions and of results on their way, the write position of the ring. And what is
on its way between the blocks names no session, port or inverter twice. -/
def Obligations.StepKeepsQueueLogAndCounts : Prop :=
  ∀ s t : State, s.TableWf → s.queue.Wf → s.metering.log.Wf → s.CountsWf → s.EventsWf → step s = .next t →
    t.queue.Wf ∧ t.metering.log.Wf ∧ t.CountsWf ∧ t.EventsWf

/-- R120, R123, R125, R129: the active slot is VALID, the one BUSY slot is the target of the operation in flight and not
in use, and no operation is in flight in ISLAND. -/
def Obligations.StepKeepsTheTariffStore : Prop :=
  ∀ s t : State, s.store.Wf → step s = .next t → t.store.Wf

/-- R35, R42 to R44: the budget is 0 to 8,000 credits and 0 outside NORMAL, the mix sums to 1,024, STORE_OVERLOAD stands
only in NORMAL, and the restore timer runs in RESTORING and only there. -/
def Obligations.StepKeepsTheBalance : Prop :=
  ∀ s t : State, s.balance.Wf → step s = .next t → t.balance.Wf

/-- R42, R75, R76, R85: the battery's invariant, with the quiet of SETUP that starts it: in LIVE the allowance published is
the one the copy, the policy and urgent release give, and the target in force meets its standing conditions. -/
def Obligations.StepKeepsTheDispatch : Prop :=
  ∀ s t : State, s.SetupWf → s.DispatchWf → s.LiveWf → step s = .next t → t.SetupWf ∧ t.DispatchWf ∧ t.LiveWf

/-- R97, R100 to R103: the miss counts fit the health, the urgent queue is in its order with one entry a unit, and the
decrease set holds units that are not LOST and whose targets are decreases. -/
def Obligations.StepKeepsTheFieldLink : Prop :=
  ∀ s t : State, s.SetupWf → s.field.Wf → step s = .next t → t.field.Wf

/-- R114, R115: E_total stays at or below its cap, and the energy shown as solar and battery never exceeds it. -/
def Obligations.StepKeepsTheEnergies : Prop :=
  ∀ s t : State, s.EnergyWf → step s = .next t → t.EnergyWf

/-- R6, R21, R22, R130, R135: at most 48 sessions under distinct numbers, those of the pricing list in PRICING, every
waiting receipt belonging to one in WAIT_QUEUE, and the use count of every slot the number of sessions bound to it and not
yet priced. -/
def Obligations.StepKeepsTheSessionTable : Prop :=
  ∀ s t : State, s.TableWf → step s = .next t → t.TableWf

/-- R2 to R4, R21: a port is IN_SESSION exactly when one session holds it, and the wait list holds the WAITING ports, none
twice. -/
def Obligations.StepKeepsThePorts : Prop :=
  ∀ s t : State, s.TableWf → s.PortsWf → step s = .next t → t.PortsWf

/-- Every invariant of the statements before this one holds of the state right after reset. -/
def Obligations.ResetMeetsEveryInvariant : Prop :=
  let s := State.reset
  s.links.Settled ∧ s.links.Wf ∧ s.queue.Wf ∧ s.metering.log.Wf ∧ s.CountsWf ∧ s.EventsWf ∧ s.store.Wf ∧ s.balance.Wf ∧
    s.SetupWf ∧ s.DispatchWf ∧ s.LiveWf ∧ s.field.Wf ∧ s.EnergyWf ∧ s.TableWf ∧ s.PortsWf
end

