-- ==== Sys2Proof/Laws/State.lean ====
section
/-! SUPPORT. One lemma for each field of the state under each of its setters, so that no later proof unfolds a record
update. -/

namespace Sys2Proof.Machine

@[simp] theorem State.setLinks_pending (s : State) (x : LinkController) : (s.setLinks x).pending = s.pending := rfl
@[simp] theorem State.setLinks_runTime (s : State) (x : LinkController) : (s.setLinks x).runTime = s.runTime := rfl
@[simp] theorem State.setLinks_draws (s : State) (x : LinkController) : (s.setLinks x).draws = s.draws := rfl
@[simp] theorem State.setLinks_links (s : State) (x : LinkController) : (s.setLinks x).links = x := rfl
@[simp] theorem State.setLinks_field (s : State) (x : LinkController) : (s.setLinks x).field = s.field := rfl
@[simp] theorem State.setLinks_balance (s : State) (x : LinkController) : (s.setLinks x).balance = s.balance := rfl
@[simp] theorem State.setLinks_dispatch (s : State) (x : LinkController) : (s.setLinks x).dispatch = s.dispatch := rfl
@[simp] theorem State.setLinks_sessions (s : State) (x : LinkController) : (s.setLinks x).sessions = s.sessions := rfl
@[simp] theorem State.setLinks_allocator (s : State) (x : LinkController) : (s.setLinks x).allocator = s.allocator := rfl
@[simp] theorem State.setLinks_metering (s : State) (x : LinkController) : (s.setLinks x).metering = s.metering := rfl
@[simp] theorem State.setLinks_store (s : State) (x : LinkController) : (s.setLinks x).store = s.store := rfl
@[simp] theorem State.setLinks_builder (s : State) (x : LinkController) : (s.setLinks x).builder = s.builder := rfl
@[simp] theorem State.setLinks_queue (s : State) (x : LinkController) : (s.setLinks x).queue = s.queue := rfl
@[simp] theorem State.setLinks_events (s : State) (x : LinkController) : (s.setLinks x).events = s.events := rfl
@[simp] theorem State.setLinks_setLinks (s : State) (x y : LinkController) : (s.setLinks x).setLinks y = s.setLinks y := rfl

@[simp] theorem State.setField_pending (s : State) (x : FieldLinkController) : (s.setField x).pending = s.pending := rfl
@[simp] theorem State.setField_runTime (s : State) (x : FieldLinkController) : (s.setField x).runTime = s.runTime := rfl
@[simp] theorem State.setField_draws (s : State) (x : FieldLinkController) : (s.setField x).draws = s.draws := rfl
@[simp] theorem State.setField_links (s : State) (x : FieldLinkController) : (s.setField x).links = s.links := rfl
@[simp] theorem State.setField_field (s : State) (x : FieldLinkController) : (s.setField x).field = x := rfl
@[simp] theorem State.setField_balance (s : State) (x : FieldLinkController) : (s.setField x).balance = s.balance := rfl
@[simp] theorem State.setField_dispatch (s : State) (x : FieldLinkController) : (s.setField x).dispatch = s.dispatch := rfl
@[simp] theorem State.setField_sessions (s : State) (x : FieldLinkController) : (s.setField x).sessions = s.sessions := rfl
@[simp] theorem State.setField_allocator (s : State) (x : FieldLinkController) : (s.setField x).allocator = s.allocator := rfl
@[simp] theorem State.setField_metering (s : State) (x : FieldLinkController) : (s.setField x).metering = s.metering := rfl
@[simp] theorem State.setField_store (s : State) (x : FieldLinkController) : (s.setField x).store = s.store := rfl
@[simp] theorem State.setField_builder (s : State) (x : FieldLinkController) : (s.setField x).builder = s.builder := rfl
@[simp] theorem State.setField_queue (s : State) (x : FieldLinkController) : (s.setField x).queue = s.queue := rfl
@[simp] theorem State.setField_events (s : State) (x : FieldLinkController) : (s.setField x).events = s.events := rfl
@[simp] theorem State.setField_setField (s : State) (x y : FieldLinkController) : (s.setField x).setField y = s.setField y := rfl

@[simp] theorem State.setBalance_pending (s : State) (x : SiteBalanceUnit) : (s.setBalance x).pending = s.pending := rfl
@[simp] theorem State.setBalance_runTime (s : State) (x : SiteBalanceUnit) : (s.setBalance x).runTime = s.runTime := rfl
@[simp] theorem State.setBalance_draws (s : State) (x : SiteBalanceUnit) : (s.setBalance x).draws = s.draws := rfl
@[simp] theorem State.setBalance_links (s : State) (x : SiteBalanceUnit) : (s.setBalance x).links = s.links := rfl
@[simp] theorem State.setBalance_field (s : State) (x : SiteBalanceUnit) : (s.setBalance x).field = s.field := rfl
@[simp] theorem State.setBalance_balance (s : State) (x : SiteBalanceUnit) : (s.setBalance x).balance = x := rfl
@[simp] theorem State.setBalance_dispatch (s : State) (x : SiteBalanceUnit) : (s.setBalance x).dispatch = s.dispatch := rfl
@[simp] theorem State.setBalance_sessions (s : State) (x : SiteBalanceUnit) : (s.setBalance x).sessions = s.sessions := rfl
@[simp] theorem State.setBalance_allocator (s : State) (x : SiteBalanceUnit) : (s.setBalance x).allocator = s.allocator := rfl
@[simp] theorem State.setBalance_metering (s : State) (x : SiteBalanceUnit) : (s.setBalance x).metering = s.metering := rfl
@[simp] theorem State.setBalance_store (s : State) (x : SiteBalanceUnit) : (s.setBalance x).store = s.store := rfl
@[simp] theorem State.setBalance_builder (s : State) (x : SiteBalanceUnit) : (s.setBalance x).builder = s.builder := rfl
@[simp] theorem State.setBalance_queue (s : State) (x : SiteBalanceUnit) : (s.setBalance x).queue = s.queue := rfl
@[simp] theorem State.setBalance_events (s : State) (x : SiteBalanceUnit) : (s.setBalance x).events = s.events := rfl
@[simp] theorem State.setBalance_setBalance (s : State) (x y : SiteBalanceUnit) : (s.setBalance x).setBalance y = s.setBalance y := rfl

@[simp] theorem State.setDispatch_pending (s : State) (x : BatteryDispatchUnit) : (s.setDispatch x).pending = s.pending := rfl
@[simp] theorem State.setDispatch_runTime (s : State) (x : BatteryDispatchUnit) : (s.setDispatch x).runTime = s.runTime := rfl
@[simp] theorem State.setDispatch_draws (s : State) (x : BatteryDispatchUnit) : (s.setDispatch x).draws = s.draws := rfl
@[simp] theorem State.setDispatch_links (s : State) (x : BatteryDispatchUnit) : (s.setDispatch x).links = s.links := rfl
@[simp] theorem State.setDispatch_field (s : State) (x : BatteryDispatchUnit) : (s.setDispatch x).field = s.field := rfl
@[simp] theorem State.setDispatch_balance (s : State) (x : BatteryDispatchUnit) : (s.setDispatch x).balance = s.balance := rfl
@[simp] theorem State.setDispatch_dispatch (s : State) (x : BatteryDispatchUnit) : (s.setDispatch x).dispatch = x := rfl
@[simp] theorem State.setDispatch_sessions (s : State) (x : BatteryDispatchUnit) : (s.setDispatch x).sessions = s.sessions := rfl
@[simp] theorem State.setDispatch_allocator (s : State) (x : BatteryDispatchUnit) : (s.setDispatch x).allocator = s.allocator := rfl
@[simp] theorem State.setDispatch_metering (s : State) (x : BatteryDispatchUnit) : (s.setDispatch x).metering = s.metering := rfl
@[simp] theorem State.setDispatch_store (s : State) (x : BatteryDispatchUnit) : (s.setDispatch x).store = s.store := rfl
@[simp] theorem State.setDispatch_builder (s : State) (x : BatteryDispatchUnit) : (s.setDispatch x).builder = s.builder := rfl
@[simp] theorem State.setDispatch_queue (s : State) (x : BatteryDispatchUnit) : (s.setDispatch x).queue = s.queue := rfl
@[simp] theorem State.setDispatch_events (s : State) (x : BatteryDispatchUnit) : (s.setDispatch x).events = s.events := rfl
@[simp] theorem State.setDispatch_setDispatch (s : State) (x y : BatteryDispatchUnit) : (s.setDispatch x).setDispatch y = s.setDispatch y := rfl

@[simp] theorem State.setSessions_pending (s : State) (x : SessionController) : (s.setSessions x).pending = s.pending := rfl
@[simp] theorem State.setSessions_runTime (s : State) (x : SessionController) : (s.setSessions x).runTime = s.runTime := rfl
@[simp] theorem State.setSessions_draws (s : State) (x : SessionController) : (s.setSessions x).draws = s.draws := rfl
@[simp] theorem State.setSessions_links (s : State) (x : SessionController) : (s.setSessions x).links = s.links := rfl
@[simp] theorem State.setSessions_field (s : State) (x : SessionController) : (s.setSessions x).field = s.field := rfl
@[simp] theorem State.setSessions_balance (s : State) (x : SessionController) : (s.setSessions x).balance = s.balance := rfl
@[simp] theorem State.setSessions_dispatch (s : State) (x : SessionController) : (s.setSessions x).dispatch = s.dispatch := rfl
@[simp] theorem State.setSessions_sessions (s : State) (x : SessionController) : (s.setSessions x).sessions = x := rfl
@[simp] theorem State.setSessions_allocator (s : State) (x : SessionController) : (s.setSessions x).allocator = s.allocator := rfl
@[simp] theorem State.setSessions_metering (s : State) (x : SessionController) : (s.setSessions x).metering = s.metering := rfl
@[simp] theorem State.setSessions_store (s : State) (x : SessionController) : (s.setSessions x).store = s.store := rfl
@[simp] theorem State.setSessions_builder (s : State) (x : SessionController) : (s.setSessions x).builder = s.builder := rfl
@[simp] theorem State.setSessions_queue (s : State) (x : SessionController) : (s.setSessions x).queue = s.queue := rfl
@[simp] theorem State.setSessions_events (s : State) (x : SessionController) : (s.setSessions x).events = s.events := rfl
@[simp] theorem State.setSessions_setSessions (s : State) (x y : SessionController) : (s.setSessions x).setSessions y = s.setSessions y := rfl

@[simp] theorem State.setAllocator_pending (s : State) (x : PowerAllocator) : (s.setAllocator x).pending = s.pending := rfl
@[simp] theorem State.setAllocator_runTime (s : State) (x : PowerAllocator) : (s.setAllocator x).runTime = s.runTime := rfl
@[simp] theorem State.setAllocator_draws (s : State) (x : PowerAllocator) : (s.setAllocator x).draws = s.draws := rfl
@[simp] theorem State.setAllocator_links (s : State) (x : PowerAllocator) : (s.setAllocator x).links = s.links := rfl
@[simp] theorem State.setAllocator_field (s : State) (x : PowerAllocator) : (s.setAllocator x).field = s.field := rfl
@[simp] theorem State.setAllocator_balance (s : State) (x : PowerAllocator) : (s.setAllocator x).balance = s.balance := rfl
@[simp] theorem State.setAllocator_dispatch (s : State) (x : PowerAllocator) : (s.setAllocator x).dispatch = s.dispatch := rfl
@[simp] theorem State.setAllocator_sessions (s : State) (x : PowerAllocator) : (s.setAllocator x).sessions = s.sessions := rfl
@[simp] theorem State.setAllocator_allocator (s : State) (x : PowerAllocator) : (s.setAllocator x).allocator = x := rfl
@[simp] theorem State.setAllocator_metering (s : State) (x : PowerAllocator) : (s.setAllocator x).metering = s.metering := rfl
@[simp] theorem State.setAllocator_store (s : State) (x : PowerAllocator) : (s.setAllocator x).store = s.store := rfl
@[simp] theorem State.setAllocator_builder (s : State) (x : PowerAllocator) : (s.setAllocator x).builder = s.builder := rfl
@[simp] theorem State.setAllocator_queue (s : State) (x : PowerAllocator) : (s.setAllocator x).queue = s.queue := rfl
@[simp] theorem State.setAllocator_events (s : State) (x : PowerAllocator) : (s.setAllocator x).events = s.events := rfl
@[simp] theorem State.setAllocator_setAllocator (s : State) (x y : PowerAllocator) : (s.setAllocator x).setAllocator y = s.setAllocator y := rfl

@[simp] theorem State.setMetering_pending (s : State) (x : MeteringUnit) : (s.setMetering x).pending = s.pending := rfl
@[simp] theorem State.setMetering_runTime (s : State) (x : MeteringUnit) : (s.setMetering x).runTime = s.runTime := rfl
@[simp] theorem State.setMetering_draws (s : State) (x : MeteringUnit) : (s.setMetering x).draws = s.draws := rfl
@[simp] theorem State.setMetering_links (s : State) (x : MeteringUnit) : (s.setMetering x).links = s.links := rfl
@[simp] theorem State.setMetering_field (s : State) (x : MeteringUnit) : (s.setMetering x).field = s.field := rfl
@[simp] theorem State.setMetering_balance (s : State) (x : MeteringUnit) : (s.setMetering x).balance = s.balance := rfl
@[simp] theorem State.setMetering_dispatch (s : State) (x : MeteringUnit) : (s.setMetering x).dispatch = s.dispatch := rfl
@[simp] theorem State.setMetering_sessions (s : State) (x : MeteringUnit) : (s.setMetering x).sessions = s.sessions := rfl
@[simp] theorem State.setMetering_allocator (s : State) (x : MeteringUnit) : (s.setMetering x).allocator = s.allocator := rfl
@[simp] theorem State.setMetering_metering (s : State) (x : MeteringUnit) : (s.setMetering x).metering = x := rfl
@[simp] theorem State.setMetering_store (s : State) (x : MeteringUnit) : (s.setMetering x).store = s.store := rfl
@[simp] theorem State.setMetering_builder (s : State) (x : MeteringUnit) : (s.setMetering x).builder = s.builder := rfl
@[simp] theorem State.setMetering_queue (s : State) (x : MeteringUnit) : (s.setMetering x).queue = s.queue := rfl
@[simp] theorem State.setMetering_events (s : State) (x : MeteringUnit) : (s.setMetering x).events = s.events := rfl
@[simp] theorem State.setMetering_setMetering (s : State) (x y : MeteringUnit) : (s.setMetering x).setMetering y = s.setMetering y := rfl

@[simp] theorem State.setStore_pending (s : State) (x : TariffStore) : (s.setStore x).pending = s.pending := rfl
@[simp] theorem State.setStore_runTime (s : State) (x : TariffStore) : (s.setStore x).runTime = s.runTime := rfl
@[simp] theorem State.setStore_draws (s : State) (x : TariffStore) : (s.setStore x).draws = s.draws := rfl
@[simp] theorem State.setStore_links (s : State) (x : TariffStore) : (s.setStore x).links = s.links := rfl
@[simp] theorem State.setStore_field (s : State) (x : TariffStore) : (s.setStore x).field = s.field := rfl
@[simp] theorem State.setStore_balance (s : State) (x : TariffStore) : (s.setStore x).balance = s.balance := rfl
@[simp] theorem State.setStore_dispatch (s : State) (x : TariffStore) : (s.setStore x).dispatch = s.dispatch := rfl
@[simp] theorem State.setStore_sessions (s : State) (x : TariffStore) : (s.setStore x).sessions = s.sessions := rfl
@[simp] theorem State.setStore_allocator (s : State) (x : TariffStore) : (s.setStore x).allocator = s.allocator := rfl
@[simp] theorem State.setStore_metering (s : State) (x : TariffStore) : (s.setStore x).metering = s.metering := rfl
@[simp] theorem State.setStore_store (s : State) (x : TariffStore) : (s.setStore x).store = x := rfl
@[simp] theorem State.setStore_builder (s : State) (x : TariffStore) : (s.setStore x).builder = s.builder := rfl
@[simp] theorem State.setStore_queue (s : State) (x : TariffStore) : (s.setStore x).queue = s.queue := rfl
@[simp] theorem State.setStore_events (s : State) (x : TariffStore) : (s.setStore x).events = s.events := rfl
@[simp] theorem State.setStore_setStore (s : State) (x y : TariffStore) : (s.setStore x).setStore y = s.setStore y := rfl

@[simp] theorem State.setBuilder_pending (s : State) (x : ReceiptBuilder) : (s.setBuilder x).pending = s.pending := rfl
@[simp] theorem State.setBuilder_runTime (s : State) (x : ReceiptBuilder) : (s.setBuilder x).runTime = s.runTime := rfl
@[simp] theorem State.setBuilder_draws (s : State) (x : ReceiptBuilder) : (s.setBuilder x).draws = s.draws := rfl
@[simp] theorem State.setBuilder_links (s : State) (x : ReceiptBuilder) : (s.setBuilder x).links = s.links := rfl
@[simp] theorem State.setBuilder_field (s : State) (x : ReceiptBuilder) : (s.setBuilder x).field = s.field := rfl
@[simp] theorem State.setBuilder_balance (s : State) (x : ReceiptBuilder) : (s.setBuilder x).balance = s.balance := rfl
@[simp] theorem State.setBuilder_dispatch (s : State) (x : ReceiptBuilder) : (s.setBuilder x).dispatch = s.dispatch := rfl
@[simp] theorem State.setBuilder_sessions (s : State) (x : ReceiptBuilder) : (s.setBuilder x).sessions = s.sessions := rfl
@[simp] theorem State.setBuilder_allocator (s : State) (x : ReceiptBuilder) : (s.setBuilder x).allocator = s.allocator := rfl
@[simp] theorem State.setBuilder_metering (s : State) (x : ReceiptBuilder) : (s.setBuilder x).metering = s.metering := rfl
@[simp] theorem State.setBuilder_store (s : State) (x : ReceiptBuilder) : (s.setBuilder x).store = s.store := rfl
@[simp] theorem State.setBuilder_builder (s : State) (x : ReceiptBuilder) : (s.setBuilder x).builder = x := rfl
@[simp] theorem State.setBuilder_queue (s : State) (x : ReceiptBuilder) : (s.setBuilder x).queue = s.queue := rfl
@[simp] theorem State.setBuilder_events (s : State) (x : ReceiptBuilder) : (s.setBuilder x).events = s.events := rfl
@[simp] theorem State.setBuilder_setBuilder (s : State) (x y : ReceiptBuilder) : (s.setBuilder x).setBuilder y = s.setBuilder y := rfl

@[simp] theorem State.setQueue_pending (s : State) (x : ReceiptQueue) : (s.setQueue x).pending = s.pending := rfl
@[simp] theorem State.setQueue_runTime (s : State) (x : ReceiptQueue) : (s.setQueue x).runTime = s.runTime := rfl
@[simp] theorem State.setQueue_draws (s : State) (x : ReceiptQueue) : (s.setQueue x).draws = s.draws := rfl
@[simp] theorem State.setQueue_links (s : State) (x : ReceiptQueue) : (s.setQueue x).links = s.links := rfl
@[simp] theorem State.setQueue_field (s : State) (x : ReceiptQueue) : (s.setQueue x).field = s.field := rfl
@[simp] theorem State.setQueue_balance (s : State) (x : ReceiptQueue) : (s.setQueue x).balance = s.balance := rfl
@[simp] theorem State.setQueue_dispatch (s : State) (x : ReceiptQueue) : (s.setQueue x).dispatch = s.dispatch := rfl
@[simp] theorem State.setQueue_sessions (s : State) (x : ReceiptQueue) : (s.setQueue x).sessions = s.sessions := rfl
@[simp] theorem State.setQueue_allocator (s : State) (x : ReceiptQueue) : (s.setQueue x).allocator = s.allocator := rfl
@[simp] theorem State.setQueue_metering (s : State) (x : ReceiptQueue) : (s.setQueue x).metering = s.metering := rfl
@[simp] theorem State.setQueue_store (s : State) (x : ReceiptQueue) : (s.setQueue x).store = s.store := rfl
@[simp] theorem State.setQueue_builder (s : State) (x : ReceiptQueue) : (s.setQueue x).builder = s.builder := rfl
@[simp] theorem State.setQueue_queue (s : State) (x : ReceiptQueue) : (s.setQueue x).queue = x := rfl
@[simp] theorem State.setQueue_events (s : State) (x : ReceiptQueue) : (s.setQueue x).events = s.events := rfl
@[simp] theorem State.setQueue_setQueue (s : State) (x y : ReceiptQueue) : (s.setQueue x).setQueue y = s.setQueue y := rfl

@[simp] theorem State.setEvents_pending (s : State) (x : Events) : (s.setEvents x).pending = s.pending := rfl
@[simp] theorem State.setEvents_runTime (s : State) (x : Events) : (s.setEvents x).runTime = s.runTime := rfl
@[simp] theorem State.setEvents_draws (s : State) (x : Events) : (s.setEvents x).draws = s.draws := rfl
@[simp] theorem State.setEvents_links (s : State) (x : Events) : (s.setEvents x).links = s.links := rfl
@[simp] theorem State.setEvents_field (s : State) (x : Events) : (s.setEvents x).field = s.field := rfl
@[simp] theorem State.setEvents_balance (s : State) (x : Events) : (s.setEvents x).balance = s.balance := rfl
@[simp] theorem State.setEvents_dispatch (s : State) (x : Events) : (s.setEvents x).dispatch = s.dispatch := rfl
@[simp] theorem State.setEvents_sessions (s : State) (x : Events) : (s.setEvents x).sessions = s.sessions := rfl
@[simp] theorem State.setEvents_allocator (s : State) (x : Events) : (s.setEvents x).allocator = s.allocator := rfl
@[simp] theorem State.setEvents_metering (s : State) (x : Events) : (s.setEvents x).metering = s.metering := rfl
@[simp] theorem State.setEvents_store (s : State) (x : Events) : (s.setEvents x).store = s.store := rfl
@[simp] theorem State.setEvents_builder (s : State) (x : Events) : (s.setEvents x).builder = s.builder := rfl
@[simp] theorem State.setEvents_queue (s : State) (x : Events) : (s.setEvents x).queue = s.queue := rfl
@[simp] theorem State.setEvents_events (s : State) (x : Events) : (s.setEvents x).events = x := rfl
@[simp] theorem State.setEvents_setEvents (s : State) (x y : Events) : (s.setEvents x).setEvents y = s.setEvents y := rfl

@[simp] theorem State.reach_pending (s : State) (t : Nat) : (s.reach t).pending = s.pending := rfl
@[simp] theorem State.reach_runTime (s : State) (t : Nat) : (s.reach t).runTime = max s.runTime t := rfl
@[simp] theorem State.reach_draws (s : State) (t : Nat) : (s.reach t).draws = s.draws := rfl
@[simp] theorem State.reach_links (s : State) (t : Nat) : (s.reach t).links = s.links := rfl
@[simp] theorem State.reach_field (s : State) (t : Nat) : (s.reach t).field = s.field := rfl
@[simp] theorem State.reach_balance (s : State) (t : Nat) : (s.reach t).balance = s.balance := rfl
@[simp] theorem State.reach_dispatch (s : State) (t : Nat) : (s.reach t).dispatch = s.dispatch := rfl
@[simp] theorem State.reach_sessions (s : State) (t : Nat) : (s.reach t).sessions = s.sessions := rfl
@[simp] theorem State.reach_allocator (s : State) (t : Nat) : (s.reach t).allocator = s.allocator := rfl
@[simp] theorem State.reach_metering (s : State) (t : Nat) : (s.reach t).metering = s.metering := rfl
@[simp] theorem State.reach_store (s : State) (t : Nat) : (s.reach t).store = s.store := rfl
@[simp] theorem State.reach_builder (s : State) (t : Nat) : (s.reach t).builder = s.builder := rfl
@[simp] theorem State.reach_queue (s : State) (t : Nat) : (s.reach t).queue = s.queue := rfl
@[simp] theorem State.reach_events (s : State) (t : Nat) : (s.reach t).events = s.events := rfl

@[simp] theorem State.settle_pending (s : State) : s.settle.pending = s.pending := rfl
@[simp] theorem State.settle_runTime (s : State) : s.settle.runTime = s.runTime := rfl
@[simp] theorem State.settle_draws (s : State) : s.settle.draws = s.draws := rfl
@[simp] theorem State.settle_links (s : State) : s.settle.links = s.links.settle := rfl
@[simp] theorem State.settle_field (s : State) : s.settle.field = s.field := rfl
@[simp] theorem State.settle_balance (s : State) : s.settle.balance = s.balance := rfl
@[simp] theorem State.settle_dispatch (s : State) : s.settle.dispatch = s.dispatch := rfl
@[simp] theorem State.settle_sessions (s : State) : s.settle.sessions = s.sessions := rfl
@[simp] theorem State.settle_allocator (s : State) : s.settle.allocator = s.allocator := rfl
@[simp] theorem State.settle_metering (s : State) : s.settle.metering = s.metering := rfl
@[simp] theorem State.settle_store (s : State) : s.settle.store = s.store := rfl
@[simp] theorem State.settle_builder (s : State) : s.settle.builder = s.builder := rfl
@[simp] theorem State.settle_queue (s : State) : s.settle.queue = s.queue := rfl
@[simp] theorem State.settle_events (s : State) : s.settle.events = s.events := rfl

@[simp] theorem State.raise_pending (s : State) (k : NoticeKind) (d : Nat) : (s.raise k d).pending = s.pending := rfl
@[simp] theorem State.raise_runTime (s : State) (k : NoticeKind) (d : Nat) : (s.raise k d).runTime = s.runTime := rfl
@[simp] theorem State.raise_draws (s : State) (k : NoticeKind) (d : Nat) : (s.raise k d).draws = s.draws := rfl
@[simp] theorem State.raise_links (s : State) (k : NoticeKind) (d : Nat) : (s.raise k d).links = s.links.raise k d := rfl
@[simp] theorem State.raise_field (s : State) (k : NoticeKind) (d : Nat) : (s.raise k d).field = s.field := rfl
@[simp] theorem State.raise_balance (s : State) (k : NoticeKind) (d : Nat) : (s.raise k d).balance = s.balance := rfl
@[simp] theorem State.raise_dispatch (s : State) (k : NoticeKind) (d : Nat) : (s.raise k d).dispatch = s.dispatch := rfl
@[simp] theorem State.raise_sessions (s : State) (k : NoticeKind) (d : Nat) : (s.raise k d).sessions = s.sessions := rfl
@[simp] theorem State.raise_allocator (s : State) (k : NoticeKind) (d : Nat) : (s.raise k d).allocator = s.allocator := rfl
@[simp] theorem State.raise_metering (s : State) (k : NoticeKind) (d : Nat) : (s.raise k d).metering = s.metering := rfl
@[simp] theorem State.raise_store (s : State) (k : NoticeKind) (d : Nat) : (s.raise k d).store = s.store := rfl
@[simp] theorem State.raise_builder (s : State) (k : NoticeKind) (d : Nat) : (s.raise k d).builder = s.builder := rfl
@[simp] theorem State.raise_queue (s : State) (k : NoticeKind) (d : Nat) : (s.raise k d).queue = s.queue := rfl
@[simp] theorem State.raise_events (s : State) (k : NoticeKind) (d : Nat) : (s.raise k d).events = s.events := rfl

@[simp] theorem State.sendReport_pending (s : State) (r : Report) : (s.sendReport r).pending = s.pending := rfl
@[simp] theorem State.sendReport_runTime (s : State) (r : Report) : (s.sendReport r).runTime = s.runTime := rfl
@[simp] theorem State.sendReport_draws (s : State) (r : Report) : (s.sendReport r).draws = s.draws := rfl
@[simp] theorem State.sendReport_links (s : State) (r : Report) : (s.sendReport r).links = s.links := rfl
@[simp] theorem State.sendReport_field (s : State) (r : Report) : (s.sendReport r).field = s.field := rfl
@[simp] theorem State.sendReport_balance (s : State) (r : Report) : (s.sendReport r).balance = s.balance := rfl
@[simp] theorem State.sendReport_dispatch (s : State) (r : Report) : (s.sendReport r).dispatch = s.dispatch := rfl
@[simp] theorem State.sendReport_sessions (s : State) (r : Report) : (s.sendReport r).sessions = s.sessions := rfl
@[simp] theorem State.sendReport_allocator (s : State) (r : Report) : (s.sendReport r).allocator = s.allocator := rfl
@[simp] theorem State.sendReport_metering (s : State) (r : Report) : (s.sendReport r).metering = s.metering := rfl
@[simp] theorem State.sendReport_store (s : State) (r : Report) : (s.sendReport r).store = s.store := rfl
@[simp] theorem State.sendReport_builder (s : State) (r : Report) : (s.sendReport r).builder = s.builder := rfl
@[simp] theorem State.sendReport_queue (s : State) (r : Report) : (s.sendReport r).queue = s.queue := rfl

@[simp] theorem State.sendHealth_pending (s : State) (r : HealthChange) : (s.sendHealth r).pending = s.pending := rfl
@[simp] theorem State.sendHealth_runTime (s : State) (r : HealthChange) : (s.sendHealth r).runTime = s.runTime := rfl
@[simp] theorem State.sendHealth_draws (s : State) (r : HealthChange) : (s.sendHealth r).draws = s.draws := rfl
@[simp] theorem State.sendHealth_links (s : State) (r : HealthChange) : (s.sendHealth r).links = s.links := rfl
@[simp] theorem State.sendHealth_field (s : State) (r : HealthChange) : (s.sendHealth r).field = s.field := rfl
@[simp] theorem State.sendHealth_balance (s : State) (r : HealthChange) : (s.sendHealth r).balance = s.balance := rfl
@[simp] theorem State.sendHealth_dispatch (s : State) (r : HealthChange) : (s.sendHealth r).dispatch = s.dispatch := rfl
@[simp] theorem State.sendHealth_sessions (s : State) (r : HealthChange) : (s.sendHealth r).sessions = s.sessions := rfl
@[simp] theorem State.sendHealth_allocator (s : State) (r : HealthChange) : (s.sendHealth r).allocator = s.allocator := rfl
@[simp] theorem State.sendHealth_metering (s : State) (r : HealthChange) : (s.sendHealth r).metering = s.metering := rfl
@[simp] theorem State.sendHealth_store (s : State) (r : HealthChange) : (s.sendHealth r).store = s.store := rfl
@[simp] theorem State.sendHealth_builder (s : State) (r : HealthChange) : (s.sendHealth r).builder = s.builder := rfl
@[simp] theorem State.sendHealth_queue (s : State) (r : HealthChange) : (s.sendHealth r).queue = s.queue := rfl

@[simp] theorem State.sendChargerHealth_pending (s : State) (r : HealthChange) : (s.sendChargerHealth r).pending = s.pending := rfl
@[simp] theorem State.sendChargerHealth_runTime (s : State) (r : HealthChange) : (s.sendChargerHealth r).runTime = s.runTime := rfl
@[simp] theorem State.sendChargerHealth_draws (s : State) (r : HealthChange) : (s.sendChargerHealth r).draws = s.draws := rfl
@[simp] theorem State.sendChargerHealth_links (s : State) (r : HealthChange) : (s.sendChargerHealth r).links = s.links := rfl
@[simp] theorem State.sendChargerHealth_field (s : State) (r : HealthChange) : (s.sendChargerHealth r).field = s.field := rfl
@[simp] theorem State.sendChargerHealth_balance (s : State) (r : HealthChange) : (s.sendChargerHealth r).balance = s.balance := rfl
@[simp] theorem State.sendChargerHealth_dispatch (s : State) (r : HealthChange) : (s.sendChargerHealth r).dispatch = s.dispatch := rfl
@[simp] theorem State.sendChargerHealth_sessions (s : State) (r : HealthChange) : (s.sendChargerHealth r).sessions = s.sessions := rfl
@[simp] theorem State.sendChargerHealth_allocator (s : State) (r : HealthChange) : (s.sendChargerHealth r).allocator = s.allocator := rfl
@[simp] theorem State.sendChargerHealth_metering (s : State) (r : HealthChange) : (s.sendChargerHealth r).metering = s.metering := rfl
@[simp] theorem State.sendChargerHealth_store (s : State) (r : HealthChange) : (s.sendChargerHealth r).store = s.store := rfl
@[simp] theorem State.sendChargerHealth_builder (s : State) (r : HealthChange) : (s.sendChargerHealth r).builder = s.builder := rfl
@[simp] theorem State.sendChargerHealth_queue (s : State) (r : HealthChange) : (s.sendChargerHealth r).queue = s.queue := rfl

@[simp] theorem State.sendChargerReport_pending (s : State) (r : ChargerReport) : (s.sendChargerReport r).pending = s.pending := rfl
@[simp] theorem State.sendChargerReport_runTime (s : State) (r : ChargerReport) : (s.sendChargerReport r).runTime = s.runTime := rfl
@[simp] theorem State.sendChargerReport_draws (s : State) (r : ChargerReport) : (s.sendChargerReport r).draws = s.draws := rfl
@[simp] theorem State.sendChargerReport_links (s : State) (r : ChargerReport) : (s.sendChargerReport r).links = s.links := rfl
@[simp] theorem State.sendChargerReport_field (s : State) (r : ChargerReport) : (s.sendChargerReport r).field = s.field := rfl
@[simp] theorem State.sendChargerReport_balance (s : State) (r : ChargerReport) : (s.sendChargerReport r).balance = s.balance := rfl
@[simp] theorem State.sendChargerReport_dispatch (s : State) (r : ChargerReport) : (s.sendChargerReport r).dispatch = s.dispatch := rfl
@[simp] theorem State.sendChargerReport_sessions (s : State) (r : ChargerReport) : (s.sendChargerReport r).sessions = s.sessions := rfl
@[simp] theorem State.sendChargerReport_allocator (s : State) (r : ChargerReport) : (s.sendChargerReport r).allocator = s.allocator := rfl
@[simp] theorem State.sendChargerReport_metering (s : State) (r : ChargerReport) : (s.sendChargerReport r).metering = s.metering := rfl
@[simp] theorem State.sendChargerReport_store (s : State) (r : ChargerReport) : (s.sendChargerReport r).store = s.store := rfl
@[simp] theorem State.sendChargerReport_builder (s : State) (r : ChargerReport) : (s.sendChargerReport r).builder = s.builder := rfl
@[simp] theorem State.sendChargerReport_queue (s : State) (r : ChargerReport) : (s.sendChargerReport r).queue = s.queue := rfl

@[simp] theorem State.sendReading_pending (s : State) (r : MeterReading) : (s.sendReading r).pending = s.pending := rfl
@[simp] theorem State.sendReading_runTime (s : State) (r : MeterReading) : (s.sendReading r).runTime = s.runTime := rfl
@[simp] theorem State.sendReading_draws (s : State) (r : MeterReading) : (s.sendReading r).draws = s.draws := rfl
@[simp] theorem State.sendReading_links (s : State) (r : MeterReading) : (s.sendReading r).links = s.links := rfl
@[simp] theorem State.sendReading_field (s : State) (r : MeterReading) : (s.sendReading r).field = s.field := rfl
@[simp] theorem State.sendReading_balance (s : State) (r : MeterReading) : (s.sendReading r).balance = s.balance := rfl
@[simp] theorem State.sendReading_dispatch (s : State) (r : MeterReading) : (s.sendReading r).dispatch = s.dispatch := rfl
@[simp] theorem State.sendReading_sessions (s : State) (r : MeterReading) : (s.sendReading r).sessions = s.sessions := rfl
@[simp] theorem State.sendReading_allocator (s : State) (r : MeterReading) : (s.sendReading r).allocator = s.allocator := rfl
@[simp] theorem State.sendReading_metering (s : State) (r : MeterReading) : (s.sendReading r).metering = s.metering := rfl
@[simp] theorem State.sendReading_store (s : State) (r : MeterReading) : (s.sendReading r).store = s.store := rfl
@[simp] theorem State.sendReading_builder (s : State) (r : MeterReading) : (s.sendReading r).builder = s.builder := rfl
@[simp] theorem State.sendReading_queue (s : State) (r : MeterReading) : (s.sendReading r).queue = s.queue := rfl

@[simp] theorem State.sendReadingApplied_pending (s : State) (r : ReadingApplied) : (s.sendReadingApplied r).pending = s.pending := rfl
@[simp] theorem State.sendReadingApplied_runTime (s : State) (r : ReadingApplied) : (s.sendReadingApplied r).runTime = s.runTime := rfl
@[simp] theorem State.sendReadingApplied_draws (s : State) (r : ReadingApplied) : (s.sendReadingApplied r).draws = s.draws := rfl
@[simp] theorem State.sendReadingApplied_links (s : State) (r : ReadingApplied) : (s.sendReadingApplied r).links = s.links := rfl
@[simp] theorem State.sendReadingApplied_field (s : State) (r : ReadingApplied) : (s.sendReadingApplied r).field = s.field := rfl
@[simp] theorem State.sendReadingApplied_balance (s : State) (r : ReadingApplied) : (s.sendReadingApplied r).balance = s.balance := rfl
@[simp] theorem State.sendReadingApplied_dispatch (s : State) (r : ReadingApplied) : (s.sendReadingApplied r).dispatch = s.dispatch := rfl
@[simp] theorem State.sendReadingApplied_sessions (s : State) (r : ReadingApplied) : (s.sendReadingApplied r).sessions = s.sessions := rfl
@[simp] theorem State.sendReadingApplied_allocator (s : State) (r : ReadingApplied) : (s.sendReadingApplied r).allocator = s.allocator := rfl
@[simp] theorem State.sendReadingApplied_metering (s : State) (r : ReadingApplied) : (s.sendReadingApplied r).metering = s.metering := rfl
@[simp] theorem State.sendReadingApplied_store (s : State) (r : ReadingApplied) : (s.sendReadingApplied r).store = s.store := rfl
@[simp] theorem State.sendReadingApplied_builder (s : State) (r : ReadingApplied) : (s.sendReadingApplied r).builder = s.builder := rfl
@[simp] theorem State.sendReadingApplied_queue (s : State) (r : ReadingApplied) : (s.sendReadingApplied r).queue = s.queue := rfl

@[simp] theorem State.sendBatteryReport_pending (s : State) (r : ReportValues) : (s.sendBatteryReport r).pending = s.pending := rfl
@[simp] theorem State.sendBatteryReport_runTime (s : State) (r : ReportValues) : (s.sendBatteryReport r).runTime = s.runTime := rfl
@[simp] theorem State.sendBatteryReport_draws (s : State) (r : ReportValues) : (s.sendBatteryReport r).draws = s.draws := rfl
@[simp] theorem State.sendBatteryReport_links (s : State) (r : ReportValues) : (s.sendBatteryReport r).links = s.links := rfl
@[simp] theorem State.sendBatteryReport_field (s : State) (r : ReportValues) : (s.sendBatteryReport r).field = s.field := rfl
@[simp] theorem State.sendBatteryReport_balance (s : State) (r : ReportValues) : (s.sendBatteryReport r).balance = s.balance := rfl
@[simp] theorem State.sendBatteryReport_dispatch (s : State) (r : ReportValues) : (s.sendBatteryReport r).dispatch = s.dispatch := rfl
@[simp] theorem State.sendBatteryReport_sessions (s : State) (r : ReportValues) : (s.sendBatteryReport r).sessions = s.sessions := rfl
@[simp] theorem State.sendBatteryReport_allocator (s : State) (r : ReportValues) : (s.sendBatteryReport r).allocator = s.allocator := rfl
@[simp] theorem State.sendBatteryReport_metering (s : State) (r : ReportValues) : (s.sendBatteryReport r).metering = s.metering := rfl
@[simp] theorem State.sendBatteryReport_store (s : State) (r : ReportValues) : (s.sendBatteryReport r).store = s.store := rfl
@[simp] theorem State.sendBatteryReport_builder (s : State) (r : ReportValues) : (s.sendBatteryReport r).builder = s.builder := rfl
@[simp] theorem State.sendBatteryReport_queue (s : State) (r : ReportValues) : (s.sendBatteryReport r).queue = s.queue := rfl

@[simp] theorem State.sendFreshness_pending (s : State) (r : Bool) : (s.sendFreshness r).pending = s.pending := rfl
@[simp] theorem State.sendFreshness_runTime (s : State) (r : Bool) : (s.sendFreshness r).runTime = s.runTime := rfl
@[simp] theorem State.sendFreshness_draws (s : State) (r : Bool) : (s.sendFreshness r).draws = s.draws := rfl
@[simp] theorem State.sendFreshness_links (s : State) (r : Bool) : (s.sendFreshness r).links = s.links := rfl
@[simp] theorem State.sendFreshness_field (s : State) (r : Bool) : (s.sendFreshness r).field = s.field := rfl
@[simp] theorem State.sendFreshness_balance (s : State) (r : Bool) : (s.sendFreshness r).balance = s.balance := rfl
@[simp] theorem State.sendFreshness_dispatch (s : State) (r : Bool) : (s.sendFreshness r).dispatch = s.dispatch := rfl
@[simp] theorem State.sendFreshness_sessions (s : State) (r : Bool) : (s.sendFreshness r).sessions = s.sessions := rfl
@[simp] theorem State.sendFreshness_allocator (s : State) (r : Bool) : (s.sendFreshness r).allocator = s.allocator := rfl
@[simp] theorem State.sendFreshness_metering (s : State) (r : Bool) : (s.sendFreshness r).metering = s.metering := rfl
@[simp] theorem State.sendFreshness_store (s : State) (r : Bool) : (s.sendFreshness r).store = s.store := rfl
@[simp] theorem State.sendFreshness_builder (s : State) (r : Bool) : (s.sendFreshness r).builder = s.builder := rfl
@[simp] theorem State.sendFreshness_queue (s : State) (r : Bool) : (s.sendFreshness r).queue = s.queue := rfl

@[simp] theorem State.sendSiteChange_pending (s : State) (r : SiteChange) : (s.sendSiteChange r).pending = s.pending := rfl
@[simp] theorem State.sendSiteChange_runTime (s : State) (r : SiteChange) : (s.sendSiteChange r).runTime = s.runTime := rfl
@[simp] theorem State.sendSiteChange_draws (s : State) (r : SiteChange) : (s.sendSiteChange r).draws = s.draws := rfl
@[simp] theorem State.sendSiteChange_links (s : State) (r : SiteChange) : (s.sendSiteChange r).links = s.links := rfl
@[simp] theorem State.sendSiteChange_field (s : State) (r : SiteChange) : (s.sendSiteChange r).field = s.field := rfl
@[simp] theorem State.sendSiteChange_balance (s : State) (r : SiteChange) : (s.sendSiteChange r).balance = s.balance := rfl
@[simp] theorem State.sendSiteChange_dispatch (s : State) (r : SiteChange) : (s.sendSiteChange r).dispatch = s.dispatch := rfl
@[simp] theorem State.sendSiteChange_sessions (s : State) (r : SiteChange) : (s.sendSiteChange r).sessions = s.sessions := rfl
@[simp] theorem State.sendSiteChange_allocator (s : State) (r : SiteChange) : (s.sendSiteChange r).allocator = s.allocator := rfl
@[simp] theorem State.sendSiteChange_metering (s : State) (r : SiteChange) : (s.sendSiteChange r).metering = s.metering := rfl
@[simp] theorem State.sendSiteChange_store (s : State) (r : SiteChange) : (s.sendSiteChange r).store = s.store := rfl
@[simp] theorem State.sendSiteChange_builder (s : State) (r : SiteChange) : (s.sendSiteChange r).builder = s.builder := rfl
@[simp] theorem State.sendSiteChange_queue (s : State) (r : SiteChange) : (s.sendSiteChange r).queue = s.queue := rfl

@[simp] theorem State.sendAllowance_pending (s : State) (r : Nat) : (s.sendAllowance r).pending = s.pending := rfl
@[simp] theorem State.sendAllowance_runTime (s : State) (r : Nat) : (s.sendAllowance r).runTime = s.runTime := rfl
@[simp] theorem State.sendAllowance_draws (s : State) (r : Nat) : (s.sendAllowance r).draws = s.draws := rfl
@[simp] theorem State.sendAllowance_links (s : State) (r : Nat) : (s.sendAllowance r).links = s.links := rfl
@[simp] theorem State.sendAllowance_field (s : State) (r : Nat) : (s.sendAllowance r).field = s.field := rfl
@[simp] theorem State.sendAllowance_balance (s : State) (r : Nat) : (s.sendAllowance r).balance = s.balance := rfl
@[simp] theorem State.sendAllowance_dispatch (s : State) (r : Nat) : (s.sendAllowance r).dispatch = s.dispatch := rfl
@[simp] theorem State.sendAllowance_sessions (s : State) (r : Nat) : (s.sendAllowance r).sessions = s.sessions := rfl
@[simp] theorem State.sendAllowance_allocator (s : State) (r : Nat) : (s.sendAllowance r).allocator = s.allocator := rfl
@[simp] theorem State.sendAllowance_metering (s : State) (r : Nat) : (s.sendAllowance r).metering = s.metering := rfl
@[simp] theorem State.sendAllowance_store (s : State) (r : Nat) : (s.sendAllowance r).store = s.store := rfl
@[simp] theorem State.sendAllowance_builder (s : State) (r : Nat) : (s.sendAllowance r).builder = s.builder := rfl
@[simp] theorem State.sendAllowance_queue (s : State) (r : Nat) : (s.sendAllowance r).queue = s.queue := rfl

@[simp] theorem State.sendEarlyRequest_pending (s : State) : (s.sendEarlyRequest).pending = s.pending := rfl
@[simp] theorem State.sendEarlyRequest_runTime (s : State) : (s.sendEarlyRequest).runTime = s.runTime := rfl
@[simp] theorem State.sendEarlyRequest_draws (s : State) : (s.sendEarlyRequest).draws = s.draws := rfl
@[simp] theorem State.sendEarlyRequest_links (s : State) : (s.sendEarlyRequest).links = s.links := rfl
@[simp] theorem State.sendEarlyRequest_field (s : State) : (s.sendEarlyRequest).field = s.field := rfl
@[simp] theorem State.sendEarlyRequest_balance (s : State) : (s.sendEarlyRequest).balance = s.balance := rfl
@[simp] theorem State.sendEarlyRequest_dispatch (s : State) : (s.sendEarlyRequest).dispatch = s.dispatch := rfl
@[simp] theorem State.sendEarlyRequest_sessions (s : State) : (s.sendEarlyRequest).sessions = s.sessions := rfl
@[simp] theorem State.sendEarlyRequest_allocator (s : State) : (s.sendEarlyRequest).allocator = s.allocator := rfl
@[simp] theorem State.sendEarlyRequest_metering (s : State) : (s.sendEarlyRequest).metering = s.metering := rfl
@[simp] theorem State.sendEarlyRequest_store (s : State) : (s.sendEarlyRequest).store = s.store := rfl
@[simp] theorem State.sendEarlyRequest_builder (s : State) : (s.sendEarlyRequest).builder = s.builder := rfl
@[simp] theorem State.sendEarlyRequest_queue (s : State) : (s.sendEarlyRequest).queue = s.queue := rfl

@[simp] theorem State.sendResultApplied_pending (s : State) : (s.sendResultApplied).pending = s.pending := rfl
@[simp] theorem State.sendResultApplied_runTime (s : State) : (s.sendResultApplied).runTime = s.runTime := rfl
@[simp] theorem State.sendResultApplied_draws (s : State) : (s.sendResultApplied).draws = s.draws := rfl
@[simp] theorem State.sendResultApplied_links (s : State) : (s.sendResultApplied).links = s.links := rfl
@[simp] theorem State.sendResultApplied_field (s : State) : (s.sendResultApplied).field = s.field := rfl
@[simp] theorem State.sendResultApplied_balance (s : State) : (s.sendResultApplied).balance = s.balance := rfl
@[simp] theorem State.sendResultApplied_dispatch (s : State) : (s.sendResultApplied).dispatch = s.dispatch := rfl
@[simp] theorem State.sendResultApplied_sessions (s : State) : (s.sendResultApplied).sessions = s.sessions := rfl
@[simp] theorem State.sendResultApplied_allocator (s : State) : (s.sendResultApplied).allocator = s.allocator := rfl
@[simp] theorem State.sendResultApplied_metering (s : State) : (s.sendResultApplied).metering = s.metering := rfl
@[simp] theorem State.sendResultApplied_store (s : State) : (s.sendResultApplied).store = s.store := rfl
@[simp] theorem State.sendResultApplied_builder (s : State) : (s.sendResultApplied).builder = s.builder := rfl
@[simp] theorem State.sendResultApplied_queue (s : State) : (s.sendResultApplied).queue = s.queue := rfl

@[simp] theorem State.sendAllocatorMessage_pending (s : State) (r : AllocatorMessage) : (s.sendAllocatorMessage r).pending = s.pending := rfl
@[simp] theorem State.sendAllocatorMessage_runTime (s : State) (r : AllocatorMessage) : (s.sendAllocatorMessage r).runTime = s.runTime := rfl
@[simp] theorem State.sendAllocatorMessage_draws (s : State) (r : AllocatorMessage) : (s.sendAllocatorMessage r).draws = s.draws := rfl
@[simp] theorem State.sendAllocatorMessage_links (s : State) (r : AllocatorMessage) : (s.sendAllocatorMessage r).links = s.links := rfl
@[simp] theorem State.sendAllocatorMessage_field (s : State) (r : AllocatorMessage) : (s.sendAllocatorMessage r).field = s.field := rfl
@[simp] theorem State.sendAllocatorMessage_balance (s : State) (r : AllocatorMessage) : (s.sendAllocatorMessage r).balance = s.balance := rfl
@[simp] theorem State.sendAllocatorMessage_dispatch (s : State) (r : AllocatorMessage) : (s.sendAllocatorMessage r).dispatch = s.dispatch := rfl
@[simp] theorem State.sendAllocatorMessage_sessions (s : State) (r : AllocatorMessage) : (s.sendAllocatorMessage r).sessions = s.sessions := rfl
@[simp] theorem State.sendAllocatorMessage_allocator (s : State) (r : AllocatorMessage) : (s.sendAllocatorMessage r).allocator = s.allocator := rfl
@[simp] theorem State.sendAllocatorMessage_metering (s : State) (r : AllocatorMessage) : (s.sendAllocatorMessage r).metering = s.metering := rfl
@[simp] theorem State.sendAllocatorMessage_store (s : State) (r : AllocatorMessage) : (s.sendAllocatorMessage r).store = s.store := rfl
@[simp] theorem State.sendAllocatorMessage_builder (s : State) (r : AllocatorMessage) : (s.sendAllocatorMessage r).builder = s.builder := rfl
@[simp] theorem State.sendAllocatorMessage_queue (s : State) (r : AllocatorMessage) : (s.sendAllocatorMessage r).queue = s.queue := rfl

@[simp] theorem State.sendResult_pending (s : State) (r : AllocationResult) : (s.sendResult r).pending = s.pending := rfl
@[simp] theorem State.sendResult_runTime (s : State) (r : AllocationResult) : (s.sendResult r).runTime = s.runTime := rfl
@[simp] theorem State.sendResult_draws (s : State) (r : AllocationResult) : (s.sendResult r).draws = s.draws := rfl
@[simp] theorem State.sendResult_links (s : State) (r : AllocationResult) : (s.sendResult r).links = s.links := rfl
@[simp] theorem State.sendResult_field (s : State) (r : AllocationResult) : (s.sendResult r).field = s.field := rfl
@[simp] theorem State.sendResult_balance (s : State) (r : AllocationResult) : (s.sendResult r).balance = s.balance := rfl
@[simp] theorem State.sendResult_dispatch (s : State) (r : AllocationResult) : (s.sendResult r).dispatch = s.dispatch := rfl
@[simp] theorem State.sendResult_sessions (s : State) (r : AllocationResult) : (s.sendResult r).sessions = s.sessions := rfl
@[simp] theorem State.sendResult_allocator (s : State) (r : AllocationResult) : (s.sendResult r).allocator = s.allocator := rfl
@[simp] theorem State.sendResult_metering (s : State) (r : AllocationResult) : (s.sendResult r).metering = s.metering := rfl
@[simp] theorem State.sendResult_store (s : State) (r : AllocationResult) : (s.sendResult r).store = s.store := rfl
@[simp] theorem State.sendResult_builder (s : State) (r : AllocationResult) : (s.sendResult r).builder = s.builder := rfl
@[simp] theorem State.sendResult_queue (s : State) (r : AllocationResult) : (s.sendResult r).queue = s.queue := rfl

@[simp] theorem State.sendChargerTarget_pending (s : State) (r : ChargerTarget) : (s.sendChargerTarget r).pending = s.pending := rfl
@[simp] theorem State.sendChargerTarget_runTime (s : State) (r : ChargerTarget) : (s.sendChargerTarget r).runTime = s.runTime := rfl
@[simp] theorem State.sendChargerTarget_draws (s : State) (r : ChargerTarget) : (s.sendChargerTarget r).draws = s.draws := rfl
@[simp] theorem State.sendChargerTarget_links (s : State) (r : ChargerTarget) : (s.sendChargerTarget r).links = s.links := rfl
@[simp] theorem State.sendChargerTarget_field (s : State) (r : ChargerTarget) : (s.sendChargerTarget r).field = s.field := rfl
@[simp] theorem State.sendChargerTarget_balance (s : State) (r : ChargerTarget) : (s.sendChargerTarget r).balance = s.balance := rfl
@[simp] theorem State.sendChargerTarget_dispatch (s : State) (r : ChargerTarget) : (s.sendChargerTarget r).dispatch = s.dispatch := rfl
@[simp] theorem State.sendChargerTarget_sessions (s : State) (r : ChargerTarget) : (s.sendChargerTarget r).sessions = s.sessions := rfl
@[simp] theorem State.sendChargerTarget_allocator (s : State) (r : ChargerTarget) : (s.sendChargerTarget r).allocator = s.allocator := rfl
@[simp] theorem State.sendChargerTarget_metering (s : State) (r : ChargerTarget) : (s.sendChargerTarget r).metering = s.metering := rfl
@[simp] theorem State.sendChargerTarget_store (s : State) (r : ChargerTarget) : (s.sendChargerTarget r).store = s.store := rfl
@[simp] theorem State.sendChargerTarget_builder (s : State) (r : ChargerTarget) : (s.sendChargerTarget r).builder = s.builder := rfl
@[simp] theorem State.sendChargerTarget_queue (s : State) (r : ChargerTarget) : (s.sendChargerTarget r).queue = s.queue := rfl

@[simp] theorem State.sendHandover_pending (s : State) (r : Handover) : (s.sendHandover r).pending = s.pending := rfl
@[simp] theorem State.sendHandover_runTime (s : State) (r : Handover) : (s.sendHandover r).runTime = s.runTime := rfl
@[simp] theorem State.sendHandover_draws (s : State) (r : Handover) : (s.sendHandover r).draws = s.draws := rfl
@[simp] theorem State.sendHandover_links (s : State) (r : Handover) : (s.sendHandover r).links = s.links := rfl
@[simp] theorem State.sendHandover_field (s : State) (r : Handover) : (s.sendHandover r).field = s.field := rfl
@[simp] theorem State.sendHandover_balance (s : State) (r : Handover) : (s.sendHandover r).balance = s.balance := rfl
@[simp] theorem State.sendHandover_dispatch (s : State) (r : Handover) : (s.sendHandover r).dispatch = s.dispatch := rfl
@[simp] theorem State.sendHandover_sessions (s : State) (r : Handover) : (s.sendHandover r).sessions = s.sessions := rfl
@[simp] theorem State.sendHandover_allocator (s : State) (r : Handover) : (s.sendHandover r).allocator = s.allocator := rfl
@[simp] theorem State.sendHandover_metering (s : State) (r : Handover) : (s.sendHandover r).metering = s.metering := rfl
@[simp] theorem State.sendHandover_store (s : State) (r : Handover) : (s.sendHandover r).store = s.store := rfl
@[simp] theorem State.sendHandover_builder (s : State) (r : Handover) : (s.sendHandover r).builder = s.builder := rfl
@[simp] theorem State.sendHandover_queue (s : State) (r : Handover) : (s.sendHandover r).queue = s.queue := rfl

@[simp] theorem State.sendActivation_pending (s : State) (r : Nat) : (s.sendActivation r).pending = s.pending := rfl
@[simp] theorem State.sendActivation_runTime (s : State) (r : Nat) : (s.sendActivation r).runTime = s.runTime := rfl
@[simp] theorem State.sendActivation_draws (s : State) (r : Nat) : (s.sendActivation r).draws = s.draws := rfl
@[simp] theorem State.sendActivation_links (s : State) (r : Nat) : (s.sendActivation r).links = s.links := rfl
@[simp] theorem State.sendActivation_field (s : State) (r : Nat) : (s.sendActivation r).field = s.field := rfl
@[simp] theorem State.sendActivation_balance (s : State) (r : Nat) : (s.sendActivation r).balance = s.balance := rfl
@[simp] theorem State.sendActivation_dispatch (s : State) (r : Nat) : (s.sendActivation r).dispatch = s.dispatch := rfl
@[simp] theorem State.sendActivation_sessions (s : State) (r : Nat) : (s.sendActivation r).sessions = s.sessions := rfl
@[simp] theorem State.sendActivation_allocator (s : State) (r : Nat) : (s.sendActivation r).allocator = s.allocator := rfl
@[simp] theorem State.sendActivation_metering (s : State) (r : Nat) : (s.sendActivation r).metering = s.metering := rfl
@[simp] theorem State.sendActivation_store (s : State) (r : Nat) : (s.sendActivation r).store = s.store := rfl
@[simp] theorem State.sendActivation_builder (s : State) (r : Nat) : (s.sendActivation r).builder = s.builder := rfl
@[simp] theorem State.sendActivation_queue (s : State) (r : Nat) : (s.sendActivation r).queue = s.queue := rfl

@[simp] theorem State.sendHandOver_pending (s : State) (r : Nat) : (s.sendHandOver r).pending = s.pending := rfl
@[simp] theorem State.sendHandOver_runTime (s : State) (r : Nat) : (s.sendHandOver r).runTime = s.runTime := rfl
@[simp] theorem State.sendHandOver_draws (s : State) (r : Nat) : (s.sendHandOver r).draws = s.draws := rfl
@[simp] theorem State.sendHandOver_links (s : State) (r : Nat) : (s.sendHandOver r).links = s.links := rfl
@[simp] theorem State.sendHandOver_field (s : State) (r : Nat) : (s.sendHandOver r).field = s.field := rfl
@[simp] theorem State.sendHandOver_balance (s : State) (r : Nat) : (s.sendHandOver r).balance = s.balance := rfl
@[simp] theorem State.sendHandOver_dispatch (s : State) (r : Nat) : (s.sendHandOver r).dispatch = s.dispatch := rfl
@[simp] theorem State.sendHandOver_sessions (s : State) (r : Nat) : (s.sendHandOver r).sessions = s.sessions := rfl
@[simp] theorem State.sendHandOver_allocator (s : State) (r : Nat) : (s.sendHandOver r).allocator = s.allocator := rfl
@[simp] theorem State.sendHandOver_metering (s : State) (r : Nat) : (s.sendHandOver r).metering = s.metering := rfl
@[simp] theorem State.sendHandOver_store (s : State) (r : Nat) : (s.sendHandOver r).store = s.store := rfl
@[simp] theorem State.sendHandOver_builder (s : State) (r : Nat) : (s.sendHandOver r).builder = s.builder := rfl
@[simp] theorem State.sendHandOver_queue (s : State) (r : Nat) : (s.sendHandOver r).queue = s.queue := rfl

@[simp] theorem State.sendStoreFree_pending (s : State) : (s.sendStoreFree).pending = s.pending := rfl
@[simp] theorem State.sendStoreFree_runTime (s : State) : (s.sendStoreFree).runTime = s.runTime := rfl
@[simp] theorem State.sendStoreFree_draws (s : State) : (s.sendStoreFree).draws = s.draws := rfl
@[simp] theorem State.sendStoreFree_links (s : State) : (s.sendStoreFree).links = s.links := rfl
@[simp] theorem State.sendStoreFree_field (s : State) : (s.sendStoreFree).field = s.field := rfl
@[simp] theorem State.sendStoreFree_balance (s : State) : (s.sendStoreFree).balance = s.balance := rfl
@[simp] theorem State.sendStoreFree_dispatch (s : State) : (s.sendStoreFree).dispatch = s.dispatch := rfl
@[simp] theorem State.sendStoreFree_sessions (s : State) : (s.sendStoreFree).sessions = s.sessions := rfl
@[simp] theorem State.sendStoreFree_allocator (s : State) : (s.sendStoreFree).allocator = s.allocator := rfl
@[simp] theorem State.sendStoreFree_metering (s : State) : (s.sendStoreFree).metering = s.metering := rfl
@[simp] theorem State.sendStoreFree_store (s : State) : (s.sendStoreFree).store = s.store := rfl
@[simp] theorem State.sendStoreFree_builder (s : State) : (s.sendStoreFree).builder = s.builder := rfl
@[simp] theorem State.sendStoreFree_queue (s : State) : (s.sendStoreFree).queue = s.queue := rfl

@[simp] theorem State.sendRoom_pending (s : State) : (s.sendRoom).pending = s.pending := rfl
@[simp] theorem State.sendRoom_runTime (s : State) : (s.sendRoom).runTime = s.runTime := rfl
@[simp] theorem State.sendRoom_draws (s : State) : (s.sendRoom).draws = s.draws := rfl
@[simp] theorem State.sendRoom_links (s : State) : (s.sendRoom).links = s.links := rfl
@[simp] theorem State.sendRoom_field (s : State) : (s.sendRoom).field = s.field := rfl
@[simp] theorem State.sendRoom_balance (s : State) : (s.sendRoom).balance = s.balance := rfl
@[simp] theorem State.sendRoom_dispatch (s : State) : (s.sendRoom).dispatch = s.dispatch := rfl
@[simp] theorem State.sendRoom_sessions (s : State) : (s.sendRoom).sessions = s.sessions := rfl
@[simp] theorem State.sendRoom_allocator (s : State) : (s.sendRoom).allocator = s.allocator := rfl
@[simp] theorem State.sendRoom_metering (s : State) : (s.sendRoom).metering = s.metering := rfl
@[simp] theorem State.sendRoom_store (s : State) : (s.sendRoom).store = s.store := rfl
@[simp] theorem State.sendRoom_builder (s : State) : (s.sendRoom).builder = s.builder := rfl
@[simp] theorem State.sendRoom_queue (s : State) : (s.sendRoom).queue = s.queue := rfl

end Sys2Proof.Machine
end

