-- ==== Sys2Proof/Laws/Ops.lean ====
section
/-! SUPPORT. One lemma for each shared operation, saying what it does, so that no later proof unfolds it. -/

namespace Sys2Proof.Machine

/-! ### Bytes -/

@[simp] theorem le_length (k n : Nat) : (le k n).length = k := by
  induction k generalizing n with
  | zero => rfl
  | succ k ih => simp [le, ih]

/-- What `k` bytes hold of a number comes back; the rest of it does not (R174). -/
theorem ofLe_le (k n : Nat) : ofLe (le k n) = n % 256 ^ k := by
  induction k generalizing n with
  | zero => simp [le, ofLe, Nat.mod_one]
  | succ k ih =>
    have h : (BitVec.ofNat 8 (n % 256)).toNat = n % 256 := by
      rw [BitVec.toNat_ofNat]; exact Nat.mod_mod_of_dvd _ (dvd_refl _)
    rw [le, ofLe, ih, h, pow_succ', Nat.mod_mul]

theorem ofLe_le_of_lt {k n : Nat} (h : n < 256 ^ k) : ofLe (le k n) = n := by rw [ofLe_le, Nat.mod_eq_of_lt h]

theorem textBytes_length {n : Nat} {t : Text} (h : Text.wf n t = true) (hn : n ≤ 200) :
    n + (textBytes t).length ≤ 240 := by
  cases t with
  | none => simp [textBytes]; omega
  | some b => simp [textBytes, Text.wf] at *; omega

@[simp] theorem checkBytes_length (c : Check) : (checkBytes c).length = 2 := by simp [checkBytes]

/-! ### Tables numbered from 1 -/

theorem nth_put {α : Type} {n : Nat} (v : Vector α n) (d x : α) (i j : Nat) (h1 : 1 ≤ i) (h2 : i ≤ n) :
    nth (put v i x) d j = if j = i then x else nth v d j := by
  unfold nth put
  by_cases hj : j = 0
  · simp [hj]; omega
  · have : i ≠ 0 := by omega
    simp only [this, if_false, hj, Vector.getElem?_setIfInBounds]
    by_cases h : j = i
    · subst h; simp; rw [if_pos (by omega)]; rfl
    · have : ¬ (i - 1 = j - 1) := by omega
      simp [h, this]

/-- Outside the table nothing is replaced. -/
theorem put_outside {α : Type} {n : Nat} (v : Vector α n) (i : Nat) (x : α) (h : i < 1 ∨ n < i) : put v i x = v := by
  unfold put
  split
  · rfl
  · exact Vector.ext fun j hj => by rw [Vector.getElem_setIfInBounds]; split <;> [omega; rfl]

theorem FieldLinkController.unit_setUnit (f : FieldLinkController) (u v : Nat) (x : FieldUnit) (h1 : 1 ≤ u) (h2 : u ≤ 39) :
    (f.setUnit u x).unit v = if v = u then x else f.unit v := by
  simp only [FieldLinkController.unit, FieldLinkController.setUnit, nth_put _ _ _ _ _ h1 h2]

theorem SessionController.record_setRecord (c : SessionController) (p q : Nat) (r : PortRecord) (h1 : 1 ≤ p)
    (h2 : p ≤ 32) : (c.setRecord p r).record q = if q = p then r else c.record q := by
  simp only [SessionController.record, SessionController.setRecord, nth_put _ _ _ _ _ h1 h2]

theorem TariffStore.slot_setSlot (t : TariffStore) (k j : Nat) (x : TariffSlot) (h : k < 8) :
    (t.setSlot k x).slot j = if j = k then x else t.slot j := by
  simp only [TariffStore.slot, TariffStore.setSlot, Vector.getElem?_setIfInBounds]
  by_cases e : j = k
  · subst e; simp [h]
  · simp [e, Ne.symm e]

/-- What is taken is the first element that meets the test, and the others stay in their order. -/
theorem takeFirst_eq_some {α : Type} {p : α → Bool} {xs rest : List α} {x : α} (h : takeFirst p xs = some (x, rest)) :
    p x = true ∧ ∃ before, xs = before ++ x :: (rest.drop before.length) ∧ rest.take before.length = before ∧
      ∀ y ∈ before, p y = false := by
  induction xs generalizing rest with
  | nil => simp [takeFirst] at h
  | cons y ys ih =>
    simp only [takeFirst] at h
    split at h
    · cases h; exact ⟨‹_›, [], by simp⟩
    · obtain ⟨⟨z, r⟩, hz, hr⟩ := Option.map_eq_some_iff.1 h
      simp only [Prod.mk.injEq] at hr
      obtain ⟨rfl, rfl⟩ := hr
      obtain ⟨hp, b, e, t, hb⟩ := ih hz
      refine ⟨hp, y :: b, by simpa using e, by simpa using t, ?_⟩
      simp_all

theorem takeFirst_eq_none {α : Type} {p : α → Bool} {xs : List α} : takeFirst p xs = none ↔ ∀ x ∈ xs, p x = false := by
  induction xs with
  | nil => simp [takeFirst]
  | cons y ys ih => by_cases h : p y = true <;> simp [takeFirst, h, ih]

/-! ### The links -/

@[simp] theorem LinkController.port_setPort (c : LinkController) (l m : Link) (p : LinkPort) :
    (c.setPort l p).port m = if m = l then p else c.port m := by cases l <;> cases m <;> rfl

@[simp] theorem LinkController.setPort_part (c : LinkController) (l : Link) (p : LinkPort) :
    (c.setPort l p).part = c.part := by cases l <;> rfl

@[simp] theorem LinkController.setPort_clock (c : LinkController) (l : Link) (p : LinkPort) :
    (c.setPort l p).clock = c.clock := by cases l <;> rfl

@[simp] theorem LinkController.setPort_routes (c : LinkController) (l : Link) (p : LinkPort) :
    (c.setPort l p).routes = c.routes := by cases l <;> rfl

@[simp] theorem LinkController.setPort_setPort (c : LinkController) (l : Link) (p q : LinkPort) :
    (c.setPort l p).setPort l q = c.setPort l q := by cases l <;> rfl

@[simp] theorem LinkController.settle_part (c : LinkController) : c.settle.part = c.part := rfl
@[simp] theorem LinkController.settle_clock (c : LinkController) : c.settle.clock = c.clock := rfl
@[simp] theorem LinkController.settle_routes (c : LinkController) : c.settle.routes = c.routes := rfl
@[simp] theorem LinkController.raise_part (c : LinkController) (k : NoticeKind) (d : Nat) :
    (c.raise k d).part = c.part := rfl
@[simp] theorem LinkController.raise_clock (c : LinkController) (k : NoticeKind) (d : Nat) :
    (c.raise k d).clock = c.clock := rfl
@[simp] theorem LinkController.raise_routes (c : LinkController) (k : NoticeKind) (d : Nat) :
    (c.raise k d).routes = c.routes := rfl

/-- What a transmitter begins depends on the link controller's routes only. -/
theorem LinkController.begin_congr {c d : LinkController} (h : c.routes = d.routes) (p : LinkPort) :
    c.begin p = d.begin p := by
  have : c.nextNotice p = d.nextNotice p := by
    unfold LinkController.nextNotice
    congr 1
    funext b k
    simp only [LinkController.better, LinkController.route, h]
    cases p.entry k <;> cases b <;> rfl
  simp only [LinkController.begin, this]

/-- A choice made is kept (R163). -/
@[simp] theorem LinkController.begin_begin (c : LinkController) (p : LinkPort) : c.begin (c.begin p) = c.begin p := by
  cases ht : p.transmitter with
  | sending src f => simp [LinkController.begin, ht]
  | idle =>
    cases hs : p.slot with
    | some r => simp [LinkController.begin, ht, hs]
    | none =>
      cases hh : p.holder with
      | some r => simp [LinkController.begin, ht, hs, hh]
      | none =>
        cases hn : c.nextNotice p with
        | none => simp [LinkController.begin, ht, hs, hh, hn]
        | some k =>
          cases he : p.entry k with
          | none => simp [LinkController.begin, ht, hs, hh, hn, he]
          | some e => simp [LinkController.begin, ht, hs, hh, hn, he]

@[simp] theorem LinkController.settle_settle (c : LinkController) : c.settle.settle = c.settle := by
  have h : c.settle.settle = { c.settle with site := c.begin (c.begin c.site), till := c.begin (c.begin c.till) } := rfl
  rw [h, LinkController.begin_begin, LinkController.begin_begin]
  rfl

@[simp] theorem State.settle_settle (s : State) : s.settle.settle = s.settle := by
  simp [State.settle]

/-- Every command that acts ends settled (R163). -/
theorem settled_of_done {s t : State} (h : done s = .next t) : t.links.Settled := by
  simp only [done, Host.Outcome.next.injEq] at h
  subst h
  exact LinkController.settle_settle _

theorem done_eq_next {s t : State} : done s = .next t ↔ s.settle = t := by simp [done]

theorem nothing_eq_next {s t : State} : nothing s = .next t ↔ s = t := by simp [nothing]

/-! ### Serving a request (R162 to R165) -/

/-- A request that finds the slot HELD (R162). -/
theorem serve_held {α : Type} (l : Link) (kind tag : Byte) (till : Bool) (al : Allowed) (g : State → α → Bool)
    (h : State → α → Handled) (p : Payload α) (s : State) (hl : ¬ s.slotFree l) :
    serve l kind tag till al g h p s = .next (s.refusedBusy l kind tag) := by
  cases l <;> simp only [State.slotFree, LinkController.port] at hl
  all_goals
    obtain ⟨r, hr⟩ := Option.ne_none_iff_exists'.1 hl
    simp only [serve, State.frameEnd, LinkController.port, LinkController.setPort, hr,
      State.refuseBusy, done, State.settle, State.refusedBusy, State.setLinks]
    split <;> simp_all

/-- A request that finds the slot FREE: the checks of R164, then the reply in the slot. -/
theorem serve_free {α : Type} (l : Link) (kind tag : Byte) (till : Bool) (al : Allowed) (g : State → α → Bool)
    (h : State → α → Handled) (p : Payload α) (s : State) (hl : s.slotFree l) :
    serve l kind tag till al g h p s =
      done (((answer l till al g h p (s.frameEnd l)).state).place l
        (mkReply kind tag (answer l till al g h p (s.frameEnd l)).status (answer l till al g h p (s.frameEnd l)).body)) := by
  cases l <;> simp only [State.slotFree, LinkController.port] at hl <;>
    simp only [serve, State.frameEnd, LinkController.port, LinkController.setPort, State.setLinks_links, hl]

/-- The reply of a request that leaves every block but the link as it was. -/
theorem done_place_frameEnd (s : State) (l : Link) (kind tag : Byte) (status : Status) (body : List Byte) :
    done ((s.frameEnd l).place l (mkReply kind tag status body)) = .next (s.replied l kind tag status body) := by
  cases l <;> rfl

/-- A request refused by the checks of R164 or by its owner. -/
theorem serve_refused {α : Type} (l : Link) (kind tag : Byte) (till : Bool) (al : Allowed) (g : State → α → Bool)
    (h : State → α → Handled) (p : Payload α) (s : State) (status : Status) (hl : s.slotFree l)
    (ha : answer l till al g h p (s.frameEnd l) = refuse (s.frameEnd l) status) :
    serve l kind tag till al g h p s = .next (s.replied l kind tag status []) := by
  rw [serve_free _ _ _ _ _ _ _ _ _ hl, ha]
  exact done_place_frameEnd ..

@[simp] theorem State.frameEnd_part (s : State) (l : Link) : (s.frameEnd l).links.part = s.links.part := by
  cases l <;> rfl

/-- A request of the site link that passes the checks of R164. -/
theorem serve_site {α : Type} (kind tag : Byte) (till : Bool) (al : Allowed) (g : State → α → Bool)
    (h : State → α → Handled) (f : α) (s : State) (hl : s.slotFree .site) (hal : al.refusal s.links.part = none) :
    serve .site kind tag till al g h (.fits f) s =
      done (((h (s.frameEnd .site) f).state).place .site
        (mkReply kind tag (h (s.frameEnd .site) f).status (h (s.frameEnd .site) f).body)) := by
  rw [serve_free _ _ _ _ _ _ _ _ _ hl]
  simp [answer, hal]

/-- A request of the till link that passes the checks of R164. -/
theorem serve_till {α : Type} (kind tag : Byte) (al : Allowed) (g : State → α → Bool) (h : State → α → Handled) (f : α)
    (s : State) (hl : s.slotFree .till) (hal : al.refusal s.links.part = none) (hg : g (s.frameEnd .till) f = true) :
    serve .till kind tag true al g h (.fits f) s =
      done (((h (s.frameEnd .till) f).state).place .till
        (mkReply kind tag (h (s.frameEnd .till) f).status (h (s.frameEnd .till) f).body)) := by
  rw [serve_free _ _ _ _ _ _ _ _ _ hl]
  simp [answer, hal, hg]

/-! ### Sessions -/

/-- With distinct numbers, an update is the one of the session found. -/
theorem SessionController.update_const (c : SessionController) (x : Session) (f : Session → Session)
    (h : c.find x.number = some x) (hn : (c.table.map Session.number).Nodup) :
    c.update x.number f = c.update x.number (fun _ => f x) := by
  simp only [SessionController.update]
  congr 1
  apply List.map_congr_left
  intro y hy
  by_cases e : y.number = x.number
  · have := List.inj_on_of_nodup_map hn hy (List.mem_of_find?_eq_some h) e
    simp [this]
  · simp [e]

/-- A transition applies its change to the session found. -/
theorem State.transition_const (s : State) (x : Session) (f : Session → Session)
    (h : s.sessions.find x.number = some x) :
    s.transition x.number f = s.transition x.number (fun _ => f x) := by
  simp [State.transition, h]

/-- A transition of no session is none. -/
theorem State.transition_none (s : State) (n : Nat) (f : Session → Session) (h : s.sessions.find n = none) :
    s.transition n f = s := by simp [State.transition, h]

/-- LOCKOUT alone (R12): nothing changes but the charger targets, which lose no target but a PAUSE for the port. -/
theorem State.lockoutAlone_eq (s : State) (sent p : Nat) :
    ∃ targets, s.lockoutAlone sent p = s.setEvents { s.events with chargerTargets := targets } ∧
      targets.Sublist s.events.chargerTargets ∧
      ∀ t ∈ s.events.chargerTargets, t.port ≠ p ∨ t.mode ≠ .pause → t ∈ targets := by
  unfold State.lockoutAlone
  split
  · exact ⟨s.events.chargerTargets, rfl, List.Sublist.refl _, fun _ ht _ => ht⟩
  · refine ⟨_, rfl, ?_, fun t ht h => ?_⟩
    · conv => rhs; rw [← List.take_append_drop sent s.events.chargerTargets]
      exact List.Sublist.append (List.Sublist.refl _) List.filter_sublist
    · rw [← List.take_append_drop sent s.events.chargerTargets, List.mem_append] at ht
      rw [List.mem_append, List.mem_filter]
      refine ht.imp id fun ht => ⟨ht, ?_⟩
      obtain h | h := h <;> simp [h]

/-! ### The store-free event (R135) -/

/-- A store in operation, or an empty list: the event is used up. -/
theorem execStoreFree_used {s : State} {n : Nat} (hn : s.events.storeFree = n + 1)
    (h : s.store.operation.isSome = true ∨ s.builder.pricing = []) :
    execStoreFree s = done (s.setEvents { s.events with storeFree := n }) := by
  unfold execStoreFree
  obtain h | h := h
  · obtain ⟨op, ho⟩ := Option.isSome_iff_exists.mp h
    simp [hn, ho]
  · simp [hn, h]

/-- The head of the list is priced; the event is used up with the last one. -/
theorem execStoreFree_head {s : State} {n m : Nat} {rest : List Nat} (hn : s.events.storeFree = n + 1)
    (ho : s.store.operation = none) (hp : s.builder.pricing = m :: rest) :
    execStoreFree s = done ((if rest = [] then s.setEvents { s.events with storeFree := n } else s).priceHead m) := by
  simp [execStoreFree, hn, ho, hp]

end Sys2Proof.Machine
end

