-- ==== Sys2Proof/Laws/PerInstr.lean ====
section
/-! SUPPORT. What holds of every command as syntax, one lemma for each constructor: a request has a head, its kind is one
of the request kinds of section 11.3, and it has a payload exactly when the payload fits, of no more bytes than a frame
carries; no other command has either. -/

namespace Sys2Proof.Laws.LinkOperands

open Sys2Proof.Machine

def Statement (i : Instr) : Prop :=
  (requestHead i = none → requestPayload i = none) ∧
  ∀ h, requestHead i = some h → 1 ≤ h.kind.toNat ∧ h.kind.toNat ≤ 0x62 ∧
    ((requestPayload i).isSome = h.fits) ∧
    (i.wf = true → ∀ p, requestPayload i = some p → p.length ≤ 240)

/-- A command that is no request has neither head nor payload. -/
theorem Statement.ofNone (i : Instr) (h : requestHead i = none) (p : requestPayload i = none) : Statement i :=
  ⟨fun _ => p, fun x hx => by simp [h] at hx⟩

/-- A request whose payload is laid out by `lay`. -/
theorem Statement.ofPayload {α : Type} (i : Instr) (l : Link) (kind tag : Byte) (p : Payload α) (lay : α → List Byte)
    (hh : requestHead i = some ⟨l, kind, tag, fitting p⟩) (hp : requestPayload i = payloadBytes lay p)
    (hk : 1 ≤ kind.toNat ∧ kind.toNat ≤ 0x62)
    (hw : i.wf = true → ∀ f, p = .fits f → (lay f).length ≤ 240) : Statement i := by
  refine ⟨fun h => by simp [hh] at h, fun h hx => ?_⟩
  rw [hh] at hx
  cases hx
  refine ⟨hk.1, hk.2, by cases p <;> simp [hp, payloadBytes, fitting], fun hi q hq => ?_⟩
  rw [hp] at hq
  cases p with
  | misfit => simp [payloadBytes] at hq
  | fits f => simp only [payloadBytes, Option.some.injEq] at hq; exact hq ▸ hw hi f rfl

theorem powerOnReset : Statement .powerOnReset := .ofNone _ rfl rfl

theorem interByteTimeout (l : Link) : Statement (.interByteTimeout l) := .ofNone _ rfl rfl

theorem frameDiscard (l : Link) : Statement (.frameDiscard l) := .ofNone _ rfl rfl

theorem busyRefusal (l : Link) (kind tag : Byte) : Statement (.busyRefusal l kind tag) := .ofNone _ rfl rfl

theorem unknownKind (l : Link) (kind tag : Byte) : Statement (.unknownKind l kind tag) := .ofNone _ rfl rfl

theorem transmitEnd (l : Link) : Statement (.transmitEnd l) := .ofNone _ rfl rfl

theorem siteClockTick : Statement .siteClockTick := .ofNone _ rfl rfl

theorem setSite (l : Link) (tag : Byte) (p : Payload SiteFields) : Statement (.setSite l tag p) := by
  refine .ofPayload _ _ _ _ p _ rfl rfl (by decide) fun _ f _ => ?_
  simp [siteFieldBytes]

theorem setFeeder (l : Link) (tag : Byte) (p : Payload FeederFields) : Statement (.setFeeder l tag p) := by
  refine .ofPayload _ _ _ _ p _ rfl rfl (by decide) fun _ f _ => ?_
  simp [feederFieldBytes]

theorem setPort (l : Link) (tag : Byte) (p : Payload PortFields) : Statement (.setPort l tag p) := by
  refine .ofPayload _ _ _ _ p _ rfl rfl (by decide) fun _ f _ => ?_
  simp [portFieldBytes]

theorem setUnit (l : Link) (tag : Byte) (p : Payload UnitFields) : Statement (.setUnit l tag p) := by
  refine .ofPayload _ _ _ _ p _ rfl rfl (by decide) fun _ f _ => ?_
  simp [unitFieldBytes]

theorem setBatteryPolicy (l : Link) (tag : Byte) (p : Payload PolicyFields) :
    Statement (.setBatteryPolicy l tag p) := by
  refine .ofPayload _ _ _ _ p _ rfl rfl (by decide) fun _ f _ => ?_
  simp [policyFieldBytes]

theorem setTimers (l : Link) (tag : Byte) (p : Payload TimerFields) : Statement (.setTimers l tag p) := by
  refine .ofPayload _ _ _ _ p _ rfl rfl (by decide) fun _ f _ => ?_
  simp [timerFieldBytes]

theorem setWatermarks (l : Link) (tag : Byte) (p : Payload WatermarkFields) : Statement (.setWatermarks l tag p) := by
  refine .ofPayload _ _ _ _ p _ rfl rfl (by decide) fun _ f _ => ?_
  simp [watermarkFieldBytes]

theorem setNoticeRoute (l : Link) (tag : Byte) (p : Payload RouteFields) : Statement (.setNoticeRoute l tag p) := by
  refine .ofPayload _ _ _ _ p _ rfl rfl (by decide) fun _ f _ => ?_
  simp [routeFieldBytes]

theorem setTillAccess (l : Link) (tag : Byte) (p : Payload TillFields) : Statement (.setTillAccess l tag p) := by
  refine .ofPayload _ _ _ _ p _ rfl rfl (by decide) fun _ f _ => ?_
  simp [tillFieldBytes]

theorem setQueueLevels (l : Link) (tag : Byte) (p : Payload LevelFields) : Statement (.setQueueLevels l tag p) := by
  refine .ofPayload _ _ _ _ p _ rfl rfl (by decide) fun _ f _ => ?_
  simp [levelFieldBytes]

theorem setTime (l : Link) (tag : Byte) (p : Payload Nat) : Statement (.setTime l tag p) := by
  refine .ofPayload _ _ _ _ p _ rfl rfl (by decide) fun _ f _ => ?_
  simp

theorem goLive (l : Link) (tag : Byte) (p : Payload Unit) : Statement (.goLive l tag p) := by
  refine .ofPayload _ _ _ _ p _ rfl rfl (by decide) fun _ f _ => ?_
  simp

theorem restart (l : Link) (tag : Byte) (p : Payload Nat) : Statement (.restart l tag p) := by
  refine .ofPayload _ _ _ _ p _ rfl rfl (by decide) fun _ f _ => ?_
  simp

theorem authorize (l : Link) (tag : Byte) (p : Payload AuthorizeFields) : Statement (.authorize l tag p) := by
  refine .ofPayload _ _ _ _ p _ rfl rfl (by decide) fun hw f hf => ?_
  subst hf
  simp only [Instr.wf, Payload.wf, AuthorizeFields.wf, Bool.and_eq_true] at hw
  have := textBytes_length hw.2 (by decide)
  simp only [authorizeFieldBytes, List.length_append, le_length]
  omega

theorem holdPort (l : Link) (tag : Byte) (p : Payload Nat) : Statement (.holdPort l tag p) := by
  refine .ofPayload _ _ _ _ p _ rfl rfl (by decide) fun _ f _ => ?_
  simp

theorem releasePort (l : Link) (tag : Byte) (p : Payload Nat) : Statement (.releasePort l tag p) := by
  refine .ofPayload _ _ _ _ p _ rfl rfl (by decide) fun _ f _ => ?_
  simp

theorem stopSession (l : Link) (tag : Byte) (p : Payload Nat) : Statement (.stopSession l tag p) := by
  refine .ofPayload _ _ _ _ p _ rfl rfl (by decide) fun _ f _ => ?_
  simp

theorem setDeparture (l : Link) (tag : Byte) (p : Payload DepartureFields) : Statement (.setDeparture l tag p) := by
  refine .ofPayload _ _ _ _ p _ rfl rfl (by decide) fun _ f _ => ?_
  simp [departureFieldBytes]

theorem sessionStatus (l : Link) (tag : Byte) (p : Payload Nat) : Statement (.sessionStatus l tag p) := by
  refine .ofPayload _ _ _ _ p _ rfl rfl (by decide) fun _ f _ => ?_
  simp

theorem portStatus (l : Link) (tag : Byte) (p : Payload Nat) : Statement (.portStatus l tag p) := by
  refine .ofPayload _ _ _ _ p _ rfl rfl (by decide) fun _ f _ => ?_
  simp

theorem linkPurchase (l : Link) (tag : Byte) (p : Payload PurchaseFields) : Statement (.linkPurchase l tag p) := by
  refine .ofPayload _ _ _ _ p _ rfl rfl (by decide) fun hw f hf => ?_
  subst hf
  simp only [Instr.wf, Payload.wf, PurchaseFields.wf, Bool.and_eq_true] at hw
  have := textBytes_length hw.2 (by decide)
  simp only [purchaseFieldBytes, List.length_append, le_length]
  omega

theorem programTariff (l : Link) (tag : Byte) (p : Payload ProgramFields) : Statement (.programTariff l tag p) := by
  refine .ofPayload _ _ _ _ p _ rfl rfl (by decide) fun hw f hf => ?_
  subst hf
  simp only [Instr.wf, Payload.wf, ProgramFields.wf, TariffFields.wf, Bool.and_eq_true] at hw
  have := textBytes_length hw.2.2 (by decide)
  simp only [programFieldBytes, tariffFieldBytes, List.length_append, le_length]
  omega

theorem eraseTariff (l : Link) (tag : Byte) (p : Payload Nat) : Statement (.eraseTariff l tag p) := by
  refine .ofPayload _ _ _ _ p _ rfl rfl (by decide) fun _ f _ => ?_
  simp

theorem activateTariff (l : Link) (tag : Byte) (p : Payload Nat) : Statement (.activateTariff l tag p) := by
  refine .ofPayload _ _ _ _ p _ rfl rfl (by decide) fun _ f _ => ?_
  simp

theorem readTariff (l : Link) (tag : Byte) (p : Payload Nat) : Statement (.readTariff l tag p) := by
  refine .ofPayload _ _ _ _ p _ rfl rfl (by decide) fun _ f _ => ?_
  simp

theorem readReceipt (l : Link) (tag : Byte) (p : Payload Unit) : Statement (.readReceipt l tag p) := by
  refine .ofPayload _ _ _ _ p _ rfl rfl (by decide) fun _ f _ => ?_
  simp

theorem setMark (l : Link) (tag : Byte) (p : Payload Unit) : Statement (.setMark l tag p) := by
  refine .ofPayload _ _ _ _ p _ rfl rfl (by decide) fun _ f _ => ?_
  simp

theorem rewind (l : Link) (tag : Byte) (p : Payload Unit) : Statement (.rewind l tag p) := by
  refine .ofPayload _ _ _ _ p _ rfl rfl (by decide) fun _ f _ => ?_
  simp

theorem releaseMark (l : Link) (tag : Byte) (p : Payload Unit) : Statement (.releaseMark l tag p) := by
  refine .ofPayload _ _ _ _ p _ rfl rfl (by decide) fun _ f _ => ?_
  simp

theorem flushQueue (l : Link) (tag : Byte) (p : Payload Unit) : Statement (.flushQueue l tag p) := by
  refine .ofPayload _ _ _ _ p _ rfl rfl (by decide) fun _ f _ => ?_
  simp

theorem receiptCopy (l : Link) (tag : Byte) (p : Payload CopyFields) : Statement (.receiptCopy l tag p) := by
  refine .ofPayload _ _ _ _ p _ rfl rfl (by decide) fun _ f _ => ?_
  simp [copyFieldBytes]

theorem queueStatus (l : Link) (tag : Byte) (p : Payload Unit) : Statement (.queueStatus l tag p) := by
  refine .ofPayload _ _ _ _ p _ rfl rfl (by decide) fun _ f _ => ?_
  simp

theorem readDiscrepancy (l : Link) (tag : Byte) (p : Payload Unit) : Statement (.readDiscrepancy l tag p) := by
  refine .ofPayload _ _ _ _ p _ rfl rfl (by decide) fun _ f _ => ?_
  simp

theorem clearDiscrepancy (l : Link) (tag : Byte) (p : Payload Unit) : Statement (.clearDiscrepancy l tag p) := by
  refine .ofPayload _ _ _ _ p _ rfl rfl (by decide) fun _ f _ => ?_
  simp

theorem siteStatus (l : Link) (tag : Byte) (p : Payload Nat) : Statement (.siteStatus l tag p) := by
  refine .ofPayload _ _ _ _ p _ rfl rfl (by decide) fun _ f _ => ?_
  simp

theorem allocStatus (l : Link) (tag : Byte) (p : Payload Nat) : Statement (.allocStatus l tag p) := by
  refine .ofPayload _ _ _ _ p _ rfl rfl (by decide) fun _ f _ => ?_
  simp

theorem unitStatus (l : Link) (tag : Byte) (p : Payload Nat) : Statement (.unitStatus l tag p) := by
  refine .ofPayload _ _ _ _ p _ rfl rfl (by decide) fun _ f _ => ?_
  simp

theorem pollEnd : Statement .pollEnd := .ofNone _ rfl rfl

theorem fieldReply (f : FieldFrame) : Statement (.fieldReply f) := .ofNone _ rfl rfl

theorem replyTimeout : Statement .replyTimeout := .ofNone _ rfl rfl

theorem chargerReport (port : Nat) : Statement (.chargerReport port) := .ofNone _ rfl rfl

theorem chargerTarget (port : Nat) : Statement (.chargerTarget port) := .ofNone _ rfl rfl

theorem readingApplied (port : Nat) : Statement (.readingApplied port) := .ofNone _ rfl rfl

theorem authorizationTimeout (session : Nat) : Statement (.authorizationTimeout session) := .ofNone _ rfl rfl

theorem dormantTimeout (session : Nat) : Statement (.dormantTimeout session) := .ofNone _ rfl rfl

theorem idleSecondTick (session : Nat) : Statement (.idleSecondTick session) := .ofNone _ rfl rfl

theorem closingTimeout (session : Nat) : Statement (.closingTimeout session) := .ofNone _ rfl rfl

theorem allocationResultSessions : Statement .allocationResultSessions := .ofNone _ rfl rfl

theorem reclassification : Statement .reclassification := .ofNone _ rfl rfl

theorem siteStateChangeSessions : Statement .siteStateChangeSessions := .ofNone _ rfl rfl

theorem chargerHealthChange (port : Nat) : Statement (.chargerHealthChange port) := .ofNone _ rfl rfl

theorem activationEvent : Statement .activationEvent := .ofNone _ rfl rfl

theorem reportArrival (unit : Nat) : Statement (.reportArrival unit) := .ofNone _ rfl rfl

theorem staleTimerExpiry (unit : Nat) : Statement (.staleTimerExpiry unit) := .ofNone _ rfl rfl

theorem unitHealthChange (unit : Nat) : Statement (.unitHealthChange unit) := .ofNone _ rfl rfl

theorem fallbackHoldExpiry (port : Nat) : Statement (.fallbackHoldExpiry port) := .ofNone _ rfl rfl

theorem restoreTimerExpiry : Statement .restoreTimerExpiry := .ofNone _ rfl rfl

theorem dischargeAllowanceChange : Statement .dischargeAllowanceChange := .ofNone _ rfl rfl

theorem earlyRequest : Statement .earlyRequest := .ofNone _ rfl rfl

theorem roundPeriodExpiry : Statement .roundPeriodExpiry := .ofNone _ rfl rfl

theorem spacingTimerExpiry : Statement .spacingTimerExpiry := .ofNone _ rfl rfl

theorem resultApplied : Statement .resultApplied := .ofNone _ rfl rfl

theorem allocationResultField : Statement .allocationResultField := .ofNone _ rfl rfl

theorem allocationResultDispatch : Statement .allocationResultDispatch := .ofNone _ rfl rfl

theorem batteryReport : Statement .batteryReport := .ofNone _ rfl rfl

theorem batteryFreshnessChange : Statement .batteryFreshnessChange := .ofNone _ rfl rfl

theorem siteStateChangeDispatch : Statement .siteStateChangeDispatch := .ofNone _ rfl rfl

theorem dispatchHandover : Statement .dispatchHandover := .ofNone _ rfl rfl

theorem readingApplication (port : Nat) : Statement (.readingApplication port) := .ofNone _ rfl rfl

theorem erasingEnd : Statement .erasingEnd := .ofNone _ rfl rfl

theorem writingEnd : Statement .writingEnd := .ofNone _ rfl rfl

theorem operationCompletion (verified : Bool) : Statement (.operationCompletion verified) := .ofNone _ rfl rfl

theorem siteStateChangeStore : Statement .siteStateChangeStore := .ofNone _ rfl rfl

theorem handOver : Statement .handOver := .ofNone _ rfl rfl

theorem storeFree : Statement .storeFree := .ofNone _ rfl rfl

theorem roomEvent : Statement .roomEvent := .ofNone _ rfl rfl

theorem receivedByte (l : Link) (b : Byte) : Statement (.receivedByte l b) := .ofNone _ rfl rfl

end Sys2Proof.Laws.LinkOperands
end

