-- ==== Sys2Proof/Tests/Slice0.lean ====
section
/-! SUPPORT. Tests: ill-formed commands that the check refuses, figures of the manual's worked examples, and for every
statement with hypotheses states and operands that meet them. -/

namespace Sys2Proof.Tests

open Sys2Proof.Machine

-- One theorem at a time: in parallel, each that waits for the kernel holds a thread and its stack.
set_option Elab.async false

/-! ### Ill-formed commands -/

theorem test_wf_fields_too_wide :
    (Instr.setSite .site 0 (.fits
      { importLimit := 65536, margin := 0, exportLimit := 0, storePeak := 0, fallback := 0, nextReceipt := 0 })).wf = false ∧
    (Instr.setFeeder .site 0 (.fits { feeder := 256, cap := 1 })).wf = false ∧
    (Instr.setPort .site 0 (.fits
      { port := 1, present := 1, feeder := 1, cls := 1, ratedMax := 65536, minimum := 0, address := 1,
        freeVend := 0 })).wf = false ∧
    (Instr.setUnit .site 0 (.fits { kind := 2, inverter := 1, address := 1, rated := 4294967296, present := 1 })).wf = false ∧
    (Instr.setBatteryPolicy .site 0 (.fits
      { hardFloor := 65536, softReserve := 0, fullLimit := 0, dischargeCap := 0, chargeCap := 0, topUp := 0 })).wf = false ∧
    (Instr.setTimers .site 0 (.fits
      { authorization := 65536, dormant := 0, closing := 0, stale := 0, restore := 0, fallbackHold := 0, period := 0,
        reply := 0 })).wf = false ∧
    (Instr.setWatermarks .site 0 (.fits { high := 256, urgent := 1 })).wf = false ∧
    (Instr.setNoticeRoute .site 0 (.fits { kind := 256, route := 0, priority := 0 })).wf = false ∧
    (Instr.setTillAccess .site 0 (.fits { grant := 256, first := 1, last := 1 })).wf = false ∧
    (Instr.setQueueLevels .site 0 (.fits { notify := 256, high := 1 })).wf = false ∧
    (Instr.setTime .site 0 (.fits 4294967296)).wf = false ∧ (Instr.restart .site 0 (.fits 256)).wf = false := by
  decide +kernel

theorem test_wf_selectors_too_wide :
    (Instr.authorize .site 0 (.fits { port := 256, departure := 0, customer := none })).wf = false ∧
    (Instr.setDeparture .site 0 (.fits { session := 65536, departure := 0 })).wf = false ∧
    (Instr.linkPurchase .till 0 (.fits { session := 1, amount := 16777216, reference := none })).wf = false ∧
    (Instr.receiptCopy .site 0 (.fits { selector := 256, value := 0 })).wf = false ∧
    (Instr.holdPort .site 0 (.fits 256)).wf = false ∧ (Instr.releasePort .site 0 (.fits 256)).wf = false ∧
    (Instr.portStatus .site 0 (.fits 256)).wf = false ∧ (Instr.stopSession .site 0 (.fits 65536)).wf = false ∧
    (Instr.sessionStatus .site 0 (.fits 65536)).wf = false ∧ (Instr.eraseTariff .site 0 (.fits 256)).wf = false ∧
    (Instr.activateTariff .site 0 (.fits 256)).wf = false ∧ (Instr.readTariff .site 0 (.fits 256)).wf = false ∧
    (Instr.siteStatus .site 0 (.fits 256)).wf = false ∧ (Instr.allocStatus .site 0 (.fits 256)).wf = false ∧
    (Instr.unitStatus .site 0 (.fits 256)).wf = false := by decide +kernel

/-- A customer reference of 236 bytes leaves no room for the 5 fixed bytes. -/
theorem test_wf_text_too_long :
    (Instr.authorize .site 0 (.fits { port := 1, departure := 0, customer := some (List.replicate 235 0#8) })).wf = false ∧
    (Instr.authorize .site 0 (.fits { port := 1, departure := 0, customer := some (List.replicate 234 0#8) })).wf = true := by
  decide +kernel

theorem test_wf_event_selectors :
    (Instr.chargerReport 0).wf = false ∧ (Instr.chargerReport 33).wf = false ∧ (Instr.chargerTarget 33).wf = false ∧
    (Instr.readingApplied 33).wf = false ∧ (Instr.chargerHealthChange 0).wf = false ∧
    (Instr.fallbackHoldExpiry 33).wf = false ∧ (Instr.readingApplication 0).wf = false ∧
    (Instr.reportArrival 40).wf = false ∧ (Instr.unitHealthChange 0).wf = false ∧
    (Instr.staleTimerExpiry 32).wf = false ∧ (Instr.authorizationTimeout 0).wf = false ∧
    (Instr.dormantTimeout 65536).wf = false ∧ (Instr.idleSecondTick 0).wf = false ∧ (Instr.closingTimeout 0).wf = false ∧
    (Instr.fieldReply { address := 1, kind := 0x81, payload := List.replicate 255 0, check := 0 }).wf = false := by
  decide +kernel

/-! ### Small states -/

/-- The state after a command that completes; `s` itself otherwise. -/
def after (c : Instr) (s : State) : State :=
  match exec c s with
  | .next t => t
  | _ => s

/-- The body of the reply in the site slot. -/
def siteReply (s : State) : Option (Status × List Byte) := s.links.site.slot.map fun r => (r.status, r.body)

def anUnit (u : Nat) : FieldUnit := { FieldUnit.reset u with present := true, address := some u, health := .ok }

def aPort (freeVend : Bool) : PortEntry :=
  { feeder := 1, cls := .ac3, ratedMax := 110, minimum := 42, address := 3, freeVend := freeVend }

/-- The tariff of the worked price of chapter 8. -/
def evening : TariffFields :=
  { id := 41, solarRate := 2200, batteryRate := 3000, gridRate := 3900, idleGrace := 15, idleRate := 20, idleCap := 1500,
    step := 2000, perStep := 1000, allowanceCap := 5000, label := some [0x45, 0x56, 0x45, 0x4E, 0x49, 0x4E, 0x47] }

/-- A part in SETUP with port 3, both meters and the first feeder configured. -/
def setup : State :=
  { State.reset with
    sessions := { SessionController.reset with ports := put SessionController.reset.ports 3 (some (aPort false)) }
    allocator := { PowerAllocator.reset with feeders := #v[some 300, some 400, some 180, none] }
    field := ((FieldLinkController.reset.setUnit 3 (anUnit 3)).setUnit 33 (anUnit 33)).setUnit 34 (anUnit 34) }

/-- The same part LIVE and NORMAL, port 3 FREE, slot 1 VALID and active. -/
def live : State :=
  { setup with
    links := { LinkController.reset with part := .live }
    sessions := { setup.sessions with records := put setup.sessions.records 3 { PortRecord.reset with state := some .free } }
    balance := { SiteBalanceUnit.reset with siteState := .normal }
    store := { TariffStore.reset with
      slots := TariffStore.reset.slots.setIfInBounds 1 { bytes := slotImage 1 evening, state := .valid, uses := 0 }
      active := some 1, siteCopy := .normal } }

/-- Session 7 on port 3 in a state. -/
def aSession (state : SessionState) : Session :=
  { newSession State.reset 7 3 with
    state := state, demand := 110, effMin := 42, created := 5
    slot := if state = .plugged then none else some 1
    authorizationTimer := if state = .plugged then some 180000 else none
    dormantTimer := none, nextIdle := if state = .dormant then some 1000 else none
    closingTimer := if state = .closing then some 30000 else none
    handedOver := state == .pricing || state == .waitQueue }

/-- `live` with one session, its slot in use, its port IN_SESSION while it holds it. -/
def holding (x : Session) : State :=
  { live with
    sessions := { live.sessions with
      table := [x], counter := 8
      records := put live.sessions.records 3
        { PortRecord.reset with state := some (if x.holdsPort then .inSession else .free) } }
    store := if x.slot = some 1 ∧ x.state ≠ .waitQueue then live.store.bind 1 else live.store }

def aReceipt (session : Nat) : Receipt :=
  price { aSession .closing with number := session } (readTariff (slotImage 1 evening)) 1 LinkController.reset.clock

def aReply : Reply := mkReply 0x46 1 .ok []

/-- The site slot HELD. -/
def slotHeld (s : State) : State := s.setLinks { s.links with site := { s.links.site with slot := some aReply } }

/-! ### Bytes -/

/-- R175's check of the CRC. -/
theorem test_crc16_of_123456789 :
    crc16 [0x31, 0x32, 0x33, 0x34, 0x35, 0x36, 0x37, 0x38, 0x39] = 0x29B1#16 := by decide +kernel

/-- R174: least significant byte first, two's complement. -/
theorem test_watts_bytes : watts (-2) = [0xFE#8, 0xFF#8, 0xFF#8, 0xFF#8] ∧ le 2 0x1234 = [0x34#8, 0x12#8] := by
  decide +kernel

/-- No row of the table gives bits, so no word spells a command. -/
theorem test_no_word_spells_a_command : decodeTableWord 8 1 = none ∧ State.reset.withFetchWord 8 1 = State.reset := by
  decide +kernel

/-! ### Figures of the manual's worked examples -/

/-- A balance unit with the settings of the budget figures of chapter 2, a store load, two inverters and an allowance. -/
def budgetSite (load : Nat) (fresh1 fresh2 : Bool) (allowance : Nat) : SiteBalanceUnit :=
  { SiteBalanceUnit.reset with
    settings := { importLimit := 400, margin := 20, exportLimit := 0, storePeak := 360, fallback := 42 }
    siteState := .normal
    store := { value := some load, arrival := none, fresh := fresh1, timer := none }
    inverters := #v[{ value := some { output := 5100, available := 5100, curtailed := false }, arrival := none,
                      fresh := true, timer := none },
                    { value := some { output := 3200, available := 3200, curtailed := false }, arrival := none,
                      fresh := fresh2, timer := none }, Measurement.reset, Measurement.reset]
    allowance := allowance }

/-- Cases a, d, e, f and g of the budget figures. -/
theorem test_budget_figures :
    ([(338300, true, true, 0), (338300, false, true, 0), (338300, true, false, 0), (392050, true, true, 0),
      (338300, true, true, 24000)].map fun (load, f1, f2, w) =>
        let r := balanceOf FieldLinkController.reset SessionController.reset (budgetSite load f1 f2 w)
        (r.budgetW, r.budget, r.flags.storeOverload)) =
      [(50000, 500, false), (28300, 283, false), (46800, 468, false), (-3750, 0, true), (74000, 740, false)] := by
  decide +kernel

/-- Cases b and c of the budget figures: charger 7, on feeder 1, is LOST with a reservation of 100 and then of 42. -/
theorem test_phantom_figures :
    ([100, 42].map fun credits =>
        let r := balanceOf FieldLinkController.reset
          { SessionController.reset with ports := put SessionController.reset.ports 7 (some (aPort false)) }
          { budgetSite 338300 true true 0 with
            phantoms := put SiteBalanceUnit.reset.phantoms 7 (some { start := 100, current := credits, timer := none }) }
        (r.phantomTotal, nth r.phantomFeeder 0 1, nth r.phantomFeeder 0 2, r.budget)) =
      [(100, 100, 0, 400), (42, 42, 0, 458)] := by
  decide +kernel

/-- The mix figures of chapter 2. -/
theorem test_mix_figures :
    [mixOf 62000 25000 12400, mixOf 30000 71500 0, mixOf 48000 2100 0, mixOf 0 9000 5000] =
      [{ solar := 412, battery := 204, grid := 408 }, { solar := 1024, battery := 0, grid := 0 },
       { solar := 44, battery := 0, grid := 980 }, { solar := 0, battery := 0, grid := 1024 }] := by decide +kernel

/-- The six sessions of the worked rounds A and B. -/
def roundSessions : SessionController :=
  let port (feeder minimum : Nat) : Option PortEntry :=
    some { feeder := feeder, cls := .ac3, ratedMax := 500, minimum := minimum, address := 1, freeVend := false }
  let x (n p demand count : Nat) (departure : Option Nat) : Session :=
    { aSession .active with number := n, port := p, demand := demand, deferral := count, departure := departure }
  { SessionController.reset with
    ports := put (put (put (put (put (put SessionController.reset.ports 3 (port 1 42)) 5 (port 1 14)) 12 (port 2 100))
      14 (port 2 42)) 15 (port 2 42)) 7 (port 1 100)
    table := [x 1 3 110 0 (some 1840), x 2 5 74 2 none, x 3 12 500 5 none, x 4 14 110 0 (some 1820), x 5 15 30 1 none,
              x 6 7 400 0 none] }

def roundAllocator : PowerAllocator := { PowerAllocator.reset with feeders := #v[some 300, some 400, none, none] }

def roundFigures (budget : Nat) : List (Nat × Nat × Nat) × Nat × Nat :=
  let r := roundResult roundSessions roundAllocator { BalanceRecord.reset with siteState := .normal, budget := budget }
  (r.entries.map fun e => (e.session, e.allocation, e.count), r.total, r.deferred)

/-- Rounds A and B of section 3.10. -/
theorem test_worked_rounds :
    roundFigures 500 = ([(3, 100, 5), (2, 74, 1), (5, 30, 0), (4, 98, 0), (1, 98, 0), (6, 100, 0)], 500, 0) ∧
    roundFigures 250 = ([(3, 100, 5), (2, 36, 2), (5, 30, 0), (4, 42, 0), (1, 42, 0), (6, 0, 1)], 250, 1) := by
  decide +kernel

/-- R75's figures: 385 ‰ with release off and on, 620 ‰, 200 ‰. -/
theorem test_allowance_figures :
    ([(385, false), (385, true), (620, false), (200, true)].map fun (soc, urgent) =>
      allowanceOf true { BatteryDispatchUnit.reset with
        policy := { BatteryDispatchUnit.reset.policy with dischargeCap := 40000 }
        copy := some { soc := soc, power := 0, maxCharge := 30000, maxDischarge := 24000, state := .ready }
        fresh := true, urgent := urgent }) = [0, 24000, 24000, 0] := by decide +kernel

/-- The three inverters of section 4.8.2. -/
def canopy : FieldLinkController :=
  let x (u rated : Nat) : FieldUnit := { anUnit u with rated := some rated }
  ((FieldLinkController.reset.setUnit 35 (x 35 30000)).setUnit 36 (x 36 30000)).setUnit 37 (x 37 20000)

def canopyBalance : SiteBalanceUnit :=
  let m (w : Nat) : Measurement InverterValues :=
    { value := some { output := 0, available := w, curtailed := false }, arrival := none, fresh := true, timer := none }
  { SiteBalanceUnit.reset with inverters := #v[m 30000, m 26500, m 15000, Measurement.reset] }

theorem test_curtailment_figures :
    limitsOf canopy canopyBalance 71500 (some 62000) = [(1, 26015), (2, 22979), (3, 13006)] ∧
    limitsOf canopy canopyBalance 71500 (some 67000) = [(1, 28113), (2, 24832), (3, 14055)] := by decide +kernel

/-- The session of section 6.3 before its third report. -/
def metered : State :=
  let s := holding { aSession .active with allocation := 110, highest := 110, total := 11, solarAcc := 4532,
                                           batteryAcc := 2244 }
  { s with
    metering := { s.metering with meters := put s.metering.meters 3 { last := some 20011, arrival := some 104000,
                                                                      unbilled := 0 } }
    balance := { s.balance with record := { s.balance.record with mix := { solar := 300, battery := 0, grid := 724 } } }
    events := { s.events with readings := [{ port := 3, value := some 20045, arrival := 106500, report := 9 }] } }

/-- Report 3 of section 6.3.1: 20 of the 34 Wh are attributed, 14 are unbilled. -/
theorem test_reading_application_figures :
    let t := after (.readingApplication 3) metered
    t.sessions.table.map (fun x => (x.total, x.solarAcc, x.batteryAcc, x.gridWh, x.flags.clamped)) =
      [(31, 10532, 2244, 19, true)] ∧ (t.metering.meter 3).unbilled = 14 ∧ t.metering.log.minor = 1 := by decide +kernel

/-- Steps 1 and 6 of section 6.5: a rollback is MAJOR and overwrites a MINOR record. -/
theorem test_reading_application_rollback :
    let s := { metered with events := { metered.events with
      readings := [{ port := 3, value := some 0, arrival := 106500, report := 9 }] } }
    let t := after (.readingApplication 3) s
    t.metering.log.lock = .holdingMajor ∧ t.metering.log.record.map Discrepancy.last = some 20011 ∧
      (t.metering.meter 3).unbilled = 0 ∧ t.sessions.table.map Session.total = [11] := by decide +kernel

/-- The worked price of section 8.3. -/
theorem test_price_figures :
    let x := { aSession .closing with
      total := 18640, solarAcc := 6210 * 1024, batteryAcc := 2030 * 1024, idle := 1500
      links := [{ reference := List.replicate 8 0x54, amount := 8640 }, { reference := List.replicate 8 0x55, amount := 2315 }] }
    let r := price x (readTariff (slotImage 1 evening)) 1 LinkController.reset.clock
    (r.purchases, r.earned, r.applied, r.taken.grid, r.billed.grid) = (10955, 5000, 5000, 5000, 5400) ∧
      (r.line.solar, r.line.battery, r.line.grid, r.idleFee, r.amount) = (137, 61, 211, 200, 609) := by decide +kernel

/-- The second session of section 8.3: the allowance passes from the grid to the battery. -/
theorem test_price_figures_second :
    let x := { aSession .closing with
      total := 4730, solarAcc := 900 * 1024, batteryAcc := 2030 * 1024, idle := 50
      links := [{ reference := List.replicate 8 0x54, amount := 6100 }] }
    let r := price x (readTariff (slotImage 1 evening)) 1 LinkController.reset.clock
    (r.taken.grid, r.taken.battery, r.taken.solar, r.amount) = (1800, 1200, 0, 45) := by decide +kernel

/-- R5's figure: an acceptance of 7,450 W is a demand of 75 credits. -/
theorem test_charger_report_demand :
    let s := { live with events := { live.events with chargerReports :=
      [{ port := 3, connected := true, acceptance := 7450, power := 0, fault := false, hasReading := true, report := 1 }] } }
    let t := after (.chargerReport 3) s
    t.sessions.table.map (fun x => (x.number, x.port, x.state, x.demand, x.effMin)) = [(1, 3, .plugged, 75, 42)] ∧
      t.links.site.transmitter = .sending .notice (.notice { kind := .sessionChange, count := 1, data := 1 }) := by
  decide +kernel

/-- R12: a disconnect whose reading has been applied already ends the session at once, and LOCKOUT alone is sent. -/
theorem test_charger_report_lockout_alone :
    let s := holding (aSession .active)
    let s : State := { s with
      sessions := { s.sessions with
        records := put s.sessions.records 3 { PortRecord.reset with state := some .inSession, applied := some 4 } }
      events := { s.events with chargerReports :=
        [{ port := 3, connected := false, acceptance := 0, power := 0, fault := false, hasReading := true, report := 4 }] } }
    let t := after (.chargerReport 3) s
    t.events.chargerTargets = [{ port := 3, mode := .lockout, setpoint := 0 }] ∧ t.events.handOvers = [7] := by
  decide +kernel

/-- R135: one store-free command prices one session of the list; the event goes on while the list has a head. -/
theorem test_store_free_prices_one :
    let s := holding (aSession .pricing)
    let s : State := { s with
      sessions := { s.sessions with table := [aSession .pricing, { aSession .pricing with number := 8 }] }
      builder := { s.builder with pricing := [7, 8] }
      events := { s.events with storeFree := 1 } }
    let t := after .storeFree s
    let u := after .storeFree t
    (t.queue.retained.map Receipt.session, t.builder.pricing, t.events.storeFree) = ([7], [8], 1) ∧
      (u.queue.retained.map Receipt.session, u.builder.pricing, u.events.storeFree) = ([7, 8], [], 0) := by decide +kernel

/-- R9: a plugged session is bound to the active slot and becomes ACTIVE. -/
theorem test_authorize :
    let t := after (.authorize .site 1 (.fits { port := 3, departure := 0, customer := some [0x41] })) (holding (aSession .plugged))
    siteReply t = some (.ok, [7, 0]) ∧ t.sessions.table.map Session.state = [.active] ∧ (t.store.slot 1).uses = 1 := by
  decide +kernel

/-- R18: a stop from ACTIVE sends PAUSE and starts the closing timer. -/
theorem test_stop_session :
    let t := after (.stopSession .site 1 (.fits 7)) (holding (aSession .active))
    t.sessions.table.map (fun x => (x.state, x.closingTimer, x.flags.stopped)) = [(.closing, some 30000, true)] ∧
      t.events.chargerTargets = [{ port := 3, mode := .pause, setpoint := 0 }] := by decide +kernel

/-- Steps 2 to 4 of section 10.8.1: raises gather; a request beside a reply not yet sent is BUSY. -/
theorem test_notices_gather :
    let s := ((live.raise .sessionChange 812).settle.raise .sessionChange 812).raise .sessionChange 815
    s.links.site.entry .sessionChange = some { count := 2, data := 815 } ∧
      (after (.queueStatus .site 9 (.fits ())) (slotHeld s)).links.site.holder = some (mkReply 0x46 9 .busy []) := by
  decide +kernel

/-- Step 1 of section 5.10: two decreases, the larger first; an increase is not queued. -/
theorem test_charger_target_decrease :
    let s := { live with
      field := live.field.setUnit 3 { anUnit 3 with delivered := .charger .run 98, target := .charger .run 98 }
      events := { live.events with chargerTargets := [{ port := 3, mode := .run, setpoint := 60 }] } }
    let t := after (.chargerTarget 3) s
    t.field.urgent = [{ unit := 3, figure := 3800 }] ∧ t.field.decrease = [3] := by decide +kernel

/-- R95: a valid reply to the poll of the grid meter. -/
theorem test_field_reply :
    let s := { live with field := { live.field with
      cycle := [33, 34], position := 1
      transaction := some { unit := 33, command := .meter, urgent := false, timeout := 40, replyTimer := some 40 } } }
    let f : FieldFrame := { address := 33, kind := byte (pollKind 33 + 128), payload := watts 50000 ++ [1], check := 0 }
    let t := after (.fieldReply { f with check := fieldCheck f }) s
    t.events.reports = [{ unit := 33, values := .grid 50000 true }] ∧ t.field.transaction.map Transaction.unit = some 34 := by
  decide +kernel

/-- R35: the return of the grid in ISLAND starts the restore timer. -/
theorem test_report_arrival_grid :
    let s := { live with
      balance := { live.balance with siteState := .island }
      events := { live.events with reports := [{ unit := 33, values := .grid 0 true }] } }
    let t := after (.reportArrival 33) s
    t.balance.siteState = .restoring ∧ t.balance.restoreTimer = some 60000 := by decide +kernel

/-- R168: GO_LIVE from a complete configuration, and R167's first item without a present port. -/
theorem test_go_live :
    (after (.goLive .site 1 (.fits ())) setup).links.part = .live ∧
      siteReply (after (.goLive .site 1 (.fits ())) State.reset) = some (.badConfig, [1, 0]) := by decide +kernel

/-- The site of section 5.3: chargers 1 to 24, inverters 1 and 2 and the battery. -/
theorem test_poll_cycle :
    let f := ((List.range' 1 24) ++ [35, 36, 39]).foldl (fun (f : FieldLinkController) u => f.setUnit u (anUnit u))
      FieldLinkController.reset
    pollCycle f = List.range' 1 8 ++ [33, 34] ++ List.range' 9 8 ++ [33, 34] ++ List.range' 17 8 ++ [33, 34, 35, 36, 39, 33, 34] := by
  decide +kernel

/-- R122: a label of 0 to 12 ASCII characters. -/
theorem test_label_is_ascii :
    [[0x41#8, 0x7F#8], [0x80#8], [0xC3#8, 0xA9#8]].map (fun t =>
      siteReply (after (.programTariff .site 1 (.fits { slot := 2, record := { evening with label := some t } })) live)) =
      [some (.accepted, []), some (.outOfRange, []), some (.outOfRange, [])] := by decide +kernel

/-- R123 to R125: the phases of a program, and its abort on entry to ISLAND. -/
theorem test_program_tariff :
    let t := after (.programTariff .site 1 (.fits { slot := 2, record := evening })) live
    siteReply t = some (.accepted, []) ∧ (t.store.slot 2).state = .busy ∧
      t.store.operation.map StoreOperation.phase = some .erasing := by decide +kernel

theorem test_site_state_change_store_aborts :
    let s := { live with
      store := { live.store with operation := some { slot := 2, kind := .erase, image := erasedPattern, phase := .verifying } }
      events := { live.events with siteToStore := [{ before := .normal, after := .island }] } }
    let t := after .siteStateChangeStore s
    t.store.operation = none ∧ (t.store.slot 2).state = .bad ∧ t.events.storeFree = 1 ∧
      t.links.site.transmitter = .sending .notice (.notice { kind := .tariffDone, count := 1, data := 131330 }) := by
  decide +kernel

/-- R153 and R155: a read under a mark keeps the receipt, REWIND makes it unread again. -/
theorem test_rewind :
    let s := { live with queue := { live.queue with retained := [aReceipt 7, aReceipt 8], mark := true } }
    let t := after (.readReceipt .site 1 (.fits ())) s
    let u := after (.rewind .site 2 (.fits ())) { t with links := live.links }
    t.queue.read = 1 ∧ t.queue.retained.length = 2 ∧ siteReply u = some (.ok, [2]) ∧ u.queue.read = 0 := by
  decide +kernel

/-! ### Witnesses: states and operands that meet the hypotheses of the statements, clause by clause -/

/-- A receiver HUNTING; one that takes the first length, the last and one on either side; one that goes on; and one that a
right check completes and a wrong one does not. -/
theorem witness_ReceiverCollectsAndDiscards :
    (live.links.port .site).receiver = .hunting ∧
    (∀ bytes : List Byte, ∃ s : State, (s.links.port .till).receiver = .collecting bytes 20) ∧
    (1#8).toNat < 2 ∧ 242 < (243#8).toNat ∧
    (∀ n ∈ [2#8, 242#8], ([] ++ [n] : List Byte) = n :: [] ∧ 2 ≤ n.toNat ∧ n.toNat ≤ 242 ∧ 0 < n.toNat + 2) ∧
    ([2#8, 0x46#8, 1#8, 0#8] : List Byte) = 2#8 :: ([0x46#8, 1#8] ++ [0#8]) ∧ [0x46#8, 1#8].length = (2#8).toNat ∧
    [0#8, 0#8] ≠ checkBytes (crc16 [2#8, 0x46#8, 1#8]) ∧
    (2#8).toNat = ([] : List Byte).length + 2 ∧ ∃ check b, [check, b] = checkBytes (crc16 [2#8, 0x46#8, 1#8]) :=
  ⟨by decide, fun bytes => ⟨live.setLinks { live.links with till := { LinkPort.reset with receiver := .collecting bytes 20 } }, rfl⟩,
    by decide, by decide, by decide, rfl, rfl, by decide +kernel, rfl, _, _, rfl⟩

theorem witness_RequestSentByteByByteExecutes :
    let c : Instr := .authorize .till 1 (.fits { port := 3, departure := 4294967295, customer := some [0x41] })
    c.wf = true ∧ requestHead c = some { link := .till, kind := 0x20, tag := 1, fits := true } ∧
      requestPayload c = some [3, 0xFF, 0xFF, 0xFF, 0xFF, 1, 0x41] ∧ (live.links.port .till).receiver = .hunting ∧
      live.links.Settled := by decide +kernel

theorem witness_RequestsAreCheckedInOrder :
    (¬ (slotHeld live).slotFree .site ∧ (requestHead (.queueStatus .site 1 (.fits ()))).isSome = true) ∧
    (live.slotFree .till ∧ ∀ c h, requestHead c = some h → h.kind ≠ 0x7F#8) ∧
    (requestHead (.setTime .till 1 .misfit) = some { link := .till, kind := 0x0B, tag := 1, fits := false } ∧
      0x0B#8 ∉ tillKinds) ∧
    (live.links.part = .live ∧ live.links.tillGrant = false) ∧
    (setup.links.part = .setup ∧ 0x20#8 ∈ liveOnlyKinds ∧ 0x20#8 ∈ tillKinds ∧ 0x0C#8 ∈ setupOnlyKinds) := by
  refine ⟨by decide, ⟨by decide, fun c h hc => ?_⟩, by decide, by decide, by decide⟩
  cases c <;> simp only [requestHead, Option.some.injEq, reduceCtorEq] at hc <;> subst hc <;> simp

/-- A transmitter SENDING from each place, and one that chooses among nothing, one entry and two of equal priority; the kinds
at the bounds of a request's; and the units at the bounds of each poll. -/
theorem witness_NoticesGatherAndAreSentInOrder :
    (∀ src ∈ [TransmitSource.slot, .holder, .notice, .detached], ∃ s : State, ∃ f,
      (s.links.port .site).transmitter = .sending src f) ∧
    (live.links.site.transmitter = .idle ∧ live.links.site.slot = none ∧ live.links.site.holder = none ∧
      noticeKinds.all fun k => (live.links.site.entry k).isNone) ∧
    (let p := ((live.raise .sessionChange 7).raise .queueHigh 2).links.site
     p.transmitter = .idle ∧ p.entry .queueHigh = some { count := 1, data := 2 } ∧
      (live.links.route .queueHigh).priority = (live.links.route .sessionChange).priority ∧
      NoticeKind.queueHigh.number < NoticeKind.sessionChange.number) ∧
    (0#8).toNat < 128 ∧ (127#8).toNat < 128 ∧
    (∀ u c, ∃ t : Transaction, t.unit = u ∧ t.command = c) ∧ (1 ≤ 32 ∧ 32 ≤ 32 ∧ 35 ≤ 35 ∧ 38 ≤ 38) := by
  refine ⟨fun src _ => ⟨live.setLinks { live.links with
    site := { LinkPort.reset with transmitter := .sending src (.reply aReply) } }, .reply aReply, rfl⟩, by decide, by decide,
    by decide, by decide, fun u c => ⟨{ unit := u, command := c, urgent := false, timeout := 40, replyTimer := none }, rfl, rfl⟩,
    by decide⟩

theorem witness_SiteClockTicksAndIsSet : (4294967295 : Nat) < 4294967296 ∧ live.slotFree .site := by decide

theorem witness_LinkAndQueueSettingsAreReplaced :
    live.slotFree .site ∧
    (let f : TillFields := { grant := 1, first := 1, last := 32 }
     f.grant ≤ 1 ∧ 1 ≤ f.first ∧ f.first ≤ f.last ∧ f.last ≤ 32) ∧
    (let f : TillFields := { grant := 0, first := 3, last := 2 }
     f.last < f.first) ∧
    (let f : RouteFields := { kind := 16, route := 3, priority := 7 }
     f.kind = NoticeKind.chargerFault.number ∧ routeOf f.route = some .both ∧ f.priority ≤ 7) ∧
    (let f : RouteFields := { kind := 17, route := 3, priority := 7 }
     16 < f.kind) ∧
    (let f : LevelFields := { notify := 1, high := 64 }
     1 ≤ f.notify ∧ f.notify ≤ 64 ∧ 1 ≤ f.high ∧ f.high ≤ 64) := by decide

/-- A unit of each kind at a free address, one at an address in use, an absent one, and an unknown kind. -/
theorem witness_FeederAndUnitAreConfigured :
    setup.slotFree .site ∧ setup.links.part = .setup ∧
    (let f : FeederFields := { feeder := 4, cap := 8000 }
     1 ≤ f.feeder ∧ f.feeder ≤ 4 ∧ 1 ≤ f.cap ∧ f.cap ≤ 8000) ∧
    ([(0, 33), (1, 34), (2, 38), (3, 39)].all fun (kind, u) =>
      let f : UnitFields := { kind := kind, inverter := 4, address := 247, rated := 1000000, present := 1 }
      decide (f.kind ≤ 3 ∧ 1 ≤ f.inverter ∧ f.inverter ≤ 4 ∧ 100 ≤ f.rated ∧ f.rated ≤ 1000000 ∧ f.address ≤ 247) &&
        !addressTaken setup.field u f.address && addressTaken setup.field u 3) = true ∧
    (let f : UnitFields := { kind := 3, inverter := 0, address := 1, rated := 0, present := 0 }
     f.kind ≤ 3 ∧ f.kind ≠ 2 ∧ 1 ≤ f.address ∧ f.present = 0) ∧
    (let f : UnitFields := { kind := 4, inverter := 1, address := 1, rated := 100, present := 1 }
     3 < f.kind) := by decide +kernel

theorem witness_SetPortReplacesOneEntry :
    let f : PortFields :=
      { port := 32, present := 1, feeder := 4, cls := 2, ratedMax := 2000, minimum := 0, address := 247, freeVend := 1 }
    setup.slotFree .site ∧ setup.links.part = .setup ∧ portClassOf f.cls = some .dc ∧ f.freeVend ≤ 1 ∧ f.port ≤ 32 ∧
      f.feeder ≤ 4 ∧ f.ratedMax ≤ 2000 ∧ addressTaken setup.field f.port f.address = false ∧
      addressTaken setup.field f.port 3 = true := by decide +kernel

theorem witness_SiteTimerAndWatermarkSettingsAreReplaced :
    live.slotFree .site ∧ live.links.part = .live ∧ setup.slotFree .site ∧ setup.links.part = .setup ∧
    (let f : SiteFields := { importLimit := 2000, margin := 100, exportLimit := 2000, storePeak := 1, fallback := 220,
                             nextReceipt := 0 }
     f.importLimit ≤ 2000 ∧ f.margin ≤ 100 ∧ f.margin < f.importLimit ∧ f.fallback ≤ 220 ∧ f.nextReceipt < 4294967296) ∧
    (let f : TimerFields := { authorization := 30, dormant := 3600, closing := 5, stale := 60, restore := 10,
                              fallbackHold := 600, period := 1, reply := 200 }
     30 ≤ f.authorization ∧ f.authorization ≤ 1800 ∧ 10 ≤ f.dormant ∧ f.dormant ≤ 3600 ∧ 5 ≤ f.closing ∧ f.closing ≤ 300 ∧
      2 ≤ f.stale ∧ f.stale ≤ 60 ∧ 10 ≤ f.restore ∧ f.restore ≤ 600 ∧ 10 ≤ f.fallbackHold ∧ f.fallbackHold ≤ 600 ∧
      1 ≤ f.period ∧ f.period ≤ 10 ∧ 10 ≤ f.reply ∧ f.reply ≤ 200) ∧
    (let f : WatermarkFields := { high := 14, urgent := 15 }
     1 ≤ f.high ∧ f.high < f.urgent ∧ f.urgent ≤ 15) := by decide

theorem witness_SetBatteryPolicyIsCheckedInLive :
    let f : PolicyFields := { hardFloor := 998, softReserve := 999, fullLimit := 1000, dischargeCap := 1000000,
                              chargeCap := 0, topUp := 1000000 }
    live.slotFree .site ∧ live.links.part = .live ∧ setup.links.part = .setup ∧ f.hardFloor ≤ 1000 ∧ f.fullLimit ≤ 1000 ∧
      f.dischargeCap ≤ 1000000 ∧ f.hardFloor < f.softReserve ∧ f.softReserve < f.fullLimit := by decide

/-- The checks of R167 in their order. -/
def goLiveChecks (s : State) : List Bool :=
  let each (test : PortEntry → Bool) : Bool := portNumbers.all fun p => match s.sessions.entry p with
    | none => true
    | some e => test e
  [portNumbers.any fun p => (s.sessions.entry p).isSome, each fun e => (nth s.allocator.feeders none e.feeder).isSome,
   each fun e => decide (e.minimum ≤ e.ratedMax), decide (s.allocator.high < s.allocator.urgent),
   decide (s.dispatch.policy.hardFloor < s.dispatch.policy.softReserve ∧
     s.dispatch.policy.softReserve < s.dispatch.policy.fullLimit),
   (s.field.unit 33).present, (s.field.unit 34).present]

/-- One configuration for each item that fails first, and one for none; that one has a present charger. -/
theorem witness_GoLiveChecksAndStarts :
    setup.slotFree .site ∧ setup.links.part = .setup ∧
    [State.reset, { setup with allocator := PowerAllocator.reset },
      { setup with sessions := { setup.sessions with
        ports := put setup.sessions.ports 3 (some { aPort false with ratedMax := 41 }) } },
      { setup with allocator := { setup.allocator with urgent := 4 } },
      { setup with dispatch := { setup.dispatch with policy := { setup.dispatch.policy with softReserve := 950 } } },
      { setup with field := setup.field.setUnit 33 (FieldUnit.reset 33) },
      { setup with field := setup.field.setUnit 34 (FieldUnit.reset 34) }, setup].map (fun s => (goLiveChecks s).idxOf false) =
      [0, 1, 2, 3, 4, 5, 6, 7] ∧
    (setup.field.unit 3).present = true ∧ (setup.sessions.entry 3).isSome = true := by decide +kernel

theorem witness_RestartAndPowerOnReset :
    live.slotFree .site ∧ live.sessions.table = [] ∧ live.queue.retained = [] ∧
      (holding (aSession .active)).sessions.table ≠ [] := by decide +kernel

theorem witness_TransitionCarriesItsEffects :
    (holding (aSession .active)).sessions.find (aSession .active).number = some (aSession .active) := by decide +kernel

theorem witness_AuthorizeBindsTheSession :
    (let s := holding (aSession .plugged)
     s.slotFree .till ∧ s.links.part = .live ∧ s.sessions.holder 3 = some (aSession .plugged) ∧
      s.sessions.find 7 = some (aSession .plugged) ∧ s.store.active = some 1 ∧ s.sessions.holder 32 = none ∧
      tillGrant (s.setLinks { s.links with tillGrant := true }) { port := 32, departure := 0, customer := none } = true) ∧
    (holding (aSession .active)).sessions.holder 3 = some (aSession .active) := by decide +kernel

theorem witness_HoldAndReleasePort :
    [SessionState.plugged, .active, .dormant, .held, .closing].all fun st =>
      let s := holding (aSession st)
      s.links.part == .live && s.sessions.holder 3 == some (aSession st) && s.sessions.find 7 == some (aSession st) := by
  decide +kernel

theorem witness_SessionRequestsChangeOneSession :
    ([SessionState.plugged, .active, .dormant, .held, .closing, .pricing, .waitQueue].all fun st =>
      (holding (aSession st)).sessions.find 7 == some (aSession st)) = true ∧
    (let r : List Byte := List.replicate 8 0x41
     r.length = 8 ∧ ∃ k ∈ [{ reference := r, amount := 1 }], PurchaseLink.reference k = r) ∧
    live.slotFree .till ∧ live.sessions.find 7 = none ∧ live.queue.retained = [] ∧
    (∀ o ∈ live.builder.ring.toList, o = none) ∧
    (some (aReceipt 7) ∈ (live.builder.ring.setIfInBounds 15 (some (aReceipt 7))).toList ∧ (aReceipt 7).session = 7) ∧
    ¬ (1 ≤ 1000001 ∧ 1000001 ≤ 1000000) := by decide +kernel

/-- Port 3 without a session in a state, and its charger's report. -/
def reporting (st : PortState) (connected freeVend : Bool) (waiting : List Nat) : State :=
  { live with
    sessions := { live.sessions with
      ports := put live.sessions.ports 3 (some (aPort freeVend)), waiting := waiting
      records := put live.sessions.records 3 { PortRecord.reset with state := some st } }
    events := { live.events with chargerReports :=
      [{ port := 3, connected := connected, acceptance := 1, power := 0, fault := true, hasReading := false, report := 1 }] } }

/-- A state with a full table. -/
def full (s : State) : State :=
  { s with sessions := { s.sessions with table := (List.range 48).map fun n => { aSession .waitQueue with number := n + 1 } } }

/-- A report in each state of a port without a session, connected and not, with a free-vend port and without; a full
table; a table whose first numbers from the counter on are taken; and a port that waits. -/
theorem witness_ConnectedReportOpensASession :
    ([(PortState.free, true, []), (.free, false, []), (.waiting, true, [3]), (.waiting, false, [3]), (.blocked, true, []),
      (.blocked, false, [])].all fun (st, connected, waiting) => [true, false].all fun freeVend =>
        let s := reporting st connected freeVend waiting
        decide (s.TableWf) && (takeFirst (fun q => q.port == 3) s.events.chargerReports).isSome &&
          s.sessions.entry 3 == some (aPort freeVend) && s.sessions.holder 3 == none && (s.sessions.record 3).state == some st &&
          decide (s.sessions.table.length < 48) && s.store.active == some 1) = true ∧
    (let s := full (reporting .free true false [])
     s.TableWf ∧ 48 ≤ s.sessions.table.length ∧ s.sessions.holder 3 = none) ∧
    ((holding (aSession .waitQueue)).sessions.find 7).isSome = true ∧ (holding (aSession .waitQueue)).sessions.find 8 = none ∧
    (reporting .waiting true false [3]).sessions.waiting = 3 :: [] ∧ live.TableWf ∧ live.sessions.waiting = [] := by
  decide +kernel

/-- Session 7 in CLOSING with a final report, and with its timer at its end. -/
def closing : State :=
  let s := holding { aSession .closing with final := some { report := 4, connected := false, hasReading := true } }
  { s with events := { s.events with readingsApplied := [{ port := 3, value := some 9, arrival := 1, report := 4 }] } }

/-- Session 7 in a state, a report of its charger, and the number of the report whose reading was applied last. -/
def heldReport (x : Session) (connected : Bool) (power : Int) (applied : Option Nat) : State :=
  let s := holding x
  { s with
    sessions := { s.sessions with
      records := put s.sessions.records 3 { PortRecord.reset with state := some .inSession, applied := applied } }
    events := { s.events with chargerReports :=
      [{ port := 3, connected := connected, acceptance := 1, power := power, fault := false, hasReading := true,
         report := 4 }] } }

/-- A closing with its final report and one with its timer; and at a held port a disconnect in each state, a report that is
not final, and a closing that a power of 0 ends, with the reading of the report applied and not. -/
theorem witness_ClosingCompletesAtTheFinalReading :
    (closing.TableWf ∧ (closing.sessions.holder 3).map Session.closingTimer = some (some 30000) ∧
      ((closing.sessions.table.filter Session.holdsPort).map Session.port).Nodup ∧
      (closing.sessions.holder 3).map Session.state = some .closing ∧
      ((closing.sessions.holder 3).bind Session.final).map FinalReport.report = some 4 ∧
      takeFirst (fun q => q.port == 3) closing.events.readingsApplied =
        some ({ port := 3, value := some 9, arrival := 1, report := 4 }, [])) ∧
    ([(SessionState.plugged, false), (.active, false), (.dormant, false), (.held, false), (.active, true), (.closing, true)].all
      fun (st, connected) => [none, some 3, some 4].all fun applied =>
        let s := heldReport (aSession st) connected 0 applied
        decide (s.TableWf) && (takeFirst (fun q => q.port == 3) s.events.chargerReports).isSome &&
          s.sessions.holder 3 == some (aSession st) && s.sessions.entry 3 == some (aPort false) &&
          (s.sessions.record 3).state == some .inSession && (s.sessions.record 3).applied == applied &&
          s.sessions.waiting == [] && decide (aSession st).HandedWf) = true ∧
    (aSession .closing).final = none ∧ (∀ m, some 3 = some m → m < 4) ∧ 4 ≤ 4 := by
  refine ⟨by decide +kernel, by decide +kernel, rfl, fun m h => ?_, by decide⟩
  cases h; decide

theorem witness_SessionTimersExpire :
    (aSession .plugged).authorizationTimer = some 180000 ∧ (holding (aSession .plugged)).sessions.waiting = [] ∧
      ({ aSession .active with demand := 0, dormantTimer := some 120000 } : Session).dormantTimer = some 120000 ∧
      (aSession .dormant).nextIdle = some 1000 ∧
      (holding (aSession .dormant)).sessions.find 7 = some (aSession .dormant) := by decide +kernel

/-- The result of round A, on its way to the Session Controller and to the Field Link Controller. -/
def resultA : AllocationResult :=
  roundResult roundSessions roundAllocator { BalanceRecord.reset with siteState := .normal, budget := 500 }

theorem witness_ResultIsAppliedEntryByEntry :
    (roundSessions.table.map Session.number).Nodup ∧ (resultA.entries.map CandidateEntry.session).Nodup ∧
      (resultA.entries.find? fun e => e.session == 3 && e.port == 12).isSome = true := by decide +kernel

/-- A session in a state, with the changes of site state and of charger health that wait for the Session Controller. -/
def following (state : SessionState) (handedOver : Bool) (site : List SiteChange) (health : List HealthChange) : State :=
  let s := holding { aSession state with handedOver := handedOver }
  { s with events := { s.events with siteToSessions := site, chargerHealth := health } }

/-- Every state of a session, one handed over among them, at an entry to ISLAND, at NORMAL after RESTORING, at another
change of site state, and at the loss and the return of its charger; a port that no session holds; and nothing waiting. -/
theorem witness_HoldReasonsFollowTheSite :
    ([(SessionState.plugged, false), (.active, false), (.dormant, false), (.held, false), (.closing, false), (.closing, true),
        (.pricing, true), (.waitQueue, true)].all fun (state, handedOver) =>
      [(SiteState.normal, SiteState.island), (.restoring, .normal), (.island, .restoring)].all fun (before, after) =>
        [Health.lost, .ok].all fun health =>
          let s := following state handedOver [{ before := before, after := after }]
            [{ unit := 3, before := .missed, after := health }]
          decide (s.sessions.table.map Session.number).Nodup &&
            s.events.siteToSessions == [{ before := before, after := after }] &&
            takeFirst (fun q => q.unit == 3) s.events.chargerHealth ==
              some ({ unit := 3, before := .missed, after := health }, []) &&
            (s.sessions.holder 3).isNone == handedOver) = true ∧
    (following .active false [] []).events.siteToSessions = [] ∧
    takeFirst (fun q => q.unit == 3) (following .active false [] []).events.chargerHealth = none := by decide +kernel

theorem witness_ActivationAuthorizesFreeVendSessions :
    let s := holding (aSession .plugged)
    let s : State := { s with
      sessions := { s.sessions with ports := put s.sessions.ports 3 (some (aPort true)) }
      events := { s.events with activations := [1] } }
    s.events.activations = [1] ∧ (s.sessions.table.map Session.number).Nodup ∧ s.store.active = some 1 ∧
      (s.sessions.entry 3).map PortEntry.freeVend = some true ∧ TariffStore.reset.active = none := by decide +kernel

/-- The mix of section 2.5.1's first row has P_c above 0; a site without chargers has P_c 0; feeders 1 and 4 are the ends of
the range. -/
theorem witness_BudgetAndMixAreComputed :
    (let b := { budgetSite 338300 true true 0 with chargers := put SiteBalanceUnit.reset.chargers 3 62000 }
     b.siteState = .normal ∧ chargerPower live.field live.sessions b = 62000) ∧
    SiteBalanceUnit.reset.siteState ≠ .normal ∧ (1 ≤ 1 ∧ 4 ≤ 4) ∧
      chargerPower FieldLinkController.reset SessionController.reset SiteBalanceUnit.reset = 0 := by decide +kernel

theorem witness_ReportReplacesItsRecord :
    let rs : List Report := [{ unit := 32, values := .charger (-1) }, { unit := 33, values := .grid 1 true },
      { unit := 34, values := .store 0 }, { unit := 38, values := .inverter 0 0 false },
      { unit := 39, values := .battery 1001 0 0 0 .ready }]
    rs.all fun r => takeFirst (fun q => q.unit == r.unit) rs == some (r, rs.filter fun q => q.unit != r.unit) := by
  decide +kernel

theorem witness_GridReportDrivesTheSiteState :
    takeFirst (fun q : Report => q.unit == 33) [{ unit := 33, values := ReportValues.grid 100001 true }] =
      some ({ unit := 33, values := .grid 100001 true }, []) ∧
    (SiteBalanceUnit.reset.settings.importLimit : Int) * 1000 < 100001 ∧
    takeFirst (fun q : Report => q.unit == 34) [{ unit := 34, values := ReportValues.store (-1) }] =
      some ({ unit := 34, values := .store (-1) }, []) ∧
    ({ SiteBalanceUnit.reset with
        siteState := .starting
        grid := { value := some { power := 0, present := true }, arrival := some 0, fresh := false, timer := none } } :
      SiteBalanceUnit).grid.value.map GridValues.present = some true := by decide +kernel

/-- Every timer of the Site Balance Unit running, and every event it takes waiting. -/
theorem witness_BalanceEventsActAndRecompute :
    let b : SiteBalanceUnit := { SiteBalanceUnit.reset with
      siteState := .restoring, restoreTimer := some 60000
      store := { value := some 1, arrival := some 0, fresh := true, timer := some 6000 }
      grid := { value := none, arrival := none, fresh := true, timer := some 6000 }
      inverters := put SiteBalanceUnit.reset.inverters 4 { value := none, arrival := none, fresh := true, timer := some 6000 }
      battery := { value := none, arrival := none, fresh := true, timer := some 6000 }
      phantoms := put SiteBalanceUnit.reset.phantoms 32 (some { start := 98, current := 98, timer := some 60000 }) }
    b.store.timer = some 6000 ∧ b.grid.timer = some 6000 ∧ (b.inverter (38 - 34)).timer = some 6000 ∧
      b.battery.timer = some 6000 ∧ b.siteState = .restoring ∧ b.restoreTimer = some 60000 ∧
      b.phantom 32 = some { start := 98, current := 98, timer := some 60000 } ∧
      ([(1, Health.lost), (32, .ok), (33, .lost), (39, .lost), (39, .ok)].all fun (u, after) =>
        takeFirst (fun q : HealthChange => q.unit == u) [{ unit := u, before := Health.missed, after := after }] ==
          some ({ unit := u, before := .missed, after := after }, [])) = true := by decide +kernel

/-- A round taken at 0 ms: at 249 ms a request is early, at 250 ms it is not. -/
theorem witness_RoundsAreTakenAndSpaced :
    let a : PowerAllocator := { roundAllocator with lastRun := some 0, periodTimer := some 2000, spacing := some 250 }
    (a.lastRun = some 0 ∧ 249 < 0 + 250 ∧ ¬ (250 < 0 + 250)) ∧ a.applied = true ∧ a.pending = false ∧
      a.periodTimer = some 2000 ∧ a.spacing = some 250 ∧ PowerAllocator.reset.lastRun = none := by decide

/-- Round B admits five and defers one, the last of the walk, whose feeder has no room for its minimum. -/
theorem witness_RoundStaysWithinItsBounds :
    let r : BalanceRecord := { BalanceRecord.reset with siteState := .normal, budget := 250 }
    (roundSessions.table.map Session.number).Nodup ∧
      ((roundResult roundSessions roundAllocator r).entries.map CandidateEntry.admitted) =
        [true, true, true, true, true, false] ∧
      ∃ before x, allocateAll roundSessions roundAllocator r = before ++ x :: [] ∧ x.admitted = false ∧
        before.length = 5 := by
  refine ⟨by decide +kernel, by decide +kernel, (allocateAll roundSessions roundAllocator
    { BalanceRecord.reset with siteState := .normal, budget := 250 }).dropLast, ?_⟩
  exact ⟨(allocateAll roundSessions roundAllocator { BalanceRecord.reset with siteState := .normal, budget := 250 }).getLast
    (by decide +kernel), by decide +kernel, by decide +kernel, by decide +kernel⟩

/-- In round A two candidates of feeder 1 end a credit apart at most, or at their demand. -/
theorem witness_DealingIsMaximalAndEven :
    let xs := allocateAll roundSessions roundAllocator { BalanceRecord.reset with siteState := .normal, budget := 500 }
    (roundSessions.table.map Session.number).Nodup ∧
      ∃ x ∈ xs, ∃ y ∈ xs, x.admitted = true ∧ y.admitted = true ∧ x.feeder = y.feeder ∧ y.minimum < y.allocation ∧
        x.allocation + 1 < y.allocation := by decide +kernel

theorem witness_AdmissionOrderIsSorted :
    (((roundSessions.table.map (candidateOf roundSessions roundAllocator)).map Candidate.session)).Nodup := by
  decide +kernel

theorem witness_DeferralCountsAndClassesFollow :
    let x := candidateOf roundSessions roundAllocator (aSession .active)
    x.admitted = false ∧ ({ x with admitted := true, allocation := x.demand } : Candidate).allocation = x.demand ∧
      ({ x with admitted := true, allocation := x.demand + 1 } : Candidate).allocation ≠ x.demand ∧
      SiteState.starting ≠ .normal ∧ (holding (aSession .active)).sessions.table.map Session.number = [7] := by
  decide +kernel

/-- A usable battery at the soft reserve, a net on either side of the limit and of 0, and a surplus above an export limit. -/
theorem witness_AllowanceAndBatteryCommandFollowTheCases :
    let v : BatteryValues := { soc := 400, power := 0, maxCharge := 1, maxDischarge := 1, state := .ready }
    let p := BatteryDispatchUnit.reset.policy
    p.hardFloor < v.soc ∧ v.soc ≤ p.softReserve ∧ v.state = .ready ∧ v.soc < p.fullLimit ∧
      ({ v with soc := 200 } : BatteryValues).soc ≤ p.hardFloor ∧ ({ v with soc := 399 } : BatteryValues).soc < p.softReserve ∧
      (5 : Int) < 6 ∧ (-1 : Int) < 0 ∧ (0 : Int) ≤ 5 ∧ (1 : Int) * 1000 < -(-1001) := by decide

theorem witness_CurtailmentIsShared :
    canopyBalance.pvEff ≠ 0 ∧ (∀ k ∈ [1, 2, 3, 4], (canopy.unit (34 + k)).present = false →
      (canopyBalance.inverter k).fresh = false) ∧ (∀ k ∈ presentInverters canopy, 20000 ≤ ratedOf canopy k) ∧
    (let power (k : Nat) : Nat := (canopyBalance.inverter k).available
     (presentInverters canopy).filter (fun k => (canopyBalance.inverter k).fresh) = [1, 2, 3] ∧ power 3 < power 2 ∧
      power 2 < power 1) ∧ SiteBalanceUnit.reset.pvEff = 0 := by decide +kernel

theorem witness_DispatchEventsComputeAndHandOver :
    let e : Events := { Events.reset with
      resultsToDispatch := [resultA], siteToDispatch := [{ before := .starting, after := .normal }]
      batteryReports := [.battery 1000 0 0 0 .ready], freshness := [true] }
    e.resultsToDispatch = [resultA] ∧ e.siteToDispatch = [{ before := .starting, after := .normal }] ∧
      e.batteryReports = [.battery 1000 0 0 0 .ready] ∧ e.freshness = [true] := by decide +kernel

theorem witness_NextPollFollowsQueueThenCycle :
    let f : FieldLinkController := { live.field with cycle := [33, 34], position := 1, urgent := [{ unit := 3, figure := 1 }] }
    f.urgent = [{ unit := 3, figure := 1 }] ∧ f.cycle[f.position]? = some 34 ∧ live.field.urgent = [] ∧
      live.field.cycle[live.field.position]? = none := by decide +kernel

/-- A poll of unit 39 being sent, one waiting for its reply, and a reply that is valid beside one that is not. -/
theorem witness_TransactionsEndByReplyOrMiss :
    let tr : Transaction := { unit := 39, command := .battery .idle, urgent := false, timeout := 200, replyTimer := some 200 }
    let payload := (Command.battery .idle).bytes ++ le 2 1000 ++ watts 0 ++ watts 0 ++ watts 0 ++ [0]
    let frame : FieldFrame := { address := 39, kind := 0x85, payload := payload
                                check := crc16 (39#8 :: byte (payload.length + 1) :: 0x85#8 :: payload) }
    ((anUnit 39).address = some frame.address.toNat ∧ frame.kind.toNat = 128 + 5 ∧ 20 ≤ payload.length ∧
      echoOf 39 payload = some tr.command) ∧
      ({ frame with check := ~~~ frame.check } : FieldFrame).check ≠
        crc16 (39#8 :: byte (payload.length + 1) :: 0x85#8 :: payload) ∧
      ({ tr with replyTimer := none } : Transaction).replyTimer = none ∧ tr.replyTimer = some 200 := by decide +kernel

theorem witness_ChargerTargetsAreAssessed :
    (live.field.unit 32).delivered = .charger .lockout 0 ∧
      takeFirst (fun q : ChargerTarget => q.port == 32) [{ port := 32, mode := ChargerMode.run, setpoint := 1 }] =
        some ({ port := 32, mode := .run, setpoint := 1 }, []) := by decide +kernel

/-- A result with a target for each present port; a hand-over with a battery target and one without, that follow a result
taken already or one that waits still; units that are named and units that are not; and nothing to take. -/
theorem witness_ResultsAndHandoversSetTheTargets :
    ((resultA.targets.map PortTarget.port).Nodup ∧ (∀ g ∈ resultA.targets, 1 ≤ g.port ∧ g.port ≤ 32) ∧
      (resultA.targets.find? fun g => g.port == 3).isSome = true ∧ resultA.targets.find? (fun g => g.port == 32) = none) ∧
    (let h : Handover := { battery := some .idle, limits := [(1, 0), (4, 5)], follows := some 9 }
     h.follows = some 9 ∧ resultA.round ≠ 9 ∧ (h.limits.map Prod.fst).Nodup ∧ (∀ x ∈ h.limits, 1 ≤ x.1 ∧ x.1 ≤ 4) ∧
       (h.limits.find? fun x => 34 + x.1 == 38).isSome = true ∧ h.limits.find? (fun x => 34 + x.1 == 36) = none ∧
       ({ h with battery := none } : Handover).battery = none ∧
       ∃ r ∈ [resultA], ({ h with follows := some resultA.round } : Handover).follows = some r.round) ∧
    live.events.resultsToField = [] ∧ live.events.handovers = [] ∧ live.field.urgent = [] ∧ live.field.decrease = [] := by
  decide +kernel

/-- The reading of section 6.3.1 on a port with a session, one on a port without, a first reading and none. -/
theorem witness_ReadingIsBoundedAndAccountedFor :
    (takeFirst (fun q => q.port == 3) metered.events.readings).isSome = true ∧
      (metered.metering.meter 3).last = some 20011 ∧ (metered.metering.meter 3).arrival = some 104000 ∧
      (metered.sessions.holder 3).map (fun x => (x.number, x.acceptsEnergy, x.total)) = some (7, true, 11) ∧
      (metered.sessions.find 7).isSome = true ∧ (metered.sessions.table.map Session.number).Nodup ∧
      live.sessions.holder 3 = none ∧ (live.sessions.table.map Session.number).Nodup ∧
      ((holding (aSession .plugged)).sessions.holder 3).map Session.acceptsEnergy = some false ∧
      (live.metering.meter 3).last = none ∧
      takeFirst (fun q : MeterReading => q.port == 32) [{ port := 32, value := none, arrival := 0, report := 1 }] =
        some ({ port := 32, value := none, arrival := 0, report := 1 }, []) := by decide +kernel

theorem witness_DiscrepancyLogKeepsTheFirst :
    let d : Discrepancy := { kind := .minor, port := 1, session := none, reading := 1, last := 0, bound := some 10, time := 0 }
    d.kind = .minor ∧ ({ d with kind := .major } : Discrepancy).kind = .major ∧ DiscrepancyLog.reset.lock = .empty ∧
      (DiscrepancyLog.reset.add d).lock ≠ .empty ∧ (DiscrepancyLog.reset.add { d with kind := .major }).lock = .holdingMajor := by
  decide

theorem witness_TariffRequestsAreChecked :
    live.slotFree .site ∧ tariffInRange evening = true ∧
    (live.store.active = some 1 ∧ live.store.active ≠ some 7 ∧ (live.store.slot 7).uses = 0 ∧
      live.store.siteCopy = .normal ∧ live.store.operation = none) ∧
    (live.store.slot 1).state = .valid ∧ (live.store.slot 0).state ≠ .valid ∧
    (let f : TariffFields := { evening with label := some (List.replicate 13 0x41) }
     ∃ t, f.label = some t ∧ 12 < t.length) ∧
    (let f : TariffFields := { evening with label := some [0x41, 0x80] }
     ∃ t, f.label = some t ∧ ∃ b ∈ t, 128 ≤ b.toNat) ∧
    240 < ({ evening with idleGrace := 241 } : TariffFields).idleGrace := by
  refine ⟨by decide +kernel, by decide +kernel, by decide +kernel, by decide +kernel, by decide +kernel, ⟨_, rfl, by decide⟩,
    ⟨_, rfl, by decide⟩, by decide⟩

/-- An operation in each phase with an entry to ISLAND and another change waiting, and a store without an operation. -/
theorem witness_StoreOperationRunsThroughItsPhases :
    ([StorePhase.erasing, .writing, .verifying].all fun ph => [SiteState.island, .restoring].all fun after =>
      let op : StoreOperation := { slot := 7, kind := .program, image := slotImage 7 evening, phase := ph }
      let s : State := { live with
        store := { live.store with operation := some op }
        events := { live.events with siteToStore := [{ before := .normal, after := after }] } }
      s.store.operation == some op && decide (op.slot < 8) && op.phase == ph &&
        s.events.siteToStore == [{ before := .normal, after := after }]) = true ∧
    live.store.operation = none ∧ live.events.siteToStore = [] ∧ SiteState.restoring ≠ .island := by
  decide +kernel

theorem witness_SlotImageReadsBack : (7 : Nat) ≤ 7 ∧ tariffInRange evening = true := by decide +kernel

/-- A session that has ended, and rates in order and equal. -/
theorem witness_PriceFollowsTheTariff :
    let x : Session := { aSession .closing with total := 4000000, solarAcc := 4096000000, authorized := some 5, ended := some 9 }
    x.EnergyWf ∧ x.slot = some 1 ∧ x.authorized = some 5 ∧ x.ended = some 9 ∧
      (readTariff (slotImage 1 evening)).rate = { solar := 2200, battery := 3000, grid := 3900 } ∧
      (readTariff (slotImage 1 { evening with batteryRate := 2200, gridRate := 2200 })).rate =
        { solar := 2200, battery := 2200, grid := 2200 } := by decide +kernel

/-- A session handed over, with the store free and the queue empty. -/
def handed : State :=
  let x := { aSession .closing with closingTimer := none, handedOver := true }
  { holding x with events := { Events.reset with handOvers := [7] } }

theorem witness_HandOverPricesOrDefers :
    handed.events.handOvers = [7] ∧
      (handed.sessions.find 7).map (fun x => (x.state, x.handedOver, x.slot)) = some (.closing, true, some 1) ∧
      handed.builder.ringPosition < 16 ∧ handed.builder.pricing = [] ∧ handed.store.operation = none ∧
      handed.builder.waiting = [] ∧ handed.queue.retained.length < 64 ∧ handed.sessions.waiting = [] ∧
      64 ≤ (List.replicate 64 (aReceipt 1)).length := by decide +kernel

/-- Session 7 at the head of the pricing list, with room in the queue and without; and a waiting receipt. -/
theorem witness_StoreFreeAndRoomServeTheirLists :
    (let s := holding (aSession .pricing)
     let s : State := { s with
       builder := { s.builder with pricing := [7] }
       events := { s.events with storeFree := 1, rooms := 1 } }
     s.sessions.waiting = [] ∧ s.events.storeFree = 0 + 1 ∧ s.events.rooms = 0 + 1 ∧ s.store.operation = none ∧
       s.builder.pricing = (aSession .pricing).number :: [] ∧ s.sessions.find 7 = some (aSession .pricing) ∧
       (aSession .pricing).slot = some 1 ∧ s.builder.waiting = [] ∧ s.queue.retained.length < 64) ∧
    64 ≤ (List.replicate 64 (aReceipt 1)).length ∧ live.builder.pricing = [] := by decide +kernel

theorem witness_QueueRequestsKeepTheReceipts :
    let q (n read : Nat) (mark : Bool) : ReceiptQueue :=
      { ReceiptQueue.reset with retained := (List.range n).map aReceipt, read := read, mark := mark }
    live.slotFree .site ∧ live.links.part = .live ∧ (q 0 0 false).Wf ∧ (q 64 0 false).Wf ∧ (q 2 1 true).Wf ∧ (q 2 2 true).Wf ∧
      (q 2 1 true).retained[(q 2 1 true).read]? = some (aReceipt 1) := by decide +kernel

theorem witness_StatusRequestsChangeNothing :
    requestHead (.unitStatus .site 1 (.fits 40)) = some { link := .site, kind := 0x62, tag := 1, fits := true } ∧
      live.slotFree .site := by decide

/-- Each selector of a status request at the bounds of its range, and the longest receipt. -/
theorem witness_StatusRepliesCarryTheirRecords :
    live.slotFree .till ∧ live.links.part = .live ∧ live.sessions.entry 3 = some (aPort false) ∧ live.sessions.entry 32 = none ∧
      live.sessions.find 65535 = none ∧ (holding (aSession .held)).sessions.find 7 = some (aSession .held) ∧
      (live.field.unit 34).present = true ∧ (live.field.unit 39).present = false ∧ live.store.operation = none ∧
      (let b : ReceiptBuilder := { live.builder with ring := live.builder.ring.setIfInBounds 0 (some (aReceipt 65535)) }
       b.recent.find? (fun r => r.session == 65535) = some (aReceipt 65535) ∧
        b.recent.find? (fun r => r.port == 3) = some (aReceipt 65535) ∧ b.recent.find? (fun r => r.port == 32) = none) ∧
      (live.field.unit 3).delivered = .charger .lockout 0 ∧
      ({ aReceipt 1 with
          label := List.replicate 12 0x41, customer := some (List.replicate 16 0x42)
          links := List.replicate 4 { reference := List.replicate 8 0x43, amount := 1 } } : Receipt).bytes.length = 171 ∧
      ({ aReceipt 1 with label := [], customer := some [], links := [] } : Receipt).bytes.length = 99 ∧
      (live.store.slot 1).state = .valid ∧ (live.store.slot 1).bytes = slotImage 1 evening ∧ tariffInRange evening = true ∧
      (live.store.slot 0).state ≠ .valid ∧ live.balance.restoreTimer = none ∧ live.allocator.last = none ∧
      ({ live.balance with restoreTimer := some 1000 } : SiteBalanceUnit).restoreTimer = some 1000 ∧
      (1000 - live.runTime) % 1000 = 0 ∧
      (let r := roundResult roundSessions roundAllocator { BalanceRecord.reset with siteState := .normal, budget := 250 }
       (List.range' 1 2).map (fun k => (r.feeders.find? fun g => g.feeder == k).map FeederFigure.room) =
         [some 300, some 400]) := by decide +kernel

/-- A charging site with a request waiting. -/
def chargingSite : State :=
  { holding { aSession .active with allocation := 42, highest := 42, effMin := 42 } with
    pending := [.queueStatus .site 1 (.fits ())]
    balance := { SiteBalanceUnit.reset with siteState := .normal, record := { BalanceRecord.reset with siteState := .normal } } }

/-- It meets the invariants, all of them, and its step has a next state. -/
theorem witness_StepKeeps :
    let s := chargingSite
    (s.links.Settled ∧ s.links.Wf ∧ s.queue.Wf ∧ s.metering.log.Wf ∧ s.CountsWf ∧ s.EventsWf ∧ s.store.Wf ∧ s.balance.Wf) ∧
      (s.SetupWf ∧ s.DispatchWf ∧ s.LiveWf ∧ s.field.Wf ∧ s.EnergyWf) ∧ s.TableWf ∧ s.PortsWf ∧ ∃ t, step s = .next t :=
  ⟨by decide +kernel, ⟨by decide +kernel, by decide +kernel, by decide +kernel, by decide +kernel, by decide +kernel⟩,
    by decide +kernel, by decide +kernel, ⟨_, rfl⟩⟩

end Sys2Proof.Tests
end

namespace Sys2Proof.Machine

/-! ## What the invariants of the sessions and the ports speak of -/

/-- The part of the state that `TableWf` and `PortsWf` read: the session table and its counter, the port states and the
port wait list, the two lists of the Receipt Builder, and the active slot and the use counts of the Tariff Store. -/
@[ext] structure Roster where
  table : List Session
  counter : Nat
  portState : Nat → Option PortState
  waiting : List Nat
  pricing : List Nat
  receipts : List Receipt
  active : Option Nat
  uses : Nat → Nat
  part : PartState

def State.roster (s : State) : Roster :=
  { table := s.sessions.table, counter := s.sessions.counter, portState := fun p => (s.sessions.record p).state,
    waiting := s.sessions.waiting, pricing := s.builder.pricing, receipts := s.builder.waiting, active := s.store.active,
    uses := fun k => (s.store.slot k).uses, part := s.links.part }

def Roster.find (r : Roster) (n : Nat) : Option Session := r.table.find? fun x => x.number == n

def Roster.holder (r : Roster) (p : Nat) : Option Session := r.table.find? fun x => x.port == p && x.holdsPort

def Roster.boundTo (r : Roster) (k : Nat) : Nat :=
  (r.table.filter fun x => x.slot == some k && x.state != .waitQueue).length

/-- `State.TableWf`, clause by clause. -/
structure Roster.TableWf (r : Roster) : Prop where
  size : r.table.length ≤ 48
  numbers : (r.table.map Session.number).Nodup
  each : ∀ x ∈ r.table, 1 ≤ x.number ∧ x.number ≤ 65535 ∧ x.BoundWf
  counterPos : 1 ≤ r.counter
  counterMax : r.counter ≤ 65535
  pricingNodup : r.pricing.Nodup
  pricing : ∀ n ∈ r.pricing, (r.find n).map Session.state = some .pricing
  receiptsNodup : (r.receipts.map Receipt.session).Nodup
  receipts : ∀ q ∈ r.receipts, (r.find q.session).map Session.state = some .waitQueue
  active : ∀ k ∈ r.active.toList, k < 8
  uses : ∀ k ∈ List.range 8, r.uses k = r.boundTo k

/-- `State.PortsWf`, clause by clause. -/
structure Roster.PortsWf (r : Roster) : Prop where
  handed : ∀ x ∈ r.table, x.HandedWf
  ports : ((r.table.filter Session.holdsPort).map Session.port).Nodup
  held : ∀ x ∈ r.table, x.holdsPort = true → r.portState x.port = some .inSession
  holder : ∀ p ∈ portNumbers, r.portState p = some .inSession → (r.holder p).isSome = true
  waitNodup : r.waiting.Nodup
  waiting : ∀ p ∈ r.waiting, r.portState p = some .waiting
  listed : ∀ p ∈ portNumbers, r.portState p = some .waiting → p ∈ r.waiting
  setup : r.part = .setup → r.table = [] ∧ r.waiting = [] ∧ ∀ p ∈ portNumbers, r.portState p = none

theorem State.tableWf_iff (s : State) : s.TableWf ↔ s.roster.TableWf :=
  ⟨fun ⟨a, b, c, d, e, f, g, h, i, j, k⟩ => ⟨a, b, c, d, e, f, g, h, i, j, k⟩,
    fun ⟨a, b, c, d, e, f, g, h, i, j, k⟩ => ⟨a, b, c, d, e, f, g, h, i, j, k⟩⟩

theorem State.portsWf_iff (s : State) : s.PortsWf ↔ s.roster.PortsWf :=
  ⟨fun ⟨a, b, c, d, e, f, g, h⟩ => ⟨a, b, c, d, e, f, g, h⟩, fun ⟨a, b, c, d, e, f, g, h⟩ => ⟨a, b, c, d, e, f, g, h⟩⟩

/-! ### The roster under each operation of the state -/

@[simp] theorem State.roster_setField (s : State) (x : FieldLinkController) : (s.setField x).roster = s.roster := rfl
@[simp] theorem State.roster_setBalance (s : State) (x : SiteBalanceUnit) : (s.setBalance x).roster = s.roster := rfl
@[simp] theorem State.roster_setDispatch (s : State) (x : BatteryDispatchUnit) : (s.setDispatch x).roster = s.roster := rfl
@[simp] theorem State.roster_setAllocator (s : State) (x : PowerAllocator) : (s.setAllocator x).roster = s.roster := rfl
@[simp] theorem State.roster_setMetering (s : State) (x : MeteringUnit) : (s.setMetering x).roster = s.roster := rfl
@[simp] theorem State.roster_setQueue (s : State) (x : ReceiptQueue) : (s.setQueue x).roster = s.roster := rfl
@[simp] theorem State.roster_setEvents (s : State) (x : Events) : (s.setEvents x).roster = s.roster := rfl
@[simp] theorem State.roster_reach (s : State) (n : Nat) : (s.reach n).roster = s.roster := rfl
@[simp] theorem State.roster_idle (s : State) : s.idle.roster = s.roster := rfl
@[simp] theorem State.roster_raise (s : State) (k : NoticeKind) (d : Nat) : (s.raise k d).roster = s.roster := rfl
@[simp] theorem State.roster_settle (s : State) : s.settle.roster = s.roster := rfl

@[simp] theorem State.roster_draws (s : State) (n : Nat) : { s with draws := n }.roster = s.roster := rfl

theorem State.roster_setLinks (s : State) (c : LinkController) : (s.setLinks c).roster = { s.roster with part := c.part } :=
  rfl

theorem State.roster_setSessions (s : State) (c : SessionController) :
    (s.setSessions c).roster = { s.roster with
      table := c.table, counter := c.counter, portState := fun p => (c.record p).state, waiting := c.waiting } := rfl

theorem State.roster_setBuilder (s : State) (b : ReceiptBuilder) :
    (s.setBuilder b).roster = { s.roster with pricing := b.pricing, receipts := b.waiting } := rfl

theorem State.roster_setStore (s : State) (t : TariffStore) :
    (s.setStore t).roster = { s.roster with active := t.active, uses := fun k => (t.slot k).uses } := rfl

@[simp] theorem State.roster_setPort (s : State) (l : Link) (p : LinkPort) :
    (s.setLinks (s.links.setPort l p)).roster = s.roster := by simp [State.roster_setLinks]; rfl

@[simp] theorem State.roster_frameEnd (s : State) (l : Link) : (s.frameEnd l).roster = s.roster := State.roster_setPort ..
@[simp] theorem State.roster_place (s : State) (l : Link) (r : Reply) : (s.place l r).roster = s.roster :=
  State.roster_setPort ..

@[simp] theorem State.roster_refuseBusy (s : State) (l : Link) (k t : Byte) : (s.refuseBusy l k t).roster = s.roster := by
  unfold State.refuseBusy; split <;> simp


@[simp] theorem State.roster_sendReport (s : State) (x : Report) : (s.sendReport x).roster = s.roster := rfl
@[simp] theorem State.roster_sendHealth (s : State) (x : HealthChange) : (s.sendHealth x).roster = s.roster := rfl
@[simp] theorem State.roster_sendChargerHealth (s : State) (x : HealthChange) :
    (s.sendChargerHealth x).roster = s.roster := rfl
@[simp] theorem State.roster_sendChargerReport (s : State) (x : ChargerReport) :
    (s.sendChargerReport x).roster = s.roster := rfl
@[simp] theorem State.roster_sendReading (s : State) (x : MeterReading) : (s.sendReading x).roster = s.roster := rfl
@[simp] theorem State.roster_sendReadingApplied (s : State) (x : ReadingApplied) :
    (s.sendReadingApplied x).roster = s.roster := rfl
@[simp] theorem State.roster_sendBatteryReport (s : State) (x : ReportValues) :
    (s.sendBatteryReport x).roster = s.roster := rfl
@[simp] theorem State.roster_sendFreshness (s : State) (x : Bool) : (s.sendFreshness x).roster = s.roster := rfl
@[simp] theorem State.roster_sendSiteChange (s : State) (x : SiteChange) : (s.sendSiteChange x).roster = s.roster := rfl
@[simp] theorem State.roster_sendAllowance (s : State) (x : Nat) : (s.sendAllowance x).roster = s.roster := rfl
@[simp] theorem State.roster_sendEarlyRequest (s : State) : s.sendEarlyRequest.roster = s.roster := rfl
@[simp] theorem State.roster_sendResultApplied (s : State) : s.sendResultApplied.roster = s.roster := rfl
@[simp] theorem State.roster_sendAllocatorMessage (s : State) (x : AllocatorMessage) :
    (s.sendAllocatorMessage x).roster = s.roster := rfl
@[simp] theorem State.roster_sendResult (s : State) (x : AllocationResult) : (s.sendResult x).roster = s.roster := rfl
@[simp] theorem State.roster_sendChargerTarget (s : State) (x : ChargerTarget) :
    (s.sendChargerTarget x).roster = s.roster := rfl
@[simp] theorem State.roster_sendHandover (s : State) (x : Handover) : (s.sendHandover x).roster = s.roster := rfl
@[simp] theorem State.roster_sendActivation (s : State) (x : Nat) : (s.sendActivation x).roster = s.roster := rfl
@[simp] theorem State.roster_sendHandOver (s : State) (x : Nat) : (s.sendHandOver x).roster = s.roster := rfl
@[simp] theorem State.roster_sendStoreFree (s : State) : s.sendStoreFree.roster = s.roster := rfl
@[simp] theorem State.roster_sendRoom (s : State) : s.sendRoom.roster = s.roster := rfl

/-! ### Operations of the other blocks leave the roster alone -/

@[simp] theorem State.roster_recompute (s : State) : s.recompute.roster = s.roster := by
  simp only [State.recompute]; split <;> simp

@[simp] theorem State.roster_changeSite (s : State) (n : SiteState) : (s.changeSite n).roster = s.roster := by
  simp [State.changeSite]

@[simp] theorem State.roster_followGrid (s : State) (g : Option Bool) : (s.followGrid g).roster = s.roster := by
  unfold State.followGrid
  split
  case h_2 => split <;> simp
  all_goals simp [State.enterIsland, State.enterRestoring]

@[simp] theorem State.roster_checkOverrun (s : State) (w : Int) (b : Bool) : (s.checkOverrun w b).roster = s.roster := by
  unfold State.checkOverrun; split <;> simp

@[simp] theorem State.roster_freshen (s : State) (a b : Bool) : (s.freshen a b).roster = s.roster := by
  unfold State.freshen; split <;> simp

@[simp] theorem State.roster_takeReport (s : State) (r : Report) : (s.takeReport r).roster = s.roster := by
  unfold State.takeReport; split <;> simp

@[simp] theorem State.roster_makeStale (s : State) (u : Nat) : (s.makeStale u).roster = s.roster := by
  unfold State.makeStale; split_ifs <;> simp

@[simp] theorem State.roster_takeHealth (s : State) (h : HealthChange) : (s.takeHealth h).roster = s.roster := by
  unfold State.takeHealth; split_ifs <;> simp [State.startPhantom, State.endPhantom]

@[simp] theorem State.roster_takeRound (s : State) : s.takeRound.roster = s.roster := by simp [State.takeRound]

@[simp] theorem State.roster_roundOrPend (s : State) : s.roundOrPend.roster = s.roster := by
  unfold State.roundOrPend; split <;> simp

@[simp] theorem State.roster_takeEarly (s : State) : s.takeEarly.roster = s.roster := by
  unfold State.takeEarly; split_ifs <;> simp

@[simp] theorem State.roster_takeApplied (s : State) : s.takeApplied.roster = s.roster := by
  simp only [State.takeApplied]; split_ifs <;> simp

@[simp] theorem State.roster_computeCommand (s : State) (t : DispatchTrigger) : (s.computeCommand t).roster = s.roster := by
  simp [State.computeCommand]

@[simp] theorem State.roster_checkStanding (s : State) : s.checkStanding.roster = s.roster := by
  unfold State.checkStanding; split <;> simp

@[simp] theorem State.roster_evaluateAllowance (s : State) : s.evaluateAllowance.roster = s.roster := by
  simp only [State.evaluateAllowance]; split <;> simp

@[simp] theorem State.roster_applyUrgent (s : State) (n : Nat) : (s.applyUrgent n).roster = s.roster := by
  simp only [State.applyUrgent]; split_ifs <;> simp

@[simp] theorem State.roster_healthChanged (s : State) (u : Nat) (a b : Health) :
    (s.healthChanged u a b).roster = s.roster := by
  simp only [State.healthChanged]; split_ifs <;> simp

@[simp] theorem State.roster_handReport (s : State) (u : Nat) (p : List Byte) (n : Nat) :
    (s.handReport u p n).roster = s.roster := by
  simp only [State.handReport]; split_ifs <;> simp

@[simp] theorem State.roster_replyValid (s : State) (t : Transaction) (p : List Byte) :
    (s.replyValid t p).roster = s.roster := by
  simp only [State.replyValid]; split <;> simp

@[simp] theorem State.roster_replyMissed (s : State) (t : Transaction) : (s.replyMissed t).roster = s.roster := by
  simp only [State.replyMissed]; split <;> simp

@[simp] theorem State.roster_takeReceipt (s : State) (r : Receipt) : (s.takeReceipt r).roster = s.roster := by
  simp only [State.takeReceipt]; split_ifs <;> simp

@[simp] theorem State.roster_roomIf (s : State) (n : Nat) : (s.roomIf n).roster = s.roster := by
  unfold State.roomIf; split <;> simp

@[simp] theorem State.roster_logDiscrepancy (s : State) (d : Discrepancy) : (s.logDiscrepancy d).roster = s.roster := by
  simp [State.logDiscrepancy]

/-- A slot replaced by one of its own use count changes no use count. -/
theorem TariffStore.uses_setSlot (t : TariffStore) (k j : Nat) (x : TariffSlot) (h : x.uses = (t.slot k).uses) :
    ((t.setSlot k x).slot j).uses = (t.slot j).uses := by
  by_cases hk : k < 8
  · rw [TariffStore.slot_setSlot _ _ _ _ hk]
    split
    · simp_all
    · rfl
  · simp only [TariffStore.slot, TariffStore.setSlot, Vector.setIfInBounds_eq_of_size_le (Nat.le_of_not_lt hk)]

/-- A store with the same active slot and the same use counts. -/
theorem State.roster_setStore_same (s : State) (t : TariffStore) (ha : t.active = s.store.active)
    (hu : ∀ k, (t.slot k).uses = (s.store.slot k).uses) : (s.setStore t).roster = s.roster := by
  rw [State.roster_setStore, ha, funext hu]
  rfl

@[simp] theorem State.roster_stopOperation (s : State) (op : StoreOperation) : (s.stopOperation op).roster = s.roster :=
  (State.roster_draws _ _).trans (s.roster_setStore_same _ rfl fun _ => TariffStore.uses_setSlot _ _ _ _ rfl)

@[simp] theorem State.roster_completeOperation (s : State) (op : StoreOperation) (v : Bool) :
    (s.completeOperation op v).roster = s.roster := by
  simp only [State.completeOperation, State.roster_sendStoreFree, State.roster_raise]
  refine (State.roster_setStore_same _ _ ?_ ?_).trans (State.roster_draws _ _)
  · rfl
  · exact fun _ => TariffStore.uses_setSlot _ _ _ _ rfl

@[simp] theorem State.roster_abortOperation (s : State) : s.abortOperation.roster = s.roster := by
  unfold State.abortOperation; split <;> simp

@[simp] theorem State.roster_start (s : State) (k : Nat) (o : StoreKind) (im : List Byte) :
    (s.setStore (s.store.start k o im)).roster = s.roster :=
  s.roster_setStore_same _ rfl fun _ => TariffStore.uses_setSlot _ _ _ _ rfl

end Sys2Proof.Machine

namespace Sys2Proof.Machine

/-! ## What a command can do to the roster -/

/-- The states a session's record can go to in place while it keeps its port: among ACTIVE, DORMANT and HELD, from these
to CLOSING, and nowhere from the others. -/
def SessionState.goes (a b : SessionState) : Bool :=
  a == b || ((a == .active || a == .dormant || a == .held) && (b == .active || b == .dormant || b == .held || b == .closing))

/-- What a change of a session's record in place keeps. -/
structure Session.Goes (x y : Session) : Prop where
  number : y.number = x.number
  port : y.port = x.port
  slot : y.slot = x.slot
  state : x.state.goes y.state = true
  links : x.links.length ≤ 4 ∧ (x.links.map PurchaseLink.reference).Nodup →
    y.links.length ≤ 4 ∧ (y.links.map PurchaseLink.reference).Nodup
  handedOver : y.handedOver = x.handedOver
  closingTimer : y.closingTimer = x.closingTimer ∨ y.closingTimer = none ∨ x.state ≠ y.state

/-- The session with a number replaced. -/
def Roster.replace (r : Roster) (n : Nat) (y : Session) : List Session :=
  r.table.map fun x => if x.number = n then y else x

/-- The table without the session with a number. -/
def Roster.without (r : Roster) (n : Nat) : List Session := r.table.filter fun x => x.number != n

/-- The port states with that of one port changed. -/
def Roster.withPort (r : Roster) (p : Nat) (st : Option PortState) : Nat → Option PortState :=
  fun q => if q = p ∧ q ∈ portNumbers then st else r.portState q

@[simp] theorem Roster.withPort_of_ne (r : Roster) {p q : Nat} (h : q ≠ p) (st : Option PortState) :
    r.withPort p st q = r.portState q := by simp [Roster.withPort, h]

@[simp] theorem Roster.withPort_same (r : Roster) {p : Nat} (h : p ∈ portNumbers) (st : Option PortState) :
    r.withPort p st p = st := by simp [Roster.withPort, h]

/-- What one operation of the Session Controller, the Receipt Builder, the Tariff Store or the Link Controller does to the
roster. -/
inductive Move (r : Roster) : Roster → Prop
  /-- Session records change in place. -/
  | edit (g : Session → Session) (hg : ∀ x ∈ r.table, x.Goes (g x)) : Move r { r with table := r.table.map g }
  /-- A port becomes absent (R1). -/
  | unconfigure (p : Nat) (hp : r.part = .setup) :
      Move r { r with portState := r.withPort p none }
  /-- GO_LIVE (R168). -/
  | goLive (f : Nat → Option PortState) (hp : r.part = .setup) (hf : ∀ p, f p = r.portState p ∨ f p = some .free) :
      Move r { r with part := .live, portState := f }
  /-- RESTART and POWER_ON_RESET (R121, R169). -/
  | reset : Move r State.reset.roster
  /-- ACTIVATE_TARIFF (R129). -/
  | activate (k : Nat) (hk : k < 8) : Move r { r with active := some k }
  /-- A session opened on a FREE port, or on the port at the head of the wait list (R4, R6, R7). -/
  | opened (p : Nat) (rest : List Nat) (x : Session) (counter : Nat)
      (hr : r.portState p ≠ none → p ∈ portNumbers)
      (hp : r.portState p = some .free ∧ rest = r.waiting ∨ r.waiting = p :: rest)
      (hroom : r.table.length < 48) (hnew : r.find x.number = none) (hn : 1 ≤ x.number ∧ x.number ≤ 65535)
      (hc : 1 ≤ counter ∧ counter ≤ 65535) (hport : x.port = p) (hx : x.state = .plugged ∧ x.slot = none ∧ x.links = [] ∧
        x.handedOver = false) :
      Move r { r with
        table := r.table ++ [x], counter := counter, waiting := rest
        portState := r.withPort p (some .inSession) }
  /-- A session in PLUGGED bound to the active slot (R9, R130). -/
  | authorized (x y : Session) (k : Nat) (hx : x ∈ r.table) (hk : r.active = some k) (hp : x.state = .plugged)
      (hy : y.number = x.number ∧ y.port = x.port ∧ y.slot = some k ∧ y.links = x.links ∧ y.handedOver = x.handedOver)
      (hs : y.state = .active ∨ y.state = .held) :
      Move r { r with table := r.replace x.number y, uses := fun j => if j = k then r.uses k + 1 else r.uses j }
  /-- A session in PLUGGED removed without a receipt (R11). -/
  | abandoned (x : Session) (st : PortState) (hx : x ∈ r.table) (hp : x.state = .plugged) (hst : st = .free ∨ st = .blocked) :
      Move r { r with
        table := r.without x.number, portState := r.withPort x.port (some st) }
  /-- A closing completed, the port released (R19 to R21). -/
  | closed (x y : Session) (st : PortState) (hx : x ∈ r.table) (hc : x.state = .closing)
      (ho : x.handedOver = false ∨ x.closingTimer ≠ none) (hst : st = .free ∨ st = .blocked)
      (hy : y.number = x.number ∧ y.port = x.port ∧ y.slot = x.slot ∧ y.links = x.links ∧ y.state = .closing ∧
        y.handedOver = true ∧ y.closingTimer = none) :
      Move r { r with
        table := r.replace x.number y, portState := r.withPort x.port (some st) }
  /-- A vehicle connected while the table is full (R4). -/
  | parked (p : Nat) (hr : p ∈ portNumbers) (hp : r.portState p = some .free) :
      Move r { r with
        waiting := r.waiting ++ [p], portState := r.withPort p (some .waiting) }
  /-- A vehicle gone from a WAITING or a BLOCKED port (R3, R4). -/
  | unparked (p : Nat) (rest : List Nat) (hr : p ∈ portNumbers)
      (hp : r.portState p = some .waiting ∧ (rest = r.waiting.filter fun q => q != p) ∨
        r.portState p = some .blocked ∧ rest = r.waiting) :
      Move r { r with
        waiting := rest
        portState := r.withPort p (some .free) }
  /-- A session handed over while it cannot be priced (R134). -/
  | listed (x y : Session) (hx : x ∈ r.table) (hc : x.state = .closing ∧ x.handedOver = true)
      (hy : y.number = x.number ∧ y.port = x.port ∧ y.slot = x.slot ∧ y.links = x.links ∧ y.state = .pricing ∧
        y.closingTimer = x.closingTimer) :
      Move r { r with table := r.replace x.number y, pricing := r.pricing ++ [x.number] }
  /-- A session priced whose receipt enters the queue (R144). -/
  | sold (x : Session) (k : Nat) (rest : List Nat) (hx : x ∈ r.table) (hk : x.slot = some k)
      (hl : (x.state = .closing ∧ x.handedOver = true) ∧ rest = r.pricing ∨ r.pricing = x.number :: rest) :
      Move r { r with
        table := r.without x.number, pricing := rest
        uses := fun j => if j = k then r.uses k - 1 else r.uses j }
  /-- A session priced whose receipt waits (R144). -/
  | deferred (x y : Session) (q : Receipt) (k : Nat) (rest : List Nat) (hx : x ∈ r.table) (hk : x.slot = some k)
      (hl : (x.state = .closing ∧ x.handedOver = true) ∧ rest = r.pricing ∨ r.pricing = x.number :: rest)
      (hq : q.session = x.number)
      (hy : y.number = x.number ∧ y.port = x.port ∧ y.slot = x.slot ∧ y.links = x.links ∧ y.state = .waitQueue ∧
        y.closingTimer = x.closingTimer ∧ y.handedOver = x.handedOver) :
      Move r { r with
        table := r.replace x.number y, pricing := rest, receipts := r.receipts ++ [q]
        uses := fun j => if j = k then r.uses k - 1 else r.uses j }
  /-- A waiting receipt delivered (R145). -/
  | delivered (q : Receipt) (rest : List Receipt) (hq : r.receipts = q :: rest) :
      Move r { r with table := r.without q.session, receipts := rest }


/-! ### The table with one session replaced, removed or added -/

section
variable {r : Roster} {x y : Session} {a b : List Session} {n m k : Nat}

theorem SessionState.goes_iff {a b : SessionState} : a.goes b = true ↔
    a = b ∨ (a = .active ∨ a = .dormant ∨ a = .held) ∧ (b = .active ∨ b = .dormant ∨ b = .held ∨ b = .closing) := by
  cases a <;> cases b <;> decide

/-- A session of the table stands once in it. -/
theorem Roster.TableWf.split (h : r.TableWf) (hx : x ∈ r.table) :
    ∃ a b, r.table = a ++ x :: b ∧ (∀ z ∈ a ++ b, z.number ≠ x.number) ∧ (∀ y, r.replace x.number y = a ++ y :: b) ∧
      r.without x.number = a ++ b := by
  obtain ⟨a, b, hab⟩ := List.append_of_mem hx
  have hn := h.numbers
  simp only [hab, List.map_append, List.map_cons, List.nodup_append, List.nodup_cons, List.mem_cons] at hn
  obtain ⟨-, ⟨hb, -⟩, ha⟩ := hn
  have ha' : ∀ z ∈ a, z.number ≠ x.number := fun z hz =>
    ha _ (List.mem_map_of_mem hz) _ (.inl rfl)
  have hb' : ∀ z ∈ b, z.number ≠ x.number := fun z hz e => hb (e ▸ List.mem_map_of_mem hz)
  refine ⟨a, b, hab, ?_, fun y => ?_, ?_⟩
  · simpa [or_imp, forall_and] using ⟨ha', hb'⟩
  · have keep : ∀ l : List Session, (∀ z ∈ l, z.number ≠ x.number) →
        (l.map fun z => if z.number = x.number then y else z) = l := fun l hl =>
      (List.map_congr_left fun z hz => if_neg (hl z hz)).trans (List.map_id _)
    simp [Roster.replace, hab, keep a ha', keep b hb']
  · have keep : ∀ l : List Session, (∀ z ∈ l, z.number ≠ x.number) → (l.filter fun z => z.number != x.number) = l :=
      fun l hl => List.filter_eq_self.2 fun z hz => by simpa using hl z hz
    simp [Roster.without, hab, keep a ha', keep b hb']

theorem find_replaced (hn : ∀ z ∈ a ++ b, z.number ≠ x.number) (hy : y.number = x.number) (m : Nat) :
    (a ++ y :: b).find? (fun z => z.number == m) =
      if m = x.number then some y else (a ++ x :: b).find? (fun z => z.number == m) := by
  have ha : a.find? (fun z => z.number == x.number) = none :=
    List.find?_eq_none.2 fun z hz => by simpa using hn z (List.mem_append_left _ hz)
  split
  · subst m; simp [List.find?_append, ha, hy]
  · rename_i hm
    have hm' : (x.number == m) = false := by simpa using Ne.symm hm
    simp [List.find?_append, hy, hm']

theorem find_removed (hn : ∀ z ∈ a ++ b, z.number ≠ x.number) (m : Nat) :
    (a ++ b).find? (fun z => z.number == m) =
      if m = x.number then none else (a ++ x :: b).find? (fun z => z.number == m) := by
  split
  · subst m; exact List.find?_eq_none.2 fun z hz => by simpa using hn z hz
  · rename_i hm
    have hm' : (x.number == m) = false := by simpa using Ne.symm hm
    simp [List.find?_append, hm']

theorem Roster.find_split (hab : r.table = a ++ x :: b) (hn : ∀ z ∈ a ++ b, z.number ≠ x.number) :
    r.find x.number = some x := by
  have := find_replaced hn (rfl : x.number = x.number) x.number
  rwa [if_pos rfl, ← hab] at this

/-- A session of the table is the one found under its number. -/
theorem Roster.TableWf.find_mem (h : r.TableWf) (hx : x ∈ r.table) : r.find x.number = some x := by
  obtain ⟨a, b, hab, hn, -⟩ := h.split hx
  exact find_split hab hn

theorem Roster.mem_of_find (h : r.find n = some x) : x ∈ r.table ∧ x.number = n :=
  ⟨List.mem_of_find?_eq_some h, by simpa using List.find?_some h⟩

theorem Roster.holder_isSome {p : Nat} : (r.holder p).isSome = true ↔ ∃ x ∈ r.table, x.port = p ∧ x.holdsPort = true := by
  simp [Roster.holder, List.find?_isSome]

/-- How many of a list of sessions are bound to a slot and not yet priced. -/
def bound (k : Nat) (xs : List Session) : Nat := (xs.filter fun x => x.slot == some k && x.state != .waitQueue).length

theorem Roster.boundTo_eq (r : Roster) (k : Nat) : r.boundTo k = bound k r.table := rfl

theorem bound_insert (k : Nat) (a b : List Session) (x : Session) :
    bound k (a ++ x :: b) = bound k (a ++ b) + if x.slot = some k ∧ x.state ≠ .waitQueue then 1 else 0 := by
  unfold bound
  by_cases h : x.slot = some k ∧ x.state ≠ .waitQueue
  · simp [h]; omega
  · have : (x.slot == some k && x.state != .waitQueue) = false := by simpa using h
    rw [List.filter_append, List.filter_cons_of_neg (by simp [this]), if_neg h, List.filter_append, Nat.add_zero]

end

end Sys2Proof.Machine

namespace Sys2Proof.Machine

/-! ### Every move keeps the table's invariant (R6, R21, R22, R130, R135, R145) -/

section
variable {r : Roster}

theorem Session.Goes.boundWf {x y : Session} (h : x.Goes y) (hx : x.BoundWf) : y.BoundWf := by
  obtain ⟨hslot, hlinks⟩ := hx
  refine ⟨?_, h.links hlinks⟩
  have hs := SessionState.goes_iff.1 h.state
  simp only [Session.slotFits, h.slot] at hslot ⊢
  cases hk : x.slot with
  | none => simp_all
  | some k =>
    simp only [hk, Bool.and_eq_true, bne_iff_ne, ne_eq] at hslot ⊢
    refine ⟨hslot.1, fun e => ?_⟩
    obtain hs | ⟨-, hs⟩ := hs
    · exact hslot.2 (hs.trans e)
    · simp [e] at hs

theorem Session.Goes.pricing {x y : Session} (h : x.Goes y) (hx : x.state = .pricing) : y.state = .pricing := by
  have := SessionState.goes_iff.1 h.state
  simp_all

theorem Session.Goes.waitQueue_iff {x y : Session} (h : x.Goes y) : y.state = .waitQueue ↔ x.state = .waitQueue := by
  have hs := SessionState.goes_iff.1 h.state
  constructor <;> intro e <;> simp_all

/-- A session bound to no slot is in PLUGGED, one bound to a slot is not. -/
theorem Session.slotFits_iff {x : Session} : x.slotFits = true ↔
    (x.slot = none ∧ x.state = .plugged) ∨ ∃ k, x.slot = some k ∧ k < 8 ∧ x.state ≠ .plugged := by
  unfold Session.slotFits
  cases x.slot <;> simp

theorem Roster.TableWf.edit (h : r.TableWf) (g : Session → Session) (hg : ∀ x ∈ r.table, x.Goes (g x)) :
    ({ r with table := r.table.map g } : Roster).TableWf := by
  have hnum : r.table.map (Session.number ∘ g) = r.table.map Session.number :=
    List.map_congr_left fun x hx => (hg x hx).number
  have hfind : ∀ n, ({ r with table := r.table.map g } : Roster).find n = (r.find n).map g := fun n => by
    simp only [Roster.find, List.find?_map]
    congr 1
    exact List.find?_congr fun x hx => by simp [(hg x hx).number]
  refine { h with size := by simpa using h.size, numbers := by simpa [hnum] using h.numbers, each := ?_, pricing := ?_,
                  receipts := ?_, uses := ?_ }
  · simp only [List.mem_map]
    rintro _ ⟨x, hx, rfl⟩
    obtain ⟨h1, h2, hb⟩ := h.each x hx
    rw [(hg x hx).number]
    exact ⟨h1, h2, (hg x hx).boundWf hb⟩
  · intro n hn
    obtain ⟨x, hx, hs⟩ := Option.map_eq_some_iff.1 (h.pricing n hn)
    simp [hfind, hx, (hg x (mem_of_find hx).1).pricing hs]
  · intro q hq
    obtain ⟨x, hx, hs⟩ := Option.map_eq_some_iff.1 (h.receipts q hq)
    simp [hfind, hx, (hg x (mem_of_find hx).1).waitQueue_iff.2 hs]
  · intro k hk
    rw [h.uses k hk]
    simp only [Roster.boundTo, List.filter_map, List.length_map]
    congr 1
    refine List.filter_congr fun x hx => ?_
    have hw := (hg x hx).waitQueue_iff
    rw [Function.comp_apply, (hg x hx).slot, Bool.eq_iff_iff]
    simp [hw]

theorem nodup_append_singleton {α : Type} {l : List α} {x : α} : (l ++ [x]).Nodup ↔ l.Nodup ∧ x ∉ l := by
  simp [List.nodup_append]
  exact fun _ => ⟨fun h e => h x e rfl, fun h y hy e => h (e ▸ hy)⟩

theorem Roster.TableWf.opened (h : r.TableWf) {x : Session} {counter : Nat} (hroom : r.table.length < 48)
    (hnew : r.find x.number = none) (hn : 1 ≤ x.number ∧ x.number ≤ 65535) (hc : 1 ≤ counter ∧ counter ≤ 65535)
    (hx : x.state = .plugged ∧ x.slot = none ∧ x.links = []) (rest : List Nat) (f : Nat → Option PortState) :
    ({ r with table := r.table ++ [x], counter := counter, waiting := rest, portState := f } : Roster).TableWf := by
  obtain ⟨hp, hs, hl⟩ := hx
  have hfind : ∀ n z, r.find n = some z → (r.table ++ [x]).find? (fun z => z.number == n) = some z := fun n z hz => by
    simp only [Roster.find] at hz
    simp [List.find?_append, hz]
  refine { h with size := by simp; omega, numbers := ?_, each := ?_, counterPos := hc.1, counterMax := hc.2, pricing := ?_,
                  receipts := ?_, uses := ?_ }
  · rw [List.map_append, List.map_singleton, nodup_append_singleton]
    refine ⟨h.numbers, fun hm => ?_⟩
    obtain ⟨z, hz, e⟩ := List.mem_map.1 hm
    simp only [Roster.find, List.find?_eq_none] at hnew
    exact hnew z hz (by simp [e])
  · intro z hz
    obtain hz | rfl := by simpa using hz
    · exact h.each z hz
    · exact ⟨hn.1, hn.2, by simp [Session.slotFits, hs, hp], by simp [hl]⟩
  · intro n hn
    obtain ⟨z, hz, hs⟩ := Option.map_eq_some_iff.1 (h.pricing n hn)
    simp [Roster.find, hfind n z hz, hs]
  · intro q hq
    obtain ⟨z, hz, hs⟩ := Option.map_eq_some_iff.1 (h.receipts q hq)
    simp [Roster.find, hfind _ z hz, hs]
  · intro k hk
    simp [h.uses k hk, Roster.boundTo, hs]

/-- What a change of one session's record leaves true of the table itself. `hold` are the lists that must not speak of the
session changed. -/
theorem Roster.TableWf.replaced (h : r.TableWf) {x y : Session} (hx : x ∈ r.table) (hy : y.number = x.number)
    (hb : y.BoundWf) {pricing : List Nat} {receipts : List Receipt} {uses : Nat → Nat} {f : Nat → Option PortState}
    (hpn : pricing.Nodup) (hp : ∀ n ∈ pricing, n = x.number ∧ y.state = .pricing ∨ n ≠ x.number ∧ n ∈ r.pricing)
    (hrn : (receipts.map Receipt.session).Nodup)
    (hr : ∀ q ∈ receipts, q.session = x.number ∧ y.state = .waitQueue ∨ q.session ≠ x.number ∧ q ∈ r.receipts)
    (hu : ∀ k, k < 8 → uses k + (if x.slot = some k ∧ x.state ≠ .waitQueue then 1 else 0) =
      r.uses k + if y.slot = some k ∧ y.state ≠ .waitQueue then 1 else 0) :
    ({ r with table := r.replace x.number y, pricing := pricing, receipts := receipts, uses := uses,
              portState := f } : Roster).TableWf := by
  obtain ⟨a, b, hab, hne, hrep, -⟩ := h.split hx
  have hfind := fun m => hab ▸ find_replaced hne hy m
  rw [hrep]
  have hnum : (a ++ y :: b).map Session.number = r.table.map Session.number := by simp [hab, hy]
  refine { h with size := ?_, numbers := hnum ▸ h.numbers, each := ?_, pricingNodup := hpn, pricing := ?_,
                  receiptsNodup := hrn, receipts := ?_, uses := ?_ }
  · simpa [hab] using h.size
  · intro z hz
    simp only [List.mem_append, List.mem_cons] at hz
    by_cases e : z = y
    · obtain ⟨h1, h2, -⟩ := h.each x hx
      rw [e, hy]; exact ⟨h1, h2, hb⟩
    · refine h.each z ?_
      rw [hab, List.mem_append, List.mem_cons]
      tauto
  · intro n hn
    obtain ⟨rfl, hs⟩ | ⟨hne, hm⟩ := hp n hn
    · simp [Roster.find, hfind, hs]
    · simpa [Roster.find, hfind, hne] using h.pricing n hm
  · intro q hq
    obtain ⟨e, hs⟩ | ⟨hne, hm⟩ := hr q hq
    · simp [Roster.find, hfind, hs, e]
    · simpa [Roster.find, hfind, hne] using h.receipts q hm
  · intro k hk
    have h1 := h.uses k hk
    have h2 := hu k (by simpa using hk)
    simp only [Roster.boundTo_eq, hab, bound_insert] at h1 ⊢
    omega

/-- A session that leaves the table, and the lists and use counts without it. -/
theorem Roster.TableWf.removed (h : r.TableWf) {x : Session} (hx : x ∈ r.table) {pricing : List Nat}
    {receipts : List Receipt} {uses : Nat → Nat} {f : Nat → Option PortState}
    (hpn : pricing.Nodup) (hp : ∀ n ∈ pricing, n ≠ x.number ∧ n ∈ r.pricing)
    (hrn : (receipts.map Receipt.session).Nodup) (hr : ∀ q ∈ receipts, q.session ≠ x.number ∧ q ∈ r.receipts)
    (hu : ∀ k, k < 8 → uses k + (if x.slot = some k ∧ x.state ≠ .waitQueue then 1 else 0) = r.uses k) :
    ({ r with table := r.without x.number, pricing := pricing, receipts := receipts, uses := uses,
              portState := f } : Roster).TableWf := by
  obtain ⟨a, b, hab, hne, -, hout⟩ := h.split hx
  have hfind := fun m => hab ▸ find_removed (x := x) hne m
  rw [hout]
  have hsub : (a ++ b).Sublist r.table := hab ▸ List.Sublist.append_left (List.sublist_cons_self x b) a
  refine { h with size := hsub.length_le.trans h.size, numbers := (hsub.map _).nodup h.numbers,
                  each := fun z hz => h.each z (hsub.subset hz), pricingNodup := hpn, pricing := ?_, receiptsNodup := hrn,
                  receipts := ?_, uses := ?_ }
  · intro n hn
    obtain ⟨hne, hm⟩ := hp n hn
    simpa [Roster.find, hfind, hne] using h.pricing n hm
  · intro q hq
    obtain ⟨hne, hm⟩ := hr q hq
    simpa [Roster.find, hfind, hne] using h.receipts q hm
  · intro k hk
    have h1 := h.uses k hk
    have h2 := hu k (by simpa using hk)
    simp only [Roster.boundTo_eq, hab, bound_insert] at h1 ⊢
    omega

/-- A session whose state is not PRICING is not on the pricing list. -/
theorem Roster.TableWf.not_pricing (h : r.TableWf) {x : Session} (hx : x ∈ r.table) (hs : x.state ≠ .pricing) :
    ∀ n ∈ r.pricing, n ≠ x.number := by
  rintro n hn rfl
  have := h.pricing _ hn
  simp [h.find_mem hx, hs] at this

/-- No receipt of a session waits before it is in WAIT_QUEUE. -/
theorem Roster.TableWf.not_waiting (h : r.TableWf) {x : Session} (hx : x ∈ r.table) (hs : x.state ≠ .waitQueue) :
    ∀ q ∈ r.receipts, q.session ≠ x.number := by
  intro q hq e
  have := h.receipts q hq
  rw [e] at this
  simp [h.find_mem hx, hs] at this

/-- The session at the head of the pricing list is in PRICING, and the rest of the list does not name it. -/
theorem Roster.TableWf.head_pricing (h : r.TableWf) {x : Session} {rest : List Nat} (hx : x ∈ r.table)
    (hl : r.pricing = x.number :: rest) : x.state = .pricing ∧ rest.Nodup ∧ ∀ n ∈ rest, n ≠ x.number ∧ n ∈ r.pricing := by
  have hs := h.pricing x.number (by simp [hl])
  have hn := h.pricingNodup
  rw [hl, List.nodup_cons] at hn
  refine ⟨by simpa [h.find_mem hx] using hs, hn.2, fun n hm => ⟨fun e => hn.1 (e ▸ hm), by simp [hl, hm]⟩⟩

/-- The session a pricing event takes: in CLOSING or PRICING, and no longer on the list. -/
theorem Roster.TableWf.priced (h : r.TableWf) {x : Session} {rest : List Nat} (hx : x ∈ r.table)
    (hl : (x.state = .closing ∧ x.handedOver = true) ∧ rest = r.pricing ∨ r.pricing = x.number :: rest) :
    (x.state = .closing ∧ x.handedOver = true ∨ x.state = .pricing) ∧ rest.Nodup ∧
      ∀ n ∈ rest, n ≠ x.number ∧ n ∈ r.pricing := by
  obtain ⟨hs, rfl⟩ | hl := hl
  · exact ⟨.inl hs, h.pricingNodup, fun n hn => ⟨h.not_pricing hx (by simp [hs.1]) n hn, hn⟩⟩
  · obtain ⟨hs, hrest⟩ := h.head_pricing hx hl
    exact ⟨.inr hs, hrest⟩

/-- A session bound to a slot counts in its use count. -/
theorem Roster.TableWf.uses_pos (h : r.TableWf) {x : Session} {k : Nat} (hx : x ∈ r.table) (hk : x.slot = some k)
    (hs : x.state ≠ .waitQueue) : k < 8 ∧ 1 ≤ r.uses k := by
  obtain ⟨-, -, hfit, -⟩ := h.each x hx
  have hlt : k < 8 := by
    obtain ⟨e, -⟩ | ⟨j, e, hj, -⟩ := Session.slotFits_iff.1 hfit
    · simp [hk] at e
    · simp_all
  refine ⟨hlt, ?_⟩
  rw [h.uses k (List.mem_range.2 hlt)]
  exact List.length_pos_of_mem (List.mem_filter.2 ⟨hx, by simp [hk, hs]⟩)

theorem Session.BoundWf.of_eq {x y : Session} (hx : x.BoundWf) (hslot : y.slot = x.slot) (hlinks : y.links = x.links)
    (hs : y.state = .plugged ↔ x.state = .plugged) : y.BoundWf := by
  obtain ⟨hfit, hl⟩ := hx
  rw [← hlinks] at hl
  refine ⟨Session.slotFits_iff.2 ?_, hl⟩
  rw [hslot, hs]
  simpa only [ne_eq, hs] using Session.slotFits_iff.1 hfit

/-- A session bound to the active slot raises its use count. -/
theorem Roster.TableWf.authorized (h : r.TableWf) {x y : Session} {k : Nat} (hx : x ∈ r.table) (hk : r.active = some k)
    (hp : x.state = .plugged)
    (hy : y.number = x.number ∧ y.port = x.port ∧ y.slot = some k ∧ y.links = x.links ∧ y.handedOver = x.handedOver)
    (hs : y.state = .active ∨ y.state = .held) :
    ({ r with table := r.replace x.number y, uses := fun j => if j = k then r.uses k + 1 else r.uses j } :
      Roster).TableWf := by
  obtain ⟨hnum, -, hslot, hlinks, -⟩ := hy
  have hfit := (h.each x hx).2.2
  have hxs : x.slot = none := by
    obtain ⟨e, -⟩ | ⟨j, -, -, e⟩ := Session.slotFits_iff.1 hfit.1
    · exact e
    · exact absurd hp e
  have hlt : k < 8 := h.active k (by simp [hk])
  refine h.replaced hx hnum ⟨Session.slotFits_iff.2 (.inr ⟨k, hslot, hlt, ?_⟩), hlinks ▸ hfit.2⟩ h.pricingNodup
    (fun n hn => .inr ⟨h.not_pricing hx (by simp [hp]) n hn, hn⟩) h.receiptsNodup
    (fun q hq => .inr ⟨h.not_waiting hx (by simp [hp]) q hq, hq⟩) (fun j _ => ?_)
  · obtain e | e := hs <;> simp [e]
  · have hw : y.state ≠ .waitQueue := by obtain e | e := hs <;> simp [e]
    by_cases e : j = k
    · simp [hxs, hslot, hw, e]
    · simp [hxs, hslot, hw, e, Ne.symm e]

/-- A session in PLUGGED is bound to no slot. -/
theorem Roster.TableWf.abandoned (h : r.TableWf) {x : Session} {st : PortState} (hx : x ∈ r.table) (hp : x.state = .plugged) :
    ({ r with table := r.without x.number, portState := r.withPort x.port (some st) } : Roster).TableWf := by
  have hxs : x.slot = none := by
    obtain ⟨e, -⟩ | ⟨j, -, -, e⟩ := Session.slotFits_iff.1 (h.each x hx).2.2.1
    · exact e
    · exact absurd hp e
  exact h.removed hx h.pricingNodup (fun n hn => ⟨h.not_pricing hx (by simp [hp]) n hn, hn⟩) h.receiptsNodup
    (fun q hq => ⟨h.not_waiting hx (by simp [hp]) q hq, hq⟩) (fun k _ => by simp [hxs])

/-- A session that joins the pricing list. -/
theorem Roster.TableWf.listed (h : r.TableWf) {x y : Session} (hx : x ∈ r.table) (hc : x.state = .closing ∧ x.handedOver = true)
    (hy : y.number = x.number ∧ y.port = x.port ∧ y.slot = x.slot ∧ y.links = x.links ∧ y.state = .pricing ∧
      y.closingTimer = x.closingTimer) :
    ({ r with table := r.replace x.number y, pricing := r.pricing ++ [x.number] } : Roster).TableWf := by
  obtain ⟨hnum, -, hslot, hlinks, hs, -⟩ := hy
  have hout := h.not_pricing hx (by simp [hc.1])
  refine h.replaced hx hnum ((h.each x hx).2.2.of_eq hslot hlinks (by simp [hs, hc.1]))
    (nodup_append_singleton.2 ⟨h.pricingNodup, fun hm => hout _ hm rfl⟩) (fun n hn => ?_) h.receiptsNodup
    (fun q hq => .inr ⟨h.not_waiting hx (by simp [hc.1]) q hq, hq⟩) (fun k _ => by simp [hslot, hs, hc.1])
  obtain hn | rfl := by simpa using hn
  · exact .inr ⟨hout n hn, hn⟩
  · exact .inl ⟨rfl, hs⟩

/-- A session priced that leaves the table lowers its use count. -/
theorem Roster.TableWf.sold (h : r.TableWf) {x : Session} {k : Nat} {rest : List Nat} (hx : x ∈ r.table) (hk : x.slot = some k)
    (hl : (x.state = .closing ∧ x.handedOver = true) ∧ rest = r.pricing ∨ r.pricing = x.number :: rest) :
    ({ r with table := r.without x.number, pricing := rest,
              uses := fun j => if j = k then r.uses k - 1 else r.uses j } : Roster).TableWf := by
  obtain ⟨hs, hnd, hrest⟩ := h.priced hx hl
  have hw : x.state ≠ .waitQueue := by obtain e | e := hs <;> simp [e]
  obtain ⟨-, hpos⟩ := h.uses_pos hx hk hw
  refine h.removed hx hnd hrest h.receiptsNodup (fun q hq => ⟨h.not_waiting hx hw q hq, hq⟩) (fun j _ => ?_)
  by_cases e : j = k
  · simp [hk, hw, e]; omega
  · simp [hk, hw, e, Ne.symm e]

/-- A session priced whose receipt waits lowers its use count. -/
theorem Roster.TableWf.deferred (h : r.TableWf) {x y : Session} {q : Receipt} {k : Nat} {rest : List Nat} (hx : x ∈ r.table)
    (hk : x.slot = some k)
    (hl : (x.state = .closing ∧ x.handedOver = true) ∧ rest = r.pricing ∨ r.pricing = x.number :: rest)
    (hq : q.session = x.number)
    (hy : y.number = x.number ∧ y.port = x.port ∧ y.slot = x.slot ∧ y.links = x.links ∧ y.state = .waitQueue ∧
      y.closingTimer = x.closingTimer ∧ y.handedOver = x.handedOver) :
    ({ r with table := r.replace x.number y, pricing := rest, receipts := r.receipts ++ [q],
              uses := fun j => if j = k then r.uses k - 1 else r.uses j } : Roster).TableWf := by
  obtain ⟨hnum, -, hslot, hlinks, hys, -⟩ := hy
  obtain ⟨hs, hnd, hrest⟩ := h.priced hx hl
  have hw : x.state ≠ .waitQueue := by obtain e | e := hs <;> simp [e]
  have hpl : x.state ≠ .plugged := by obtain e | e := hs <;> simp [e]
  obtain ⟨-, hpos⟩ := h.uses_pos hx hk hw
  have hout := h.not_waiting hx hw
  refine h.replaced hx hnum ((h.each x hx).2.2.of_eq hslot hlinks (by simp [hys, hpl])) hnd
    (fun n hn => .inr (hrest n hn)) ?_ (fun z hz => ?_) (fun j _ => ?_)
  · rw [List.map_append, List.map_singleton, nodup_append_singleton]
    refine ⟨h.receiptsNodup, fun hm => ?_⟩
    obtain ⟨z, hz, e⟩ := List.mem_map.1 hm
    exact hout z hz (e.trans hq)
  · obtain hz | rfl := by simpa using hz
    · exact .inr ⟨hout z hz, hz⟩
    · exact .inl ⟨hq, hys⟩
  · by_cases e : j = k
    · simp [hk, hw, hys, e]; omega
    · simp [hk, hys, e, Ne.symm e]

/-- A receipt delivered takes its session, in WAIT_QUEUE, out of the table. -/
theorem Roster.TableWf.delivered (h : r.TableWf) {q : Receipt} {rest : List Receipt} (hq : r.receipts = q :: rest) :
    ({ r with table := r.without q.session, receipts := rest } : Roster).TableWf := by
  obtain ⟨x, hx, hs⟩ := Option.map_eq_some_iff.1 (h.receipts q (by simp [hq]))
  obtain ⟨hmem, hnum⟩ := Roster.mem_of_find hx
  have hnd := h.receiptsNodup
  rw [hq, List.map_cons, List.nodup_cons] at hnd
  rw [← hnum]
  refine h.removed hmem h.pricingNodup (fun n hn => ⟨h.not_pricing hmem (by simp [hs]) n hn, hn⟩) hnd.2
    (fun z hz => ⟨fun e => hnd.1 ?_, by simp [hq, hz]⟩) (fun k _ => by simp [hs])
  exact List.mem_map.2 ⟨z, hz, e.trans hnum⟩

theorem Move.keeps_tableWf {t : Roster} (hm : Move r t) (h : r.TableWf) : t.TableWf := by
  cases hm with
  | edit g hg => exact h.edit g hg
  | unconfigure p hp => exact { h with }
  | goLive f hp hf => exact { h with }
  | reset => exact (State.tableWf_iff _).1 (by decide +kernel)
  | activate k hk => exact { h with active := by simpa using hk }
  | opened p rest x counter hr hp hroom hnew hn hc hport hx =>
    exact h.opened hroom hnew hn hc ⟨hx.1, hx.2.1, hx.2.2.1⟩ rest _
  | authorized x y k hx hk hp hy hs => exact h.authorized hx hk hp hy hs
  | abandoned x st hx hp hst => exact h.abandoned hx hp
  | closed x y st hx hc ho hst hy =>
    obtain ⟨hnum, -, hslot, hlinks, hs, -⟩ := hy
    exact h.replaced hx hnum ((h.each x hx).2.2.of_eq hslot hlinks (by simp [hs, hc])) h.pricingNodup
      (fun n hn => .inr ⟨h.not_pricing hx (by simp [hc]) n hn, hn⟩) h.receiptsNodup
      (fun q hq => .inr ⟨h.not_waiting hx (by simp [hc]) q hq, hq⟩) (fun k _ => by simp [hslot, hs, hc])
  | parked p hr hp => exact { h with }
  | unparked p rest hr hp => exact { h with }
  | listed x y hx hc hy => exact h.listed hx hc hy
  | sold x k rest hx hk hl => exact h.sold hx hk hl
  | deferred x y q k rest hx hk hl hq hy => exact h.deferred hx hk hl hq hy
  | delivered q rest hq => exact h.delivered hq

end

end Sys2Proof.Machine

namespace Sys2Proof.Machine

/-! ### Every move keeps the ports' invariant (R2 to R4, R21) -/

section
variable {r : Roster}

theorem Roster.PortsWf.live_of_mem (h : r.PortsWf) {x : Session} (hx : x ∈ r.table) : r.part ≠ .setup := fun hs => by
  simp [(h.setup hs).1] at hx

/-- A port that is not IN_SESSION is held by no session. -/
theorem Roster.PortsWf.unheld (h : r.PortsWf) {p : Nat} (hp : r.portState p ≠ some .inSession) :
    ∀ x ∈ r.table, x.holdsPort = true → x.port ≠ p := fun x hx ho e => hp (e ▸ h.held x hx ho)

theorem Session.Goes.ports {x y : Session} (h : x.Goes y) (hx : x.HandedWf) :
    y.port = x.port ∧ y.holdsPort = x.holdsPort ∧ y.HandedWf := by
  refine ⟨h.port, ?_⟩
  have hs := SessionState.goes_iff.1 h.state
  have hc := h.closingTimer
  have ho := h.handedOver
  simp only [Session.HandedWf, Session.holdsPort, ho] at hx ⊢
  obtain e | ⟨e, e'⟩ := hs
  · simp only [← e] at hc ⊢
    exact ⟨trivial, fun ht => ⟨by obtain hc | hc | hc := hc <;> simp_all, (hx ht).2⟩⟩
  · have hf : x.handedOver = false := by
      cases ht : x.handedOver with
      | false => rfl
      | true => obtain ⟨-, k⟩ := hx ht; obtain e | e | e := e <;> simp [e] at k
    refine ⟨?_, by simp [hf]⟩
    obtain e | e | e := e <;> obtain e' | e' | e' | e' := e' <;> simp [e, e', hf]

/-- Session records change, each keeping its port and whether it holds it. -/
theorem Roster.PortsWf.map (h : r.PortsWf) (g : Session → Session)
    (hg : ∀ x ∈ r.table, (g x).port = x.port ∧ (g x).holdsPort = x.holdsPort ∧ (g x).HandedWf)
    (pricing : List Nat) (receipts : List Receipt) (uses : Nat → Nat) :
    ({ r with table := r.table.map g, pricing := pricing, receipts := receipts, uses := uses } : Roster).PortsWf := by
  have hports : (((r.table.map g).filter Session.holdsPort).map Session.port) =
      (r.table.filter Session.holdsPort).map Session.port := by
    rw [List.filter_map, List.map_map]
    have e : r.table.filter (Session.holdsPort ∘ g) = r.table.filter Session.holdsPort :=
      List.filter_congr fun x hx => (hg x hx).2.1
    rw [e]
    exact List.map_congr_left fun x hx => (hg x (List.mem_of_mem_filter hx)).1
  refine { h with handed := ?_, ports := hports ▸ h.ports, held := ?_, holder := ?_, setup := ?_ }
  · intro z hz
    obtain ⟨x, hx, rfl⟩ := List.mem_map.1 hz
    exact (hg x hx).2.2
  · intro z hz ho
    obtain ⟨x, hx, rfl⟩ := List.mem_map.1 hz
    obtain ⟨hport, hholds, -⟩ := hg x hx
    rw [hport]
    exact h.held x hx (hholds ▸ ho)
  · intro p hp hs
    obtain ⟨x, hx, hport, hholds⟩ := Roster.holder_isSome.1 (h.holder p hp hs)
    obtain ⟨hport', hholds', -⟩ := hg x hx
    exact Roster.holder_isSome.2 ⟨g x, List.mem_map_of_mem hx, hport'.trans hport, hholds'.trans hholds⟩
  · intro hs
    obtain ⟨ht, hrest⟩ := h.setup hs
    exact ⟨by simp [ht], hrest⟩

/-- One session's record changes, keeping its port and whether it holds it. -/
theorem Roster.PortsWf.replaced (h : r.PortsWf) (ht : r.TableWf) {x y : Session} (hx : x ∈ r.table)
    (hy : y.port = x.port ∧ y.holdsPort = x.holdsPort ∧ y.HandedWf) (pricing : List Nat) (receipts : List Receipt)
    (uses : Nat → Nat) :
    ({ r with table := r.replace x.number y, pricing := pricing, receipts := receipts, uses := uses } : Roster).PortsWf := by
  refine h.map _ (fun z hz => ?_) pricing receipts uses
  split
  · rename_i e
    rwa [List.inj_on_of_nodup_map ht.numbers hz hx e]
  · exact ⟨rfl, rfl, h.handed z hz⟩

/-- A session that holds no port leaves the table. -/
theorem Roster.PortsWf.removed (h : r.PortsWf) {n : Nat} (hn : ∀ x ∈ r.table, x.number = n → x.holdsPort = false)
    (pricing : List Nat) (receipts : List Receipt) (uses : Nat → Nat) :
    ({ r with table := r.without n, pricing := pricing, receipts := receipts, uses := uses } : Roster).PortsWf := by
  have hsub : (r.without n).Sublist r.table := List.filter_sublist
  refine { h with handed := fun x hx => h.handed x (hsub.subset hx),
                  ports := ((hsub.filter _).map _).nodup h.ports,
                  held := fun x hx => h.held x (hsub.subset hx), holder := ?_, setup := ?_ }
  · intro p hp hs
    obtain ⟨x, hx, hport, hholds⟩ := Roster.holder_isSome.1 (h.holder p hp hs)
    refine Roster.holder_isSome.2 ⟨x, List.mem_filter.2 ⟨hx, ?_⟩, hport, hholds⟩
    have : x.number ≠ n := fun e => by simp [hn x hx e] at hholds
    simpa using this
  · intro hs
    obtain ⟨ht, hrest⟩ := h.setup hs
    exact ⟨by simp [Roster.without, ht], hrest⟩

/-- The session that holds a port goes, or stops to hold it, and the port becomes FREE or BLOCKED. -/
theorem Roster.PortsWf.released (h : r.PortsWf) {x : Session} {a b rest : List Session} {st : PortState}
    (hab : r.table = a ++ x :: b) (ho : x.holdsPort = true) (hst : st = .free ∨ st = .blocked)
    (hrest : ∀ y ∈ rest, y.holdsPort = false ∧ y.HandedWf) :
    ({ r with table := a ++ (rest ++ b), portState := r.withPort x.port (some st) } :
      Roster).PortsWf := by
  have hst1 : st ≠ .inSession := by obtain rfl | rfl := hst <;> decide
  have hst2 : st ≠ .waiting := by obtain rfl | rfl := hst <;> decide
  have hx : x ∈ r.table := by simp [hab]
  have hin := h.held x hx ho
  have hmem : ∀ z, z ∈ a ++ b → z ∈ r.table := fun z hz => by
    rw [hab]; simp only [List.mem_append, List.mem_cons] at hz ⊢; tauto
  have hfil : rest.filter Session.holdsPort = [] := List.filter_eq_nil_iff.2 fun y hy => by simp [(hrest y hy).1]
  have hports := h.ports
  have hother : ∀ z ∈ a ++ b, z.holdsPort = true → z.port ≠ x.port := by
    intro z hz hzo e
    simp only [hab, List.filter_append, List.filter_cons, ho, if_true, List.map_append, List.map_cons,
      List.nodup_append, List.nodup_cons] at hports
    obtain ⟨-, ⟨hb, -⟩, ha⟩ := hports
    obtain hz | hz := List.mem_append.1 hz
    · exact ha z.port (List.mem_map_of_mem (List.mem_filter.2 ⟨hz, hzo⟩)) x.port (by simp) e
    · exact hb (e ▸ List.mem_map_of_mem (List.mem_filter.2 ⟨hz, hzo⟩))
  have hsplit : ∀ z, z ∈ a ++ (rest ++ b) → z ∈ rest ∨ z ∈ a ++ b := fun z hz => by
    simp only [List.mem_append] at hz ⊢; tauto
  refine { h with handed := ?_, ports := ?_, held := ?_, holder := ?_, waiting := ?_, listed := ?_,
                  setup := fun hs => absurd hs (h.live_of_mem hx) }
  · intro z hz
    obtain hz | hz := hsplit z hz
    · exact (hrest z hz).2
    · exact h.handed z (hmem z hz)
  · rw [hab] at hports
    have hsub : (a ++ b).Sublist (a ++ x :: b) := List.Sublist.append_left (List.sublist_cons_self x b) a
    have : (a ++ (rest ++ b)).filter Session.holdsPort = (a ++ b).filter Session.holdsPort := by
      simp [List.filter_append, hfil]
    exact this ▸ ((hsub.filter _).map _).nodup hports
  · intro z hz hzo
    obtain hz | hz := hsplit z hz
    · simp [(hrest z hz).1] at hzo
    · simpa [hother z hz hzo] using h.held z (hmem z hz) hzo
  · intro p hp hs
    by_cases e : p = x.port
    · subst e; simp [hp, hst1] at hs
    · obtain ⟨z, hz, hport, hholds⟩ := Roster.holder_isSome.1 (h.holder p hp (by simpa [e] using hs))
      have hzx : z ≠ x := fun k => e (hport ▸ k ▸ rfl)
      refine Roster.holder_isSome.2 ⟨z, ?_, hport, hholds⟩
      rw [hab] at hz
      simp only [List.mem_append, List.mem_cons] at hz ⊢
      tauto
  · intro p hp
    have hw := h.waiting p hp
    have e : p ≠ x.port := fun e => by simp [← e, hw] at hin
    simpa [e] using hw
  · intro p hp hs
    by_cases e : p = x.port
    · subst e; simp [hp, hst2] at hs
    · exact h.listed p hp (by simpa [e] using hs)

/-- A session opened on a port that no session holds. -/
theorem Roster.PortsWf.opened (h : r.PortsWf) {p : Nat} {rest : List Nat} {x : Session}
    (hr : r.portState p ≠ none → p ∈ portNumbers)
    (hp : r.portState p = some .free ∧ rest = r.waiting ∨ r.waiting = p :: rest) (hport : x.port = p)
    (hx : x.holdsPort = true ∧ x.handedOver = false) (counter : Nat) :
    ({ r with table := r.table ++ [x], counter := counter, waiting := rest,
              portState := r.withPort p (some .inSession) } : Roster).PortsWf := by
  obtain ⟨hholds, hnot⟩ := hx
  have hstate : r.portState p = some .free ∨ r.portState p = some .waiting := by
    obtain ⟨e, -⟩ | e := hp
    · exact .inl e
    · exact .inr (h.waiting p (by simp [e]))
  have hpr := hr (by obtain e | e := hstate <;> simp [e])
  have hun := h.unheld (p := p) (by obtain e | e := hstate <;> simp [e])
  have hlist : rest.Nodup ∧ ∀ q, q ∈ rest ↔ q ∈ r.waiting ∧ q ≠ p := by
    obtain ⟨e, rfl⟩ | e := hp
    · exact ⟨h.waitNodup, fun q => ⟨fun hq => ⟨hq, fun k => by simp [← k, h.waiting q hq] at e⟩, And.left⟩⟩
    · have hn := h.waitNodup
      rw [e, List.nodup_cons] at hn
      refine ⟨hn.2, fun q => ⟨fun hq => ⟨by simp [e, hq], fun k => hn.1 (k ▸ hq)⟩, fun ⟨hq, k⟩ => ?_⟩⟩
      simpa [e, k] using hq
  obtain ⟨hnd, hmem⟩ := hlist
  refine { handed := ?_, ports := ?_, held := ?_, holder := ?_, waitNodup := hnd, waiting := ?_, listed := ?_, setup := ?_ }
  · intro z hz
    obtain hz | rfl := by simpa using hz
    · exact h.handed z hz
    · simp [Session.HandedWf, hnot]
  · rw [List.filter_append, List.map_append, List.filter_singleton, hholds, cond_true, List.map_singleton,
      nodup_append_singleton]
    refine ⟨h.ports, fun hm => ?_⟩
    obtain ⟨z, hz, e⟩ := List.mem_map.1 hm
    obtain ⟨hz, ho⟩ := List.mem_filter.1 hz
    exact hun z hz ho (e.trans hport)
  · intro z hz ho
    obtain hz | rfl := by simpa using hz
    · simpa [hun z hz ho] using h.held z hz ho
    · simp [hport, hpr]
  · intro q hq hs
    refine Roster.holder_isSome.2 ?_
    by_cases e : q = p
    · exact ⟨x, by simp, hport.trans e.symm, hholds⟩
    · obtain ⟨z, hz, hzp⟩ := Roster.holder_isSome.1 (h.holder q hq (by simpa [e] using hs))
      exact ⟨z, by simp [hz], hzp⟩
  · intro q hq
    obtain ⟨hq, e⟩ := (hmem q).1 hq
    simpa [e] using h.waiting q hq
  · intro q hq hs
    have e : q ≠ p := by rintro rfl; simp [hq] at hs
    exact (hmem q).2 ⟨h.listed q hq (by simpa [e] using hs), e⟩
  · intro hs
    exfalso
    obtain ⟨-, hw, hnone⟩ := h.setup hs
    obtain ⟨e, -⟩ | e := hp
    · simp [hnone p (hr (by simp [e]))] at e
    · simp [hw] at e

/-- A port that becomes absent, in SETUP. -/
theorem Roster.PortsWf.unconfigured (h : r.PortsWf) {p : Nat} (hp : r.part = .setup) :
    ({ r with portState := r.withPort p none } : Roster).PortsWf := by
  obtain ⟨htable, hwait, hnone⟩ := h.setup hp
  have hnone' : ∀ q ∈ portNumbers, r.withPort p none q = none := fun q hq => by
    by_cases e : q = p
    · subst e; simp [hq]
    · simp [e, hnone q hq]
  refine { h with held := by simp [htable], holder := ?_, waiting := by simp [hwait], listed := ?_, setup := ?_ }
  · intro q hq hs
    simp [hnone' q hq] at hs
  · intro q hq hs
    simp [hnone' q hq] at hs
  · exact fun _ => ⟨htable, hwait, hnone'⟩

/-- GO_LIVE, with every port FREE or as it was. -/
theorem Roster.PortsWf.wentLive (h : r.PortsWf) {f : Nat → Option PortState} (hp : r.part = .setup)
    (hf : ∀ p, f p = r.portState p ∨ f p = some .free) : ({ r with part := .live, portState := f } : Roster).PortsWf := by
  obtain ⟨htable, hwait, hnone⟩ := h.setup hp
  have hfree : ∀ p ∈ portNumbers, f p = none ∨ f p = some .free := fun p hr => by
    obtain e | e := hf p <;> simp [e, hnone p hr]
  refine { h with held := by simp [htable], holder := ?_, waiting := by simp [hwait], listed := ?_,
                  setup := fun hs => by cases hs }
  · intro q hq hs
    obtain e | e := hfree q hq <;> simp [e] at hs
  · intro q hq hs
    obtain e | e := hfree q hq <;> simp [e] at hs

/-- A port that becomes WAITING. -/
theorem Roster.PortsWf.parked (h : r.PortsWf) {p : Nat} (hr : p ∈ portNumbers) (hp : r.portState p = some .free) :
    ({ r with waiting := r.waiting ++ [p], portState := r.withPort p (some .waiting) } : Roster).PortsWf := by
  have hun := h.unheld (p := p) (by simp [hp])
  have hout : p ∉ r.waiting := fun hm => by simp [h.waiting p hm] at hp
  refine { h with held := ?_, holder := ?_, waitNodup := nodup_append_singleton.2 ⟨h.waitNodup, hout⟩, waiting := ?_,
                  listed := ?_, setup := fun hs => by simp [(h.setup hs).2.2 p hr] at hp }
  · intro x hx ho
    simpa [hun x hx ho] using h.held x hx ho
  · intro q hq hs
    by_cases e : q = p
    · subst e; simp [hr] at hs
    · exact h.holder q hq (by simpa [e] using hs)
  · intro q hq
    by_cases e : q = p
    · subst e; simp [hr]
    · simpa [e] using h.waiting q (by simpa [e] using hq)
  · intro q hq hs
    by_cases e : q = p
    · simp [e]
    · exact List.mem_append_left _ (h.listed q hq (by simpa [e] using hs))

/-- A WAITING or BLOCKED port that becomes FREE. -/
theorem Roster.PortsWf.unparked (h : r.PortsWf) {p : Nat} {rest : List Nat} (hr : p ∈ portNumbers)
    (hp : r.portState p = some .waiting ∧ (rest = r.waiting.filter fun q => q != p) ∨
      r.portState p = some .blocked ∧ rest = r.waiting) :
    ({ r with waiting := rest, portState := r.withPort p (some .free) } : Roster).PortsWf := by
  have hun := h.unheld (p := p) (by obtain ⟨e, -⟩ | ⟨e, -⟩ := hp <;> simp [e])
  have hrest : rest.Nodup ∧ ∀ q, q ∈ rest ↔ q ∈ r.waiting ∧ q ≠ p := by
    obtain ⟨-, rfl⟩ | ⟨e, rfl⟩ := hp
    · exact ⟨h.waitNodup.filter _, fun q => by simp⟩
    · exact ⟨h.waitNodup, fun q => ⟨fun hq => ⟨hq, fun k => by simp [← k, h.waiting q hq] at e⟩, And.left⟩⟩
  obtain ⟨hnd, hmem⟩ := hrest
  refine { h with held := ?_, holder := ?_, waitNodup := hnd, waiting := ?_, listed := ?_, setup := fun hs => ?_ }
  · intro x hx ho
    simpa [hun x hx ho] using h.held x hx ho
  · intro q hq hs
    by_cases e : q = p
    · subst e; simp [hr] at hs
    · exact h.holder q hq (by simpa [e] using hs)
  · intro q hq
    obtain ⟨hq, e⟩ := (hmem q).1 hq
    simpa [e] using h.waiting q hq
  · intro q hq hs
    have e : q ≠ p := by rintro rfl; simp [hq] at hs
    exact (hmem q).2 ⟨h.listed q hq (by simpa [e] using hs), e⟩
  · have := (h.setup hs).2.2 p hr
    simp [this] at hp

theorem Move.keeps_portsWf {t : Roster} (hm : Move r t) (ht : r.TableWf) (h : r.PortsWf) : t.PortsWf := by
  cases hm with
  | edit g hg => exact h.map g (fun x hx => (hg x hx).ports (h.handed x hx)) _ _ _
  | unconfigure p hp => exact h.unconfigured hp
  | goLive f hp hf => exact h.wentLive hp hf
  | reset => exact (State.portsWf_iff _).1 (by decide +kernel)
  | activate k hk => exact { h with }
  | opened p rest x counter hr hp hroom hnew hn hc hport hx =>
    obtain ⟨hs, -, -, ho⟩ := hx
    exact h.opened hr hp hport ⟨by simp [Session.holdsPort, hs], ho⟩ counter
  | authorized x y k hx hk hp hy hs =>
    obtain ⟨-, hport, -, -, ho⟩ := hy
    have hf : x.handedOver = false := by
      cases e : x.handedOver with
      | false => rfl
      | true => simpa [hp] using (h.handed x hx e).2
    refine h.replaced ht hx ⟨hport, ?_, by simp [Session.HandedWf, ho, hf]⟩ _ _ _
    obtain e | e := hs <;> simp [Session.holdsPort, hp, e]
  | abandoned x st hx hp hst =>
    obtain ⟨a, b, hab, -, -, hout⟩ := ht.split hx
    rw [hout]
    exact h.released (rest := []) hab (by simp [Session.holdsPort, hp]) hst (by simp)
  | closed x y st hx hc ho hst hy =>
    obtain ⟨a, b, hab, -, hrep, -⟩ := ht.split hx
    obtain ⟨-, -, -, -, hs, hover, htimer⟩ := hy
    have hf : x.handedOver = false := by
      obtain e | e := ho
      · exact e
      · cases k : x.handedOver with
        | false => rfl
        | true => exact absurd (h.handed x hx k).1 e
    rw [hrep]
    refine h.released (rest := [y]) hab (by simp [Session.holdsPort, hc, hf]) hst fun z hz => ?_
    rw [List.mem_singleton.1 hz]
    simp [Session.holdsPort, Session.HandedWf, hs, hover, htimer]
  | parked p hr hp => exact h.parked hr hp
  | unparked p rest hr hp => exact h.unparked hr hp
  | listed x y hx hc hy =>
    obtain ⟨-, hport, -, -, hs, htimer⟩ := hy
    obtain ⟨ht', -⟩ := h.handed x hx hc.2
    exact h.replaced ht hx ⟨hport, by simp [Session.holdsPort, hs, hc], by simp [Session.HandedWf, hs, htimer, ht']⟩ _ _ _
  | sold x k rest hx hk hl =>
    obtain ⟨hs, -⟩ := ht.priced hx hl
    refine h.removed (fun z hz e => ?_) _ _ _
    rw [List.inj_on_of_nodup_map ht.numbers hz hx e]
    obtain ⟨hs, ho⟩ | hs := hs
    · simp [Session.holdsPort, hs, ho]
    · simp [Session.holdsPort, hs]
  | deferred x y q k rest hx hk hl hq hy =>
    obtain ⟨-, hport, -, -, hs', htimer, ho'⟩ := hy
    obtain ⟨hs, -⟩ := ht.priced hx hl
    have hx' := h.handed x hx
    refine h.replaced ht hx ⟨hport, ?_, fun e => ⟨htimer.trans (hx' (ho' ▸ e)).1, by simp [hs']⟩⟩ _ _ _
    obtain ⟨hs, ho⟩ | hs := hs
    · simp [Session.holdsPort, hs', hs, ho]
    · simp [Session.holdsPort, hs', hs]
  | delivered q rest hq =>
    refine h.removed (fun z hz e => ?_) _ _ _
    have := ht.receipts q (by simp [hq])
    rw [← e, ht.find_mem hz] at this
    simp only [Option.map_some, Option.some.injEq] at this
    simp [Session.holdsPort, this]

end

end Sys2Proof.Machine

namespace Sys2Proof.Machine

/-! ## Each operation of the sessions is a move, or a few -/

/-! ### Ports -/

theorem mem_portNumbers {p : Nat} : p ∈ portNumbers ↔ 1 ≤ p ∧ p ≤ 32 := by
  simp [portNumbers, List.mem_range'_1]; omega

theorem nth_outside {α : Type} {n : Nat} (v : Vector α n) (d : α) {i : Nat} (h : i < 1 ∨ n < i) : nth v d i = d := by
  unfold nth
  obtain h | h := h
  · simp [show i = 0 by omega]
  · simp [show i ≠ 0 by omega, show n ≤ i - 1 by omega]

/-- A port with a state is one of the 32. -/
theorem SessionController.port_of_state {c : SessionController} {p : Nat} (h : (c.record p).state ≠ none) :
    p ∈ portNumbers := by
  by_contra hp
  rw [mem_portNumbers] at hp
  exact h (by rw [SessionController.record, nth_outside _ _ (by omega)]; rfl)

/-- A port with an entry is one of the 32. -/
theorem SessionController.port_of_entry {c : SessionController} {p : Nat} {e : PortEntry} (h : c.entry p = some e) :
    p ∈ portNumbers := by
  by_contra hp
  rw [mem_portNumbers] at hp
  rw [SessionController.entry, nth_outside _ _ (by omega)] at h
  cases h

/-- The record of every port after one is replaced; outside the 32 ports nothing is. -/
theorem SessionController.record_setRecord_if (c : SessionController) (p q : Nat) (x : PortRecord) :
    (c.setRecord p x).record q = if q = p ∧ q ∈ portNumbers then x else c.record q := by
  by_cases hp : 1 ≤ p ∧ p ≤ 32
  · rw [c.record_setRecord p q x hp.1 hp.2]
    by_cases e : q = p
    · simp [e, mem_portNumbers.2 hp]
    · simp [e]
  · have hout : (c.setRecord p x) = c := by
      rw [SessionController.setRecord, put_outside _ _ _ (by omega)]
    have : ¬ (q = p ∧ q ∈ portNumbers) := by
      rintro ⟨rfl, hq⟩
      exact hp (mem_portNumbers.1 hq)
    rw [hout, if_neg this]

theorem State.portState_setRecord (s : State) (p : Nat) (x : PortRecord) :
    (fun q => ((s.sessions.setRecord p x).record q).state) = s.roster.withPort p x.state := by
  funext q
  rw [SessionController.record_setRecord_if]
  unfold Roster.withPort
  split <;> rfl

/-- A field of a port record other than the port state. -/
theorem State.roster_setRecord (s : State) (p : Nat) (x : PortRecord) (h : x.state = (s.sessions.record p).state) :
    (s.setSessions (s.sessions.setRecord p x)).roster = s.roster := by
  have : s.roster.withPort p x.state = s.roster.portState := by
    funext q
    unfold Roster.withPort
    split
    · rename_i e; rw [h, e.1]; rfl
    · rfl
  rw [State.roster_setSessions, State.portState_setRecord, this]
  rfl

@[simp] theorem State.roster_setPortState (s : State) (p : Nat) (st : PortState) :
    (s.setPortState p st).roster = { s.roster with portState := s.roster.withPort p (some st) } := by
  rw [State.setPortState, State.roster_sendChargerTarget, State.roster_setSessions, State.portState_setRecord]
  rfl

@[simp] theorem State.roster_lockoutAlone (s : State) (sent p : Nat) : (s.lockoutAlone sent p).roster = s.roster := by
  unfold State.lockoutAlone; split <;> rfl

/-! ### Transitions -/

theorem Session.Goes.refl (x : Session) : x.Goes x :=
  ⟨rfl, rfl, rfl, by simp [SessionState.goes], id, rfl, .inl rfl⟩

theorem Session.Goes.carry {x y : Session} (h : x.Goes y) (now delay : Nat) (before : Session) :
    x.Goes (carryTimers now delay before y) :=
  ⟨h.number, h.port, h.slot, h.state, h.links, h.handedOver, h.closingTimer⟩

/-- The whole record of a transition, the three notices left out. -/
theorem State.roster_transition {s : State} {n : Nat} {x : Session} (f : Session → Session)
    (h : s.sessions.find n = some x) :
    (s.transition n f).roster = { s.roster with
      table := s.roster.replace n (carryTimers s.runTime s.sessions.dormantDelay x (f x)) } := by
  have quiet : ∀ (u : State) (a b : Session),
      (((u.pauseOnLeaving a b).requestOnChange a b).noticeOnChange a b).roster = u.roster := by
    intro u a b
    simp only [State.noticeOnChange, State.requestOnChange, State.pauseOnLeaving]
    split_ifs <;> simp
  simp only [State.transition, h, quiet]
  rfl

/-! ### The invariant carried along a command -/

/-- A claim about the roster that implies the invariant of the table and that every move keeps. -/
structure Kept (P : Roster → Prop) : Prop where
  tableWf : ∀ {r}, P r → r.TableWf
  move : ∀ {r t}, Move r t → P r → P t

section
variable {P : Roster → Prop} {s : State}

theorem Kept.find_mem (h : Kept P) (hs : P s.roster) {x : Session} (hx : x ∈ s.sessions.table) :
    s.sessions.find x.number = some x := (h.tableWf hs).find_mem hx

theorem Kept.update (h : Kept P) (hs : P s.roster) (n : Nat) (f : Session → Session)
    (hf : ∀ x, s.sessions.find n = some x → x.Goes (f x)) : P (s.setSessions (s.sessions.update n f)).roster := by
  refine h.move (.edit (fun x => if x.number = n then f x else x) fun x hx => ?_) hs
  split
  · rename_i e; exact hf x (e ▸ h.find_mem hs hx)
  · exact .refl x

theorem Kept.transition (h : Kept P) (hs : P s.roster) (n : Nat) (f : Session → Session)
    (hf : ∀ x, s.sessions.find n = some x → x.Goes (f x)) : P (s.transition n f).roster := by
  cases hx : s.sessions.find n with
  | none => rwa [State.transition_none _ _ _ hx]
  | some x =>
    rw [State.roster_transition f hx]
    refine h.move (.edit _ fun z hz => ?_) hs
    split
    · rename_i e
      have : z = x := Option.some.inj ((e ▸ h.find_mem hs hz).symm.trans hx)
      exact this ▸ (hf x hx).carry _ _ _
    · exact .refl z

theorem holder_spec {c : SessionController} {p : Nat} {x : Session} (h : c.holder p = some x) :
    x ∈ c.table ∧ x.port = p ∧ x.holdsPort = true := by
  have := List.find?_some h
  simp only [Bool.and_eq_true, beq_iff_eq] at this
  exact ⟨List.mem_of_find?_eq_some h, this⟩

theorem find_spec {c : SessionController} {n : Nat} {x : Session} (h : c.find n = some x) :
    x ∈ c.table ∧ x.number = n :=
  ⟨List.mem_of_find?_eq_some h, by simpa using List.find?_some h⟩

/-! ### Hold reasons and demand -/

/-- A change of no more than the state, the holds, the flags, the demand and what transitions carry. -/
theorem Session.Goes.of_eq {x y : Session} (hn : y.number = x.number) (hp : y.port = x.port) (hs : y.slot = x.slot)
    (hl : y.links = x.links) (ho : y.handedOver = x.handedOver) (hc : y.closingTimer = x.closingTimer)
    (hst : x.state.goes y.state = true) : x.Goes y :=
  ⟨hn, hp, hs, hst, hl ▸ id, ho, .inl hc⟩

theorem Session.goes_addHold (x : Session) (k : HoldReason) : x.Goes (x.addHold k) := by
  unfold Session.addHold
  cases hs : x.state with
  | closing => simp only; split_ifs <;> apply Session.Goes.of_eq <;> simp [hs, SessionState.goes]
  | _ => apply Session.Goes.of_eq <;> simp [hs, SessionState.goes]

theorem Session.goes_removeHold (x : Session) (k : HoldReason) : x.Goes (x.removeHold k) := by
  unfold Session.removeHold
  cases hs : x.state with
  | held => simp only; split_ifs <;> apply Session.Goes.of_eq <;> simp [hs, SessionState.goes]
  | _ => apply Session.Goes.of_eq <;> simp [hs, SessionState.goes]

theorem Session.goes_follow (x : Session) (d e : Nat) : x.Goes (x.follow d e) := by
  unfold Session.follow
  apply Session.Goes.of_eq <;> try rfl
  by_cases h : x.state = .dormant ∧ 0 < d <;> simp [h, SessionState.goes]

theorem Kept.holdPort (h : Kept P) (hs : P s.roster) (p : Nat) (k : HoldReason) (add : Bool) :
    P (s.holdPort p k add).roster := by
  unfold State.holdPort
  split
  · exact hs
  · refine h.transition hs _ _ fun x _ => ?_
    cases add
    · exact x.goes_removeHold k
    · exact x.goes_addHold k

theorem Kept.applyFault (h : Kept P) (hs : P s.roster) (p : Nat) (b : Bool) : P (s.applyFault p b).roster := by
  have hr := s.roster_setRecord p { s.sessions.record p with fault := b } rfl
  simp only [State.applyFault]
  split_ifs
  · exact hr ▸ hs
  · refine h.holdPort ?_ _ _ _
    rw [State.roster_raise, hr]; exact hs
  · exact h.holdPort (hr.symm ▸ hs) _ _ _

theorem Kept.applyDemand (h : Kept P) (hs : P s.roster) (p : Nat) : P (s.applyDemand p).roster := by
  unfold State.applyDemand
  split
  · exact hs
  · exact h.transition hs _ _ fun x _ => x.goes_follow _ _

end

end Sys2Proof.Machine

namespace Sys2Proof.Machine

/-! ### Session numbers (R6) -/

/-- Going on from a number of 1 to 65,535 for fewer than 65,535 times meets no number again. -/
theorem nextNumber_iterate {n : Nat} (h : 1 ≤ n) (h' : n ≤ 65535) (j : Nat) :
    nextNumber^[j] n = (n - 1 + j) % 65535 + 1 := by
  induction j with
  | zero => simp; omega
  | succ j ih =>
    rw [Function.iterate_succ_apply', ih, nextNumber]
    split <;> omega

/-- The number a search ends with is the first free one it met, if it did not run out. -/
theorem freeNumber_spec (c : SessionController) (fuel n : Nat) :
    ∃ k ≤ fuel, freeNumber c fuel n = nextNumber^[k] n ∧ (∀ j < k, (c.find (nextNumber^[j] n)).isSome = true) ∧
      (k < fuel → c.find (nextNumber^[k] n) = none) := by
  induction fuel generalizing n with
  | zero => exact ⟨0, le_rfl, rfl, by simp, by simp⟩
  | succ fuel ih =>
    by_cases hf : (c.find n).isSome = true
    · obtain ⟨k, hk, he, hall, hnone⟩ := ih (nextNumber n)
      refine ⟨k + 1, by omega, by simpa [freeNumber, hf] using he, fun j hj => ?_, fun h => by simpa using hnone (by omega)⟩
      cases j with
      | zero => exact hf
      | succ j => exact hall j (by omega)
    · exact ⟨0, by omega, by simp [freeNumber, hf], by simp, fun _ => by simpa using hf⟩

/-- While the table has room, the first number from the counter on that no session has is found within 48 numbers. -/
theorem freeNumber_of_room {c : SessionController} (hc : 1 ≤ c.counter ∧ c.counter ≤ 65535) (hr : c.table.length ≤ 48) :
    ∃ k ≤ 48, freeNumber c (Config.tableCapacity + 1) c.counter = nextNumber^[k] c.counter ∧
      (∀ j < k, (c.find (nextNumber^[j] c.counter)).isSome = true) ∧ c.find (nextNumber^[k] c.counter) = none := by
  obtain ⟨k, hk, he, hall, hnone⟩ := freeNumber_spec c (Config.tableCapacity + 1) c.counter
  suffices hlt : k < 49 from ⟨k, by omega, he, hall, hnone hlt⟩
  have hmem : (List.range k).map (fun j => nextNumber^[j] c.counter) ⊆ c.table.map Session.number := by
    intro m hm
    obtain ⟨j, hj, rfl⟩ := List.mem_map.1 hm
    obtain ⟨x, hx⟩ := Option.isSome_iff_exists.1 (hall j (List.mem_range.1 hj))
    obtain ⟨hx, hn⟩ := find_spec hx
    exact hn ▸ List.mem_map_of_mem hx
  have hnd : ((List.range k).map fun j => nextNumber^[j] c.counter).Nodup := by
    refine List.Nodup.map_on (fun i hi j hj e => ?_) List.nodup_range
    have hk' : k ≤ 49 := hk
    rw [List.mem_range] at hi hj
    rw [nextNumber_iterate hc.1 hc.2, nextNumber_iterate hc.1 hc.2] at e
    omega
  have := (List.subperm_of_subset hnd hmem).length_le
  simp at this
  omega

theorem nextNumber_range {n : Nat} (h : 1 ≤ n) : 1 ≤ nextNumber n ∧ nextNumber n ≤ 65535 := by
  unfold nextNumber; split <;> omega

@[simp] theorem State.roster_noticeUrgent (s : State) (n : Nat) (a b : SessionClass) :
    (s.noticeUrgent n a b).roster = s.roster := by unfold State.noticeUrgent; split <;> simp

section
variable {P : Roster → Prop} {s : State}

/-! ### Authorization (R9, R10) -/

/-- An authorization leaves PLUGGED, and what it keeps of the record. -/
theorem Session.authorize_spec (x : Session) (who : Authorizer) (customer : Text) (departure : Option Nat) (slot : Nat)
    (reading : Option Nat) (clock : SiteClock) :
    let y := x.authorize who customer departure slot reading clock
    (y.number = x.number ∧ y.port = x.port ∧ y.slot = some slot ∧ y.links = x.links ∧ y.handedOver = x.handedOver) ∧
      (y.state = .active ∨ y.state = .held) := by
  simp only [Session.authorize, Session.afterAuthorization]
  split_ifs <;> simp

@[simp] theorem TariffStore.bind_active (t : TariffStore) (k : Nat) : (t.bind k).active = t.active := rfl

theorem TariffStore.uses_bind (t : TariffStore) {k : Nat} (h : k < 8) (j : Nat) :
    ((t.bind k).slot j).uses = if j = k then (t.slot k).uses + 1 else (t.slot j).uses := by
  rw [TariffStore.bind, TariffStore.slot_setSlot _ _ _ _ h]; split <;> rfl

theorem TariffStore.uses_release (t : TariffStore) {k : Nat} (h : k < 8) (j : Nat) :
    ((t.release k).slot j).uses = if j = k then (t.slot k).uses - 1 else (t.slot j).uses := by
  rw [TariffStore.release, TariffStore.slot_setSlot _ _ _ _ h]; split <;> rfl

theorem Kept.authorizeSession (h : Kept P) (hs : P s.roster) (n : Nat) (who : Authorizer) (customer : Text)
    (departure : Option Nat) (hp : ∀ x, s.sessions.find n = some x → x.state = .plugged) :
    P (s.authorizeSession n who customer departure).roster := by
  unfold State.authorizeSession
  split
  · rename_i slot x hslot hx
    obtain ⟨hmem, rfl⟩ := find_spec hx
    have hlt : slot < 8 := (h.tableWf hs).active slot (by simp [State.roster, hslot])
    obtain ⟨hy, hstate⟩ := x.authorize_spec who customer departure slot (s.metering.meter x.port).last s.links.clock
    rw [State.roster_transition _ (by simpa using hx)]
    have hm := Move.authorized (r := s.roster) x (carryTimers s.runTime s.sessions.dormantDelay x
      (x.authorize who customer departure slot (s.metering.meter x.port).last s.links.clock)) slot hmem hslot (hp x hx)
      hy hstate
    have hu : (fun j => ((s.store.bind slot).slot j).uses) =
        fun j => if j = slot then s.roster.uses slot + 1 else s.roster.uses j :=
      funext fun j => TariffStore.uses_bind _ hlt j
    refine Eq.mp (congrArg P ?_) (h.move hm hs)
    rw [← hu]
    rfl
  · exact hs

theorem Kept.freeVend (h : Kept P) (hs : P s.roster) (n : Nat) : P (s.freeVend n).roster := by
  unfold State.freeVend
  split
  · exact hs
  · rename_i x hx
    split
    · rename_i hc
      refine h.authorizeSession hs _ _ _ _ fun z hz => ?_
      rw [hx] at hz
      exact Option.some.inj hz ▸ hc.1
    · exact hs

/-! ### Creation and the wait list (R4, R6, R7) -/

/-- The table and the counter of a session just opened, before a free-vend port authorizes it. -/
def State.openSession (s : State) (p : Nat) : State :=
  let n := freeNumber s.sessions (Config.tableCapacity + 1) s.sessions.counter
  ((s.setSessions { s.sessions with
    table := s.sessions.table ++ [newSession s n p], counter := nextNumber n }).setPortState p .inSession).raise
      .sessionChange n

theorem State.createSession_eq (s : State) (p : Nat) :
    s.createSession p =
      (s.openSession p).freeVend (freeNumber s.sessions (Config.tableCapacity + 1) s.sessions.counter) := rfl

/-- A session opened on a FREE port, or on the port just taken off the wait list. -/
theorem Kept.createSession (h : Kept P) {r : Roster} (hr : P r) {p : Nat}
    (hs : s.roster = { r with waiting := s.sessions.waiting })
    (hp : r.portState p = some .free ∧ s.sessions.waiting = r.waiting ∨ r.waiting = p :: s.sessions.waiting)
    (hroom : s.sessions.isFull = false) : P (s.createSession p).roster := by
  have ht := h.tableWf hr
  have htable : s.sessions.table = r.table := congrArg Roster.table hs
  have hstate : (s.sessions.record p).state = r.portState p := congrFun (congrArg Roster.portState hs) p
  have hcounter : s.sessions.counter = r.counter := congrArg Roster.counter hs
  have hc : 1 ≤ s.sessions.counter ∧ s.sessions.counter ≤ 65535 := hcounter ▸ ⟨ht.counterPos, ht.counterMax⟩
  obtain ⟨k, -, he, -, hnone⟩ := freeNumber_of_room hc (htable ▸ ht.size)
  rw [← he] at hnone
  generalize hn : freeNumber s.sessions (Config.tableCapacity + 1) s.sessions.counter = n at hnone he
  have hrange : 1 ≤ n ∧ n ≤ 65535 := by
    rw [he, nextNumber_iterate hc.1 hc.2]; omega
  have hm := Move.opened (r := r) p s.sessions.waiting (newSession s n p) (nextNumber n)
    (fun e => s.sessions.port_of_state (hstate.trans_ne e))
    hp (by simpa [SessionController.isFull, htable] using hroom)
    (by rw [Roster.find, ← htable]; exact hnone) hrange (nextNumber_range hrange.1) rfl ⟨rfl, rfl, rfl, rfl⟩
  rw [State.createSession_eq, hn]
  refine h.freeVend (Eq.mp (congrArg P ?_) (h.move hm hr)) n
  rw [State.openSession, State.roster_raise, State.roster_setPortState, hn, ← htable]
  have : (s.setSessions { s.sessions with
      table := s.sessions.table ++ [newSession s n p], counter := nextNumber n }).roster =
      { s.roster with table := s.sessions.table ++ [newSession s n p], counter := nextNumber n } := rfl
  rw [this, hs]
  rfl

theorem Kept.serveWaiting (h : Kept P) (hs : P s.roster) : P s.serveWaiting.roster := by
  unfold State.serveWaiting
  split
  · exact hs
  · rename_i p rest hw
    split
    · exact hs
    · rename_i hf
      exact h.createSession hs rfl (.inr hw) (Bool.eq_false_iff.2 hf)

/-! ### The end of a session (R11, R19 to R21) -/

theorem Kept.abandon (h : Kept P) (hs : P s.roster) {x : Session} {st : PortState} (hx : x ∈ s.sessions.table)
    (hp : x.state = .plugged) (hst : st = .free ∨ st = .blocked) : P (s.abandon x st).roster := by
  unfold State.abandon
  refine h.serveWaiting ?_
  rw [State.roster_raise, State.roster_setPortState]
  exact h.move (.abandoned x st hx hp hst) hs

theorem Kept.completeClosing (h : Kept P) (hs : P s.roster) {x : Session} (connected estimated : Bool)
    (hx : x ∈ s.sessions.table) (hc : x.state = .closing) (ho : x.handedOver = false ∨ x.closingTimer ≠ none) :
    P (s.completeClosing x connected estimated).roster := by
  have hm := Move.closed (r := s.roster) x (x.close s.links.clock estimated) (if connected then .blocked else .free) hx hc
    ho (by cases connected <;> simp) ⟨rfl, rfl, rfl, rfl, hc, rfl, rfl⟩
  unfold State.completeClosing
  rw [State.roster_sendHandOver, State.roster_setPortState,
    SessionController.update_const _ _ _ (h.find_mem hs hx) (h.tableWf hs).numbers]
  exact h.move hm hs

theorem Kept.tryComplete (h : Kept P) (hs : P s.roster) (p : Nat) : P (s.tryComplete p).roster := by
  unfold State.tryComplete
  split
  · exact hs
  · rename_i x hx
    obtain ⟨hmem, -, hholds⟩ := holder_spec hx
    split
    · split
      · rename_i hc
        exact h.completeClosing hs _ _ hmem hc.1 (.inl (by simpa [Session.holdsPort, hc.1] using hholds))
      · exact hs
    · exact hs

/-! ### A charger report (R3, R5, R19) -/

theorem Session.goes_takeFinal {x : Session} (r : FinalReport)
    (hx : x.state = .active ∨ x.state = .dormant ∨ x.state = .held ∨ x.state = .closing) : x.Goes (x.takeFinal r) := by
  refine ⟨rfl, rfl, rfl, ?_, id, rfl, .inr (.inl rfl)⟩
  obtain e | e | e | e := hx <;> simp [Session.takeFinal, e, SessionState.goes]

theorem Session.goes_stop {x : Session} (expiry : Nat)
    (hx : x.state = .active ∨ x.state = .dormant ∨ x.state = .held) : x.Goes (x.stop expiry) := by
  refine ⟨rfl, rfl, rfl, ?_, id, rfl, .inr (.inr ?_)⟩ <;>
  obtain e | e | e := hx <;> simp [Session.stop, e, SessionState.goes]

theorem Kept.takeFinal (h : Kept P) (hs : P s.roster) {x : Session} (r : FinalReport) (p : Nat)
    (hx : x ∈ s.sessions.table)
    (hst : x.state = .active ∨ x.state = .dormant ∨ x.state = .held ∨ x.state = .closing) :
    P ((s.transition x.number fun y => y.takeFinal r).tryComplete p).roster := by
  refine h.tryComplete (h.transition hs _ _ fun z hz => ?_) p
  rw [h.find_mem hs hx, Option.some.injEq] at hz
  exact hz ▸ Session.goes_takeFinal r hst

theorem Kept.applyToSession (h : Kept P) (hs : P s.roster) {x : Session} (r : ChargerReport)
    (hx : x ∈ s.sessions.table) : P (s.applyToSession x r).roster := by
  unfold State.applyToSession
  cases hst : x.state with
  | plugged =>
    simp only
    split
    · exact hs
    · exact h.abandon hs hx hst (.inl rfl)
  | active | dormant | held =>
    simp only
    split
    · exact hs
    · exact h.takeFinal hs _ _ hx (by simp [hst])
  | closing =>
    simp only
    split
    · exact h.takeFinal hs _ _ hx (by simp [hst])
    · exact hs
  | pricing | waitQueue => exact hs

theorem Kept.applyConnection (h : Kept P) (hs : P s.roster) (r : ChargerReport) : P (s.applyConnection r).roster := by
  unfold State.applyConnection
  have hin : ∀ {st}, (s.sessions.record r.port).state = some st → r.port ∈ portNumbers := fun e =>
    s.sessions.port_of_state (by simp [e])
  split
  · rename_i hst hc
    split
    · rw [State.roster_raise, State.roster_setPortState]
      exact h.move (.parked r.port (hin hst) hst) hs
    · rename_i hf
      exact h.createSession hs rfl (.inl ⟨hst, rfl⟩) (Bool.eq_false_iff.2 hf)
  · rename_i hst hc
    rw [State.roster_setPortState]
    exact h.move (r := s.roster) (.unparked r.port (s.sessions.waiting.filter fun q => q != r.port) (hin hst) (.inl ⟨hst, rfl⟩)) hs
  · rename_i hst hc
    rw [State.roster_setPortState]
    exact h.move (.unparked r.port _ (hin hst) (.inr ⟨hst, rfl⟩)) hs
  · split
    · exact hs
    · rename_i hx
      exact h.applyToSession hs r (holder_spec hx).1
  · exact hs

theorem Kept.takeChargerReport (h : Kept P) (hs : P s.roster) (r : ChargerReport) :
    P (s.takeChargerReport r).roster := by
  unfold State.takeChargerReport
  split
  · exact hs
  · rw [State.roster_lockoutAlone]
    refine h.applyConnection (h.applyDemand (h.applyFault ?_ _ _) _) r
    rw [State.roster_setRecord _ _ _ (by rfl)]
    exact hs

/-! ### Pricing and receipts (R134, R135, R144, R145) -/

theorem Kept.leaveTable (h : Kept P) (n : Nat) (hs : P { s.roster with table := s.roster.without n }) :
    P (s.leaveTable n).roster := h.serveWaiting (s := (s.removeSession n).raise _ _) hs

/-- The receipt of a session just priced: `r` is the roster before the pricing, `s` the state after its tariff slot is
released and its number is off the pricing list. -/
theorem Kept.placeReceipt (h : Kept P) {r : Roster} (hr : P r) {x : Session} {k : Nat} {rest : List Nat} {q : Receipt}
    (hs : s.roster = { r with pricing := rest, uses := fun j => if j = k then r.uses k - 1 else r.uses j })
    (hx : x ∈ r.table) (hk : x.slot = some k)
    (hl : (x.state = .closing ∧ x.handedOver = true) ∧ rest = r.pricing ∨ r.pricing = x.number :: rest)
    (hq : q.session = x.number) : P (s.placeReceipt x.number q).roster := by
  unfold State.placeReceipt
  split
  · refine h.leaveTable _ ?_
    rw [State.roster_takeReceipt, hs]
    exact h.move (.sold x k rest hx hk hl) hr
  · have hfind : s.sessions.find x.number = some x := by
      have := (h.tableWf hr).find_mem hx
      rwa [Roster.find, ← show s.sessions.table = r.table from congrArg Roster.table hs] at this
    have hrec : s.builder.waiting = r.receipts := congrArg Roster.receipts hs
    obtain rfl : s.builder.pricing = rest := congrArg Roster.pricing hs
    rw [State.roster_transition _ (by simpa using hfind), State.roster_setBuilder, hs, hrec]
    exact h.move (.deferred x (carryTimers s.runTime s.sessions.dormantDelay x { x with state := .waitQueue }) q k _ hx hk
      hl hq ⟨rfl, rfl, rfl, rfl, rfl, rfl, rfl⟩) hr

/-- A pricing event: `r` is the roster before it, `s` the state with the session's number off the pricing list. -/
theorem Kept.priceSession (h : Kept P) {r : Roster} (hr : P r) {x : Session}
    (hs : s.roster = { r with pricing := s.builder.pricing }) (hx : x ∈ s.sessions.table)
    (hl : (x.state = .closing ∧ x.handedOver = true) ∧ s.builder.pricing = r.pricing ∨
      r.pricing = x.number :: s.builder.pricing) : P (s.priceSession x).roster := by
  have ht := h.tableWf hr
  have htable : s.sessions.table = r.table := congrArg Roster.table hs
  have hxr : x ∈ r.table := htable ▸ hx
  obtain ⟨hstate, -⟩ := ht.priced hxr hl
  obtain ⟨slot, hslot, hlt⟩ : ∃ k, x.slot = some k ∧ k < 8 := by
    obtain ⟨-, e⟩ | ⟨k, hk, hlt, -⟩ := Session.slotFits_iff.1 (ht.each x hxr).2.2.1
    · obtain ⟨k, -⟩ | k := hstate <;> simp [k] at e
    · exact ⟨k, hk, hlt⟩
  have hu : (fun j => ((s.store.release slot).slot j).uses) = fun j => if j = slot then r.uses slot - 1 else r.uses j := by
    have e : ∀ i, (s.store.slot i).uses = r.uses i := fun i => congrFun (congrArg Roster.uses hs) i
    funext j
    rw [TariffStore.uses_release _ hlt, e, e]
  simp only [State.priceSession, hslot, Option.getD_some]
  refine h.placeReceipt hr ?_ hxr hslot hl rfl
  calc _ = { s.roster with uses := fun j => ((s.store.release slot).slot j).uses } := rfl
    _ = _ := by rw [hu, hs]

theorem Kept.takeHandOver (h : Kept P) (hs : P s.roster) (n : Nat) : P (s.takeHandOver n).roster := by
  unfold State.takeHandOver
  split
  · exact hs
  · rename_i x hx
    obtain ⟨hmem, rfl⟩ := find_spec hx
    split
    · rename_i hc
      split
      · exact h.priceSession hs rfl hmem (.inl ⟨hc, rfl⟩)
      · rw [State.roster_transition _ (by simpa using hx)]
        exact h.move (.listed x (carryTimers s.runTime s.sessions.dormantDelay x { x with state := .pricing }) hmem hc
          ⟨rfl, rfl, rfl, rfl, rfl, rfl⟩) hs
    · exact hs

theorem Kept.priceHead (h : Kept P) (hs : P s.roster) {n : Nat} {rest : List Nat} (hp : s.builder.pricing = n :: rest) :
    P (s.priceHead n).roster := by
  have ht := h.tableWf hs
  obtain ⟨x, hx, hstate⟩ := Option.map_eq_some_iff.1 (ht.pricing n (by simp [State.roster, hp]))
  obtain ⟨hmem, rfl⟩ := Roster.mem_of_find hx
  simp only [State.priceHead, State.setBuilder_sessions, show s.sessions.find x.number = some x from hx, hstate, if_true]
  exact h.priceSession hs rfl hmem (.inr (by simp [State.roster, hp]))

theorem Kept.drain (h : Kept P) (fuel : Nat) (hs : P s.roster) : P (State.drain fuel s).roster := by
  induction fuel generalizing s with
  | zero => exact hs
  | succ fuel ih =>
    unfold State.drain
    split
    · exact hs
    · rename_i q rest hw
      split
      · exact hs
      · refine ih (h.leaveTable _ ?_)
        rw [State.roster_takeReceipt, State.roster_setBuilder]
        exact h.move (r := s.roster) (.delivered q rest hw) hs

/-! ### Results, reclassifications, changes of the site (R10, R13, R15, R63) -/

theorem Kept.takeEntry (h : Kept P) (hs : P s.roster) (e : CandidateEntry) : P (s.takeEntry e).roster := by
  unfold State.takeEntry
  split
  · exact hs
  · split
    · rw [State.roster_noticeUrgent]
      exact h.update hs _ _ fun x _ => .of_eq rfl rfl rfl rfl rfl rfl (by simp [Session.takeEntry, SessionState.goes])
    · exact hs

theorem roster_foldl {α : Type} (f : State → α → State) (hf : ∀ s a, P s.roster → P (f s a).roster) (xs : List α)
    (hs : P s.roster) : P (xs.foldl f s).roster := by
  induction xs generalizing s with
  | nil => exact hs
  | cons a xs ih => exact ih (hf s a hs)

theorem Kept.takeResult (h : Kept P) (hs : P s.roster) (r : AllocationResult) : P (s.takeResult r).roster := by
  have hf : P (r.entries.foldl State.takeEntry s).roster := roster_foldl _ (fun s e hs => h.takeEntry hs e) _ hs
  refine h.move (.edit (fun x => x.unnamed r.entries) fun x _ => ?_) hf
  unfold Session.unnamed
  split
  · exact .of_eq rfl rfl rfl rfl rfl rfl (by simp [SessionState.goes])
  · exact .refl x

theorem Kept.reclassify (h : Kept P) (hs : P s.roster) (high urgent n : Nat) :
    P (s.reclassify high urgent n).roster := by
  unfold State.reclassify
  split
  · exact hs
  · simp only [State.roster_noticeUrgent]
    exact h.update hs _ _ fun x _ => .of_eq rfl rfl rfl rfl rfl rfl (by simp [SessionState.goes])

theorem Kept.followSite (h : Kept P) (hs : P s.roster) (c : SiteChange) : P (s.followSite c).roster := by
  unfold State.followSite
  split_ifs
  · exact roster_foldl _ (fun s n hs => h.transition hs n _ fun x _ => x.goes_addHold _) _ hs
  · exact roster_foldl _ (fun s n hs => h.transition hs n _ fun x _ => x.goes_removeHold _) _ hs
  · exact hs


end

end Sys2Proof.Machine

namespace Sys2Proof.Machine

section
variable {P : Roster → Prop} {s : State}

/-! ### Readings (R107) -/

theorem Session.goes_applyDelta (x : Session) (k : Checked) (m : Mix) : x.Goes (x.applyDelta k m) := by
  have hd : x.Goes (x.discrepant k.kind) := by
    unfold Session.discrepant
    split <;> exact .of_eq rfl rfl rfl rfl rfl rfl (by simp [SessionState.goes])
  unfold Session.applyDelta
  split
  · exact ⟨hd.number, hd.port, hd.slot, hd.state, hd.links, hd.handedOver, hd.closingTimer⟩
  · exact .of_eq rfl rfl rfl rfl rfl rfl (by simp [Session.returnHighest, SessionState.goes])

theorem Kept.applyReading (h : Kept P) (hs : P s.roster) (r : MeterReading) (reading last since : Nat) :
    P (s.applyReading r reading last since).roster := by
  simp only [State.applyReading]
  have hmid : ∀ (o : Option Session) (k : Checked) (m : MeteringUnit) (mix : Mix),
      P (match o with
        | none => s.setMetering m
        | some x => (s.setMetering m).setSessions ((s.setMetering m).sessions.update x.number fun y =>
            y.applyDelta k mix)).roster := by
    intro o k m mix
    cases o with
    | none => exact hs
    | some x => exact h.update (s := s.setMetering m) hs _ _ fun y _ => y.goes_applyDelta _ _
  split
  · exact hmid _ _ _ _
  · rw [State.roster_logDiscrepancy]
    exact hmid _ _ _ _

theorem Kept.applyFirstReading (h : Kept P) (hs : P s.roster) (r : MeterReading) (reading : Nat) :
    P (s.applyFirstReading r reading).roster := by
  simp only [State.applyFirstReading]
  split
  · exact hs
  · refine h.update (s := s.setMetering _) hs _ _ fun x _ => ?_
    exact .of_eq rfl rfl rfl rfl rfl rfl (by simp [Session.firstReading, Session.returnHighest, SessionState.goes])

theorem Kept.takeReading (h : Kept P) (hs : P s.roster) (r : MeterReading) : P (s.takeReading r).roster := by
  simp only [State.takeReading, State.roster_sendReadingApplied]
  split
  · exact hs
  · split
    · exact h.applyFirstReading hs _ _
    · exact h.applyReading hs _ _ _ _

/-! ### Requests -/

/-- What a handler keeps, the part being in a state in which its request is allowed. -/
def Handles {α : Type} (P : Roster → Prop) (al : Allowed) (handle : State → α → Handled) : Prop :=
  ∀ s f, al.refusal s.links.part = none → P s.roster → P (handle s f).state.roster

/-- Every next state of an outcome meets a claim about the roster. -/
def Leads (P : Roster → Prop) (o : Host.Outcome State Fault Refusal) : Prop := ∀ t, o = .next t → P t.roster

theorem leads_done (hs : P s.roster) : Leads P (done s) := fun t ht => by
  rw [← done_eq_next.1 ht]; exact hs

theorem leads_nothing (hs : P s.roster) : Leads P (nothing s) := fun t ht => by
  rwa [← nothing_eq_next.1 ht]

theorem leads_serve {α : Type} (l : Link) (kind tag : Byte) (till : Bool) (al : Allowed) (g : State → α → Bool)
    {handle : State → α → Handled} (p : Payload α) (hh : Handles P al handle) (hs : P s.roster) :
    Leads P (serve l kind tag till al g handle p s) := by
  have hfe : P (s.frameEnd l).roster := by simpa using hs
  simp only [serve]
  split
  · exact leads_done (by simpa using hs)
  · refine leads_done ?_
    rw [State.roster_place]
    unfold answer
    split
    · exact hfe
    · split
      · exact hfe
      · split
        · exact hfe
        · rename_i hal
          split
          · exact hfe
          · exact hh _ _ hal hfe

/-- A request that leaves the roster as it is. -/
theorem handles_of_roster {α : Type} {al : Allowed} {handle : State → α → Handled}
    (h : ∀ s f, (handle s f).state.roster = s.roster) : Handles P al handle := fun s f _ hs => (h s f).symm ▸ hs

theorem Kept.handleSetPort (h : Kept P) : Handles P .setupOnly handleSetPort := by
  intro s f hal hs
  have hpart : s.links.part = .setup := by
    cases e : s.links.part with
    | setup => rfl
    | live => simp [e, Allowed.refusal] at hal
  have hcfg : ∀ p e, P (s.configurePort p e).roster := by
    intro p e
    cases e with
    | some e => exact hs
    | none =>
      have hm := h.move (.unconfigure p hpart) hs
      have : s.roster.withPort p none = fun q => ((s.sessions.setRecord p PortRecord.reset).record q).state :=
        (s.portState_setRecord p PortRecord.reset).symm
      rw [this] at hm
      exact hm
  unfold Sys2Proof.Machine.handleSetPort
  split
  · exact hs
  · split
    · split
      · exact hs
      · split
        · exact hcfg _ _
        · exact hcfg _ _
    · exact hs

theorem Kept.handleAuthorize (h : Kept P) (who : Authorizer) : Handles P .liveOnly (handleAuthorize who) := by
  intro s f _ hs
  unfold Sys2Proof.Machine.handleAuthorize
  split
  · split
    · exact hs
    · rename_i x hx
      split
      · exact hs
      · rename_i hp
        split
        · exact hs
        · refine h.authorizeSession hs _ _ _ _ fun z hz => ?_
          rw [h.find_mem hs (holder_spec hx).1, Option.some.injEq] at hz
          simpa [← hz] using hp
  · exact hs

theorem Kept.handleHold (h : Kept P) (add : Bool) : Handles P .liveOnly (handleHold add) := by
  intro s p _ hs
  unfold Sys2Proof.Machine.handleHold
  split
  · split
    · exact hs
    · split
      · exact h.holdPort hs _ _ _
      · exact hs
  · exact hs

theorem Kept.handleStopSession (h : Kept P) : Handles P .liveOnly handleStopSession := by
  intro s n _ hs
  unfold Sys2Proof.Machine.handleStopSession
  split
  · exact hs
  · rename_i x hx
    split
    · rename_i hc
      refine h.transition hs _ _ fun z hz => Session.goes_stop _ ?_
      rw [hx, Option.some.injEq] at hz
      rw [← hz]
      cases e : x.state <;> simp_all [SessionState.canStop]
    · exact hs

theorem Kept.handleSetDeparture (h : Kept P) : Handles P .liveOnly handleSetDeparture := by
  intro s f _ hs
  unfold Sys2Proof.Machine.handleSetDeparture
  split
  · exact hs
  · split
    · exact h.update hs _ _ fun x _ => .of_eq rfl rfl rfl rfl rfl rfl (by simp [SessionState.goes])
    · exact hs

/-- R22: a fifth link, or a second with the same reference, is refused. -/
theorem Kept.handleLinkPurchase (h : Kept P) : Handles P .liveOnly handleLinkPurchase := by
  intro s f _ hs
  simp only [Sys2Proof.Machine.handleLinkPurchase]
  split
  · split
    · exact hs
    · rename_i x hx
      split_ifs with h1 h2 h3
      · exact hs
      · exact hs
      · exact hs
      · refine h.update hs _ _ fun z hz => ⟨rfl, rfl, rfl, by simp [SessionState.goes], fun ⟨hlen, hnd⟩ => ?_, rfl, .inl rfl⟩
        rw [hx, Option.some.injEq] at hz
        subst hz
        refine ⟨by simp at h3 ⊢; omega, ?_⟩
        rw [List.map_append, List.map_singleton, nodup_append_singleton]
        refine ⟨hnd, fun hm => h2 ?_⟩
        obtain ⟨k, hk, e⟩ := List.mem_map.1 hm
        exact List.any_eq_true.2 ⟨k, hk, by simpa using e⟩
  · exact hs

theorem Kept.handleActivateTariff (h : Kept P) : Handles P .always handleActivateTariff := by
  intro s k _ hs
  unfold Sys2Proof.Machine.handleActivateTariff
  split_ifs with hk
  · exact h.move (.activate k (by omega)) hs
  · exact hs
  · exact hs

theorem foldl_freePorts (ps : List Nat) (c : SessionController) :
    let d := ps.foldl (fun c p => c.setRecord p { c.record p with state := some .free }) c
    (d.table = c.table ∧ d.counter = c.counter ∧ d.waiting = c.waiting) ∧
      ∀ q, (d.record q).state = (c.record q).state ∨ (d.record q).state = some .free := by
  induction ps generalizing c with
  | nil => exact ⟨⟨rfl, rfl, rfl⟩, fun _ => .inl rfl⟩
  | cons p ps ih =>
    obtain ⟨⟨h1, h2, h3⟩, hq⟩ := ih (c.setRecord p { c.record p with state := some .free })
    refine ⟨⟨h1, h2, h3⟩, fun q => ?_⟩
    obtain e | e := hq q
    · rw [SessionController.record_setRecord_if] at e
      split at e
      · exact .inr e
      · exact .inl e
    · exact .inr e

theorem SessionController.freePorts_spec (c : SessionController) :
    (c.freePorts.table = c.table ∧ c.freePorts.counter = c.counter ∧ c.freePorts.waiting = c.waiting) ∧
      ∀ q, (c.freePorts.record q).state = (c.record q).state ∨ (c.freePorts.record q).state = some .free :=
  foldl_freePorts c.presentPorts c

theorem Kept.handleGoLive (h : Kept P) : Handles P .setupOnly handleGoLive := by
  intro s _ hal hs
  have hpart : s.links.part = .setup := by
    cases e : s.links.part with
    | setup => rfl
    | live => simp [e, Allowed.refusal] at hal
  unfold Sys2Proof.Machine.handleGoLive
  split
  · exact hs
  · obtain ⟨⟨h1, h2, h3⟩, hq⟩ := s.sessions.freePorts_spec
    refine Eq.mp (congrArg P ?_) (h.move (.goLive (fun p => (s.sessions.freePorts.record p).state) hpart hq) hs)
    simp only [ok, State.goLive, State.roster_setAllocator, State.roster_changeSite, State.roster_setField,
      State.roster_setSessions, State.roster_setLinks, State.setLinks_sessions, h1, h2, h3]
    rfl

end

end Sys2Proof.Machine

namespace Sys2Proof.Machine

/-! ### Requests that leave the roster as it is -/

section
variable (s : State)

@[simp] theorem roster_handleSetSite (f : SiteFields) : (handleSetSite s f).state.roster = s.roster := by
  simp only [handleSetSite]; split_ifs <;> simp [ok, refuse, State.roster_setBuilder] <;> rfl

@[simp] theorem roster_handleSetFeeder (f : FeederFields) : (handleSetFeeder s f).state.roster = s.roster := by
  unfold handleSetFeeder; split <;> rfl

@[simp] theorem roster_handleSetUnit (f : UnitFields) : (handleSetUnit s f).state.roster = s.roster := by
  unfold handleSetUnit
  split
  · rfl
  · split_ifs <;> rfl

@[simp] theorem roster_handleSetBatteryPolicy (f : PolicyFields) :
    (handleSetBatteryPolicy s f).state.roster = s.roster := by
  simp only [handleSetBatteryPolicy]; split_ifs <;> simp [ok, refuse]

@[simp] theorem roster_handleSetTimers (f : TimerFields) : (handleSetTimers s f).state.roster = s.roster := by
  unfold handleSetTimers; split <;> rfl

@[simp] theorem roster_handleSetWatermarks (f : WatermarkFields) : (handleSetWatermarks s f).state.roster = s.roster := by
  simp only [handleSetWatermarks]; split_ifs <;> rfl

@[simp] theorem roster_handleSetNoticeRoute (f : RouteFields) : (handleSetNoticeRoute s f).state.roster = s.roster := by
  unfold handleSetNoticeRoute
  split
  · rfl
  · split <;> rfl

@[simp] theorem roster_handleSetTillAccess (f : TillFields) : (handleSetTillAccess s f).state.roster = s.roster := by
  unfold handleSetTillAccess; split <;> rfl

@[simp] theorem roster_handleSetQueueLevels (f : LevelFields) : (handleSetQueueLevels s f).state.roster = s.roster := by
  unfold handleSetQueueLevels; split <;> rfl

@[simp] theorem roster_handleSetTime (t : Nat) : (handleSetTime s t).state.roster = s.roster := by
  unfold handleSetTime; split <;> rfl

theorem roster_startOperation (k : Nat) (o : StoreKind) (im : List Byte) :
    (startOperation s k o im).state.roster = s.roster := by
  unfold startOperation; split <;> simp [refuse]

@[simp] theorem roster_handleProgramTariff (f : ProgramFields) : (handleProgramTariff s f).state.roster = s.roster := by
  unfold handleProgramTariff; split
  · exact roster_startOperation ..
  · rfl

@[simp] theorem roster_handleEraseTariff (k : Nat) : (handleEraseTariff s k).state.roster = s.roster := by
  unfold handleEraseTariff; split
  · exact roster_startOperation ..
  · rfl

@[simp] theorem roster_handleReadReceipt (u : Unit) : (handleReadReceipt s u).state.roster = s.roster := by
  unfold handleReadReceipt; split <;> simp

@[simp] theorem roster_handleSetMark (u : Unit) : (handleSetMark s u).state.roster = s.roster := by simp [handleSetMark]

@[simp] theorem roster_handleRewind (u : Unit) : (handleRewind s u).state.roster = s.roster := by
  unfold handleRewind; split <;> rfl

@[simp] theorem roster_handleReleaseMark (u : Unit) : (handleReleaseMark s u).state.roster = s.roster := by
  unfold handleReleaseMark; split <;> simp [refuse]

@[simp] theorem roster_handleFlushQueue (u : Unit) : (handleFlushQueue s u).state.roster = s.roster := by
  simp [handleFlushQueue]

/-! The status requests leave the whole state as it is (R24, R47, R70, R105, R119, R128, R148, R158). -/

theorem handleReadTariff_state (k : Nat) : (handleReadTariff s k).state = s := by
  unfold handleReadTariff
  split
  · split <;> rfl
  · rfl

theorem handleReceiptCopy_state (f : CopyFields) : (handleReceiptCopy s f).state = s := by
  unfold handleReceiptCopy
  split
  · rfl
  · split <;> rfl

theorem handleQueueStatus_state (u : Unit) : (handleQueueStatus s u).state = s := rfl

theorem handleSessionStatus_state (n : Nat) : (handleSessionStatus s n).state = s := by
  unfold handleSessionStatus; split <;> rfl

theorem handlePortStatus_state (p : Nat) : (handlePortStatus s p).state = s := by
  unfold handlePortStatus
  split
  · split <;> rfl
  · rfl

theorem handleReadDiscrepancy_state (u : Unit) : (handleReadDiscrepancy s u).state = s := rfl

theorem handleSiteStatus_state (page : Nat) : (handleSiteStatus s page).state = s := by
  unfold handleSiteStatus; split <;> rfl

theorem handleAllocStatus_state (page : Nat) : (handleAllocStatus s page).state = s := by
  unfold handleAllocStatus; split <;> rfl

theorem handleUnitStatus_state (u : Nat) : (handleUnitStatus s u).state = s := by
  unfold handleUnitStatus; split_ifs <;> rfl

end

/-! ### The two resets -/

@[simp] theorem State.roster_stopAny (s : State) : s.stopAny.roster = s.roster := by
  unfold State.stopAny; split <;> simp

theorem TariffStore.uses_of_map {t u : TariffStore} (k : Nat)
    (hk : t.slots[k]?.map TariffSlot.uses = u.slots[k]?.map fun _ => 0) : (t.slot k).uses = 0 := by
  unfold TariffStore.slot
  cases e : t.slots[k]? with
  | none => rfl
  | some x =>
    rw [e] at hk
    cases e' : u.slots[k]? <;> simp_all

theorem TariffStore.uses_unused (t : TariffStore) (k : Nat) : (t.unused.slot k).uses = 0 :=
  uses_of_map (u := t) k (by simp [TariffStore.unused, Function.comp_def])

theorem TariffStore.uses_examined (t : TariffStore) (k : Nat) : (t.examined.slot k).uses = 0 :=
  uses_of_map (u := t) k (by simp [TariffStore.examined, Function.comp_def])

/-- Nothing is left in the roster after a reset (R120, R169). -/
theorem roster_of_reset {s : State} (hs : s.sessions = SessionController.reset) (hb : s.builder = ReceiptBuilder.reset)
    (ha : s.store.active = none) (hu : ∀ k, (s.store.slot k).uses = 0) (hp : s.links.part = .setup) :
    s.roster = State.reset.roster := by
  have hr : ∀ k, (State.reset.store.slot k).uses = 0 := fun k => by
    simp only [State.reset, TariffStore.reset, TariffStore.slot, Vector.getElem?_replicate]
    split <;> rfl
  simp only [State.roster, hs, hb, ha, hp, funext hu, funext hr]
  rfl

section
variable {P : Roster → Prop} {s : State}

theorem Kept.handleRestart (h : Kept P) : Handles P .always handleRestart := by
  intro s mode _ hs
  have hr : P s.restart.roster := by
    rw [roster_of_reset rfl rfl rfl (s.stopAny.store.uses_unused) rfl]
    exact h.move .reset hs
  unfold Sys2Proof.Machine.handleRestart
  split_ifs
  · exact hr
  · exact hs
  · exact hr
  · exact hs

theorem Kept.execPowerOnReset (h : Kept P) (hs : P s.roster) : Leads P (execPowerOnReset s) := by
  refine leads_done ?_
  rw [roster_of_reset rfl rfl rfl (s.stopAny.store.uses_examined) rfl]
  exact h.move .reset hs

/-! ### Events that leave the roster as it is -/

theorem leads_interByteTimeout (l : Link) (hs : P s.roster) : Leads P (execInterByteTimeout l s) := by
  unfold execInterByteTimeout; split
  · exact leads_nothing hs
  · exact leads_done (by simpa using hs)

theorem leads_frameDiscard (l : Link) (hs : P s.roster) : Leads P (execFrameDiscard l s) := by
  unfold execFrameDiscard; split
  · exact leads_nothing hs
  · exact leads_done (by simpa using hs)

theorem leads_busyRefusal (l : Link) (k t : Byte) (hs : P s.roster) : Leads P (execBusyRefusal l k t s) := by
  unfold execBusyRefusal; split
  · exact leads_nothing hs
  · exact leads_done (by simpa using hs)

theorem State.roster_unknownFrame (s : State) (l : Link) (k t : Byte) : (s.unknownFrame l k t).roster = s.roster := by
  unfold State.unknownFrame; simp only; split <;> simp

theorem leads_unknownKind (l : Link) (k t : Byte) (hs : P s.roster) : Leads P (execUnknownKind l k t s) := by
  unfold execUnknownKind; split
  · exact leads_nothing hs
  · exact leads_done ((s.roster_unknownFrame l k t).symm ▸ hs)

theorem leads_transmitEnd (l : Link) (hs : P s.roster) : Leads P (execTransmitEnd l s) := by
  unfold execTransmitEnd; split
  · exact leads_nothing hs
  · exact leads_done (by simpa using hs)

theorem leads_siteClockTick (hs : P s.roster) : Leads P (execSiteClockTick s) := leads_done hs

theorem leads_pollEnd (hs : P s.roster) : Leads P (execPollEnd s) := by
  unfold execPollEnd; split
  · exact leads_nothing hs
  · split
    · exact leads_nothing hs
    · exact leads_done hs

theorem leads_fieldReply (f : FieldFrame) (hs : P s.roster) : Leads P (execFieldReply f s) := by
  unfold execFieldReply; split
  · exact leads_nothing hs
  · split
    · exact leads_nothing hs
    · refine leads_done ?_
      split <;> simpa using hs

theorem leads_replyTimeout (hs : P s.roster) : Leads P (execReplyTimeout s) := by
  unfold execReplyTimeout; split
  · exact leads_nothing hs
  · split
    · exact leads_nothing hs
    · exact leads_done (by simpa using hs)

theorem leads_chargerTarget (p : Nat) (hs : P s.roster) : Leads P (execChargerTarget p s) := by
  unfold execChargerTarget; split
  · exact leads_nothing hs
  · exact leads_done hs

theorem leads_reportArrival (u : Nat) (hs : P s.roster) : Leads P (execReportArrival u s) := by
  unfold execReportArrival; split
  · exact leads_nothing hs
  · exact leads_done (by simpa using hs)

theorem leads_staleTimerExpiry (u : Nat) (hs : P s.roster) : Leads P (execStaleTimerExpiry u s) := by
  unfold execStaleTimerExpiry; split
  · exact leads_nothing hs
  · exact leads_done (by simpa using hs)

theorem leads_unitHealthChange (u : Nat) (hs : P s.roster) : Leads P (execUnitHealthChange u s) := by
  unfold execUnitHealthChange; split
  · exact leads_nothing hs
  · exact leads_done (by simpa using hs)

theorem leads_fallbackHoldExpiry (p : Nat) (hs : P s.roster) : Leads P (execFallbackHoldExpiry p s) := by
  unfold execFallbackHoldExpiry; split
  · exact leads_nothing hs
  · split
    · exact leads_nothing hs
    · exact leads_done (by simpa using hs)

theorem leads_restoreTimerExpiry (hs : P s.roster) : Leads P (execRestoreTimerExpiry s) := by
  unfold execRestoreTimerExpiry; split
  · exact leads_done (by simpa using hs)
  · exact leads_nothing hs

theorem leads_dischargeAllowanceChange (hs : P s.roster) : Leads P (execDischargeAllowanceChange s) := by
  unfold execDischargeAllowanceChange; split
  · exact leads_nothing hs
  · exact leads_done (by simpa using hs)

theorem leads_earlyRequest (hs : P s.roster) : Leads P (execEarlyRequest s) := by
  unfold execEarlyRequest; split
  · exact leads_nothing hs
  · refine leads_done ?_
    split <;> simpa using hs

theorem leads_roundPeriodExpiry (hs : P s.roster) : Leads P (execRoundPeriodExpiry s) := by
  unfold execRoundPeriodExpiry; split
  · exact leads_nothing hs
  · exact leads_done (by simpa using hs)

theorem leads_spacingTimerExpiry (hs : P s.roster) : Leads P (execSpacingTimerExpiry s) := by
  unfold execSpacingTimerExpiry; split
  · exact leads_nothing hs
  · exact leads_done (by simpa using hs)

theorem leads_resultApplied (hs : P s.roster) : Leads P (execResultApplied s) := by
  unfold execResultApplied; split
  · exact leads_nothing hs
  · exact leads_done (by simpa using hs)

theorem leads_allocationResultField (hs : P s.roster) : Leads P (execAllocationResultField s) := by
  unfold execAllocationResultField; split
  · exact leads_nothing hs
  · exact leads_done hs

theorem leads_allocationResultDispatch (hs : P s.roster) : Leads P (execAllocationResultDispatch s) := by
  unfold execAllocationResultDispatch; split
  · exact leads_nothing hs
  · exact leads_done (by simpa using hs)

theorem leads_batteryReport (hs : P s.roster) : Leads P (execBatteryReport s) := by
  unfold execBatteryReport; split
  · exact leads_nothing hs
  · exact leads_done (by simpa using hs)

theorem leads_batteryFreshnessChange (hs : P s.roster) : Leads P (execBatteryFreshnessChange s) := by
  unfold execBatteryFreshnessChange; split
  · exact leads_nothing hs
  · exact leads_done (by simpa using hs)

theorem leads_siteStateChangeDispatch (hs : P s.roster) : Leads P (execSiteStateChangeDispatch s) := by
  unfold execSiteStateChangeDispatch; split
  · exact leads_nothing hs
  · exact leads_done (by simpa using hs)

theorem leads_dispatchHandover (hs : P s.roster) : Leads P (execDispatchHandover s) := by
  unfold execDispatchHandover; split
  · exact leads_nothing hs
  · split
    · exact leads_done hs
    · exact leads_nothing hs

/-- The bytes of the slot change, and the phase of the operation. -/
theorem State.roster_setSlotBytes (s : State) (k : Nat) (bytes : List Byte) (o : Option StoreOperation) :
    (s.setStore { s.store.setSlot k { s.store.slot k with bytes := bytes } with operation := o }).roster = s.roster :=
  s.roster_setStore_same _ rfl fun _ => TariffStore.uses_setSlot _ _ _ _ rfl

theorem leads_erasingEnd (hs : P s.roster) : Leads P (execErasingEnd s) := by
  unfold execErasingEnd; split
  · exact leads_nothing hs
  · split
    · exact leads_done ((s.roster_setSlotBytes _ _ _).symm ▸ hs)
    · exact leads_nothing hs

theorem leads_writingEnd (hs : P s.roster) : Leads P (execWritingEnd s) := by
  unfold execWritingEnd; split
  · exact leads_nothing hs
  · split
    · exact leads_done ((s.roster_setSlotBytes _ _ _).symm ▸ hs)
    · exact leads_nothing hs

theorem leads_operationCompletion (v : Bool) (hs : P s.roster) : Leads P (execOperationCompletion v s) := by
  unfold execOperationCompletion; split
  · exact leads_nothing hs
  · split
    · exact leads_done (by simpa using hs)
    · exact leads_nothing hs

theorem leads_siteStateChangeStore (hs : P s.roster) : Leads P (execSiteStateChangeStore s) := by
  unfold execSiteStateChangeStore; split
  · exact leads_nothing hs
  · refine leads_done ?_
    split
    · rw [State.roster_abortOperation]; exact hs
    · exact hs

/-! ### Events of the sessions and of the receipts -/

theorem Kept.execChargerReport (h : Kept P) (p : Nat) (hs : P s.roster) : Leads P (execChargerReport p s) := by
  unfold Sys2Proof.Machine.execChargerReport; split
  · exact leads_nothing hs
  · refine leads_done (h.takeChargerReport ?_ _)
    exact hs

theorem Kept.execReadingApplied (h : Kept P) (p : Nat) (hs : P s.roster) : Leads P (execReadingApplied p s) := by
  unfold Sys2Proof.Machine.execReadingApplied; split
  · exact leads_nothing hs
  · refine leads_done (h.tryComplete ?_ _)
    rw [State.roster_setRecord _ _ _ (by rfl)]
    exact hs

theorem Kept.execAuthorizationTimeout (h : Kept P) (n : Nat) (hs : P s.roster) :
    Leads P (execAuthorizationTimeout n s) := by
  unfold Sys2Proof.Machine.execAuthorizationTimeout; split
  · exact leads_nothing hs
  · rename_i x hx
    split
    · rename_i hst _
      refine leads_done (h.abandon ?_ (find_spec hx).1 hst (.inr rfl))
      exact hs
    · exact leads_nothing hs

theorem Kept.execDormantTimeout (h : Kept P) (n : Nat) (hs : P s.roster) : Leads P (execDormantTimeout n s) := by
  unfold Sys2Proof.Machine.execDormantTimeout; split
  · exact leads_nothing hs
  · rename_i x hx
    split
    · rename_i hst _
      refine leads_done (h.transition (s := s.reach _) hs _ _ fun z hz => ?_)
      obtain rfl : x = z := Option.some.inj (hx.symm.trans hz)
      exact .of_eq rfl rfl rfl rfl rfl rfl (by simp [hst, SessionState.goes])
    · exact leads_nothing hs

theorem Kept.execIdleSecondTick (h : Kept P) (n : Nat) (hs : P s.roster) : Leads P (execIdleSecondTick n s) := by
  unfold Sys2Proof.Machine.execIdleSecondTick; split
  · exact leads_nothing hs
  · split
    · refine leads_done (h.update (s := s.reach _) hs _ _ fun z _ => ?_)
      exact .of_eq rfl rfl rfl rfl rfl rfl (by simp [Session.idleSecond, SessionState.goes])
    · exact leads_nothing hs

theorem Kept.execClosingTimeout (h : Kept P) (n : Nat) (hs : P s.roster) : Leads P (execClosingTimeout n s) := by
  unfold Sys2Proof.Machine.execClosingTimeout; split
  · exact leads_nothing hs
  · rename_i x hx
    split
    · rename_i hst ht
      refine leads_done (h.completeClosing ?_ _ _ (find_spec hx).1 hst (.inr (by simp [ht])))
      exact hs
    · exact leads_nothing hs

theorem Kept.execAllocationResultSessions (h : Kept P) (hs : P s.roster) :
    Leads P (execAllocationResultSessions s) := by
  unfold Sys2Proof.Machine.execAllocationResultSessions; split
  · refine leads_done (h.takeResult ?_ _)
    exact hs
  · exact leads_nothing hs

theorem Kept.execReclassification (h : Kept P) (hs : P s.roster) : Leads P (execReclassification s) := by
  unfold Sys2Proof.Machine.execReclassification; split
  · refine leads_done (roster_foldl _ (fun s n hs => h.reclassify hs _ _ n) _ ?_)
    exact hs
  · exact leads_nothing hs

theorem Kept.execSiteStateChangeSessions (h : Kept P) (hs : P s.roster) : Leads P (execSiteStateChangeSessions s) := by
  unfold Sys2Proof.Machine.execSiteStateChangeSessions; split
  · exact leads_nothing hs
  · refine leads_done (h.followSite ?_ _)
    exact hs

theorem Kept.execChargerHealthChange (h : Kept P) (p : Nat) (hs : P s.roster) :
    Leads P (execChargerHealthChange p s) := by
  unfold Sys2Proof.Machine.execChargerHealthChange; split
  · exact leads_nothing hs
  · refine leads_done (h.holdPort ?_ _ _ _)
    exact hs

theorem Kept.execActivationEvent (h : Kept P) (hs : P s.roster) : Leads P (execActivationEvent s) := by
  unfold Sys2Proof.Machine.execActivationEvent; split
  · exact leads_nothing hs
  · refine leads_done (roster_foldl _ (fun s n hs => h.freeVend hs n) _ ?_)
    exact hs

theorem Kept.execReadingApplication (h : Kept P) (p : Nat) (hs : P s.roster) :
    Leads P (execReadingApplication p s) := by
  unfold Sys2Proof.Machine.execReadingApplication; split
  · exact leads_nothing hs
  · refine leads_done (h.takeReading ?_ _)
    exact hs

theorem Kept.execHandOver (h : Kept P) (hs : P s.roster) : Leads P (execHandOver s) := by
  unfold Sys2Proof.Machine.execHandOver; split
  · exact leads_nothing hs
  · refine leads_done (h.takeHandOver ?_ _)
    exact hs

theorem Kept.execStoreFree (h : Kept P) (hs : P s.roster) : Leads P (execStoreFree s) := by
  unfold Sys2Proof.Machine.execStoreFree; split
  · exact leads_nothing hs
  · simp only
    split
    · rename_i m rest _ hp
      refine leads_done (h.priceHead (rest := rest) ?_ ?_)
      · split <;> exact hs
      · split <;> exact hp
    · exact leads_done hs

theorem Kept.execRoomEvent (h : Kept P) (hs : P s.roster) : Leads P (execRoomEvent s) := by
  unfold Sys2Proof.Machine.execRoomEvent; split
  · exact leads_nothing hs
  · refine leads_done (h.drain _ ?_)
    exact hs

end

end Sys2Proof.Machine

namespace Sys2Proof.Machine

/-- A complete frame is the request of its kind, or answered UNKNOWN_KIND (R164, R175). -/
theorem completeFrame_cases (l : Link) (kind tag : Byte) (p : List Byte) (s : State) :
    (∃ i, (∀ m b, i ≠ .receivedByte m b) ∧ completeFrame l kind tag p s = exec i s) ∨
      completeFrame l kind tag p s = done (s.unknownFrame l kind tag) := by
  unfold completeFrame
  split
  · exact .inl ⟨.setSite l tag (siteOf p), by simp, rfl⟩
  · exact .inl ⟨.setFeeder l tag (feederOf p), by simp, rfl⟩
  · exact .inl ⟨.setPort l tag (portOf p), by simp, rfl⟩
  · exact .inl ⟨.setUnit l tag (unitOf p), by simp, rfl⟩
  · exact .inl ⟨.setBatteryPolicy l tag (policyOf p), by simp, rfl⟩
  · exact .inl ⟨.setTimers l tag (timersOf p), by simp, rfl⟩
  · exact .inl ⟨.setWatermarks l tag (watermarksOf p), by simp, rfl⟩
  · exact .inl ⟨.setNoticeRoute l tag (noticeRouteOf p), by simp, rfl⟩
  · exact .inl ⟨.setTillAccess l tag (tillOf p), by simp, rfl⟩
  · exact .inl ⟨.setQueueLevels l tag (levelsOf p), by simp, rfl⟩
  · exact .inl ⟨.setTime l tag (numberOf 4 p), by simp, rfl⟩
  · exact .inl ⟨.goLive l tag (emptyOf p), by simp, rfl⟩
  · exact .inl ⟨.restart l tag (numberOf 1 p), by simp, rfl⟩
  · exact .inl ⟨.authorize l tag (authorizeOf p), by simp, rfl⟩
  · exact .inl ⟨.holdPort l tag (numberOf 1 p), by simp, rfl⟩
  · exact .inl ⟨.releasePort l tag (numberOf 1 p), by simp, rfl⟩
  · exact .inl ⟨.stopSession l tag (numberOf 2 p), by simp, rfl⟩
  · exact .inl ⟨.setDeparture l tag (setDepartureOf p), by simp, rfl⟩
  · exact .inl ⟨.sessionStatus l tag (numberOf 2 p), by simp, rfl⟩
  · exact .inl ⟨.portStatus l tag (numberOf 1 p), by simp, rfl⟩
  · exact .inl ⟨.linkPurchase l tag (purchaseOf p), by simp, rfl⟩
  · exact .inl ⟨.programTariff l tag (programOf p), by simp, rfl⟩
  · exact .inl ⟨.eraseTariff l tag (numberOf 1 p), by simp, rfl⟩
  · exact .inl ⟨.activateTariff l tag (numberOf 1 p), by simp, rfl⟩
  · exact .inl ⟨.readTariff l tag (numberOf 1 p), by simp, rfl⟩
  · exact .inl ⟨.readReceipt l tag (emptyOf p), by simp, rfl⟩
  · exact .inl ⟨.setMark l tag (emptyOf p), by simp, rfl⟩
  · exact .inl ⟨.rewind l tag (emptyOf p), by simp, rfl⟩
  · exact .inl ⟨.releaseMark l tag (emptyOf p), by simp, rfl⟩
  · exact .inl ⟨.flushQueue l tag (emptyOf p), by simp, rfl⟩
  · exact .inl ⟨.receiptCopy l tag (copyOf p), by simp, rfl⟩
  · exact .inl ⟨.queueStatus l tag (emptyOf p), by simp, rfl⟩
  · exact .inl ⟨.readDiscrepancy l tag (emptyOf p), by simp, rfl⟩
  · exact .inl ⟨.clearDiscrepancy l tag (emptyOf p), by simp, rfl⟩
  · exact .inl ⟨.siteStatus l tag (numberOf 1 p), by simp, rfl⟩
  · exact .inl ⟨.allocStatus l tag (numberOf 1 p), by simp, rfl⟩
  · exact .inl ⟨.unitStatus l tag (numberOf 1 p), by simp, rfl⟩
  · exact .inr rfl

section
variable {P : Roster → Prop} {s : State}

/-- Every command but a received byte keeps what every move keeps. -/
theorem Kept.exec_of_ne (h : Kept P) (hs : P s.roster) (i : Instr) (hi : ∀ l b, i ≠ .receivedByte l b) :
    Leads P (exec i s) := by
  cases i with
  | powerOnReset => exact h.execPowerOnReset hs
  | interByteTimeout x => exact leads_interByteTimeout x hs
  | frameDiscard x => exact leads_frameDiscard x hs
  | busyRefusal l k t => exact leads_busyRefusal l k t hs
  | unknownKind l k t => exact leads_unknownKind l k t hs
  | transmitEnd x => exact leads_transmitEnd x hs
  | siteClockTick => exact leads_siteClockTick hs
  | setSite l tag p => exact leads_serve _ _ _ _ _ _ _ (handles_of_roster roster_handleSetSite) hs
  | setFeeder l tag p => exact leads_serve _ _ _ _ _ _ _ (handles_of_roster roster_handleSetFeeder) hs
  | setPort l tag p => exact leads_serve _ _ _ _ _ _ _ h.handleSetPort hs
  | setUnit l tag p => exact leads_serve _ _ _ _ _ _ _ (handles_of_roster roster_handleSetUnit) hs
  | setBatteryPolicy l tag p => exact leads_serve _ _ _ _ _ _ _ (handles_of_roster roster_handleSetBatteryPolicy) hs
  | setTimers l tag p => exact leads_serve _ _ _ _ _ _ _ (handles_of_roster roster_handleSetTimers) hs
  | setWatermarks l tag p => exact leads_serve _ _ _ _ _ _ _ (handles_of_roster roster_handleSetWatermarks) hs
  | setNoticeRoute l tag p => exact leads_serve _ _ _ _ _ _ _ (handles_of_roster roster_handleSetNoticeRoute) hs
  | setTillAccess l tag p => exact leads_serve _ _ _ _ _ _ _ (handles_of_roster roster_handleSetTillAccess) hs
  | setQueueLevels l tag p => exact leads_serve _ _ _ _ _ _ _ (handles_of_roster roster_handleSetQueueLevels) hs
  | setTime l tag p => exact leads_serve _ _ _ _ _ _ _ (handles_of_roster roster_handleSetTime) hs
  | goLive l tag p => exact leads_serve _ _ _ _ _ _ _ h.handleGoLive hs
  | restart l tag p => exact leads_serve _ _ _ _ _ _ _ h.handleRestart hs
  | authorize l tag p => exact leads_serve _ _ _ _ _ _ _ (h.handleAuthorize _) hs
  | holdPort l tag p => exact leads_serve _ _ _ _ _ _ _ (h.handleHold true) hs
  | releasePort l tag p => exact leads_serve _ _ _ _ _ _ _ (h.handleHold false) hs
  | stopSession l tag p => exact leads_serve _ _ _ _ _ _ _ h.handleStopSession hs
  | setDeparture l tag p => exact leads_serve _ _ _ _ _ _ _ h.handleSetDeparture hs
  | sessionStatus l tag p => exact leads_serve _ _ _ _ _ _ _ (handles_of_roster fun s f => congrArg State.roster (handleSessionStatus_state s f)) hs
  | portStatus l tag p => exact leads_serve _ _ _ _ _ _ _ (handles_of_roster fun s f => congrArg State.roster (handlePortStatus_state s f)) hs
  | linkPurchase l tag p => exact leads_serve _ _ _ _ _ _ _ h.handleLinkPurchase hs
  | programTariff l tag p => exact leads_serve _ _ _ _ _ _ _ (handles_of_roster roster_handleProgramTariff) hs
  | eraseTariff l tag p => exact leads_serve _ _ _ _ _ _ _ (handles_of_roster roster_handleEraseTariff) hs
  | activateTariff l tag p => exact leads_serve _ _ _ _ _ _ _ h.handleActivateTariff hs
  | readTariff l tag p => exact leads_serve _ _ _ _ _ _ _ (handles_of_roster fun s f => congrArg State.roster (handleReadTariff_state s f)) hs
  | readReceipt l tag p => exact leads_serve _ _ _ _ _ _ _ (handles_of_roster roster_handleReadReceipt) hs
  | setMark l tag p => exact leads_serve _ _ _ _ _ _ _ (handles_of_roster roster_handleSetMark) hs
  | rewind l tag p => exact leads_serve _ _ _ _ _ _ _ (handles_of_roster roster_handleRewind) hs
  | releaseMark l tag p => exact leads_serve _ _ _ _ _ _ _ (handles_of_roster roster_handleReleaseMark) hs
  | flushQueue l tag p => exact leads_serve _ _ _ _ _ _ _ (handles_of_roster roster_handleFlushQueue) hs
  | receiptCopy l tag p => exact leads_serve _ _ _ _ _ _ _ (handles_of_roster fun s f => congrArg State.roster (handleReceiptCopy_state s f)) hs
  | queueStatus l tag p => exact leads_serve _ _ _ _ _ _ _ (handles_of_roster fun s f => congrArg State.roster (handleQueueStatus_state s f)) hs
  | readDiscrepancy l tag p => exact leads_serve _ _ _ _ _ _ _ (handles_of_roster fun s f => congrArg State.roster (handleReadDiscrepancy_state s f)) hs
  | clearDiscrepancy l tag p => exact leads_serve _ _ _ _ _ _ _ (handles_of_roster fun _ _ => rfl) hs
  | siteStatus l tag p => exact leads_serve _ _ _ _ _ _ _ (handles_of_roster fun s f => congrArg State.roster (handleSiteStatus_state s f)) hs
  | allocStatus l tag p => exact leads_serve _ _ _ _ _ _ _ (handles_of_roster fun s f => congrArg State.roster (handleAllocStatus_state s f)) hs
  | unitStatus l tag p => exact leads_serve _ _ _ _ _ _ _ (handles_of_roster fun s f => congrArg State.roster (handleUnitStatus_state s f)) hs
  | pollEnd => exact leads_pollEnd hs
  | fieldReply x => exact leads_fieldReply x hs
  | replyTimeout => exact leads_replyTimeout hs
  | chargerReport x => exact h.execChargerReport x hs
  | chargerTarget x => exact leads_chargerTarget x hs
  | readingApplied x => exact h.execReadingApplied x hs
  | authorizationTimeout x => exact h.execAuthorizationTimeout x hs
  | dormantTimeout x => exact h.execDormantTimeout x hs
  | idleSecondTick x => exact h.execIdleSecondTick x hs
  | closingTimeout x => exact h.execClosingTimeout x hs
  | allocationResultSessions => exact h.execAllocationResultSessions hs
  | reclassification => exact h.execReclassification hs
  | siteStateChangeSessions => exact h.execSiteStateChangeSessions hs
  | chargerHealthChange x => exact h.execChargerHealthChange x hs
  | activationEvent => exact h.execActivationEvent hs
  | reportArrival x => exact leads_reportArrival x hs
  | staleTimerExpiry x => exact leads_staleTimerExpiry x hs
  | unitHealthChange x => exact leads_unitHealthChange x hs
  | fallbackHoldExpiry x => exact leads_fallbackHoldExpiry x hs
  | restoreTimerExpiry => exact leads_restoreTimerExpiry hs
  | dischargeAllowanceChange => exact leads_dischargeAllowanceChange hs
  | earlyRequest => exact leads_earlyRequest hs
  | roundPeriodExpiry => exact leads_roundPeriodExpiry hs
  | spacingTimerExpiry => exact leads_spacingTimerExpiry hs
  | resultApplied => exact leads_resultApplied hs
  | allocationResultField => exact leads_allocationResultField hs
  | allocationResultDispatch => exact leads_allocationResultDispatch hs
  | batteryReport => exact leads_batteryReport hs
  | batteryFreshnessChange => exact leads_batteryFreshnessChange hs
  | siteStateChangeDispatch => exact leads_siteStateChangeDispatch hs
  | dispatchHandover => exact leads_dispatchHandover hs
  | readingApplication x => exact h.execReadingApplication x hs
  | erasingEnd => exact leads_erasingEnd hs
  | writingEnd => exact leads_writingEnd hs
  | operationCompletion x => exact leads_operationCompletion x hs
  | siteStateChangeStore => exact leads_siteStateChangeStore hs
  | handOver => exact h.execHandOver hs
  | storeFree => exact h.execStoreFree hs
  | roomEvent => exact h.execRoomEvent hs
  | receivedByte l b => exact absurd rfl (hi l b)

/-- Every command keeps what every move keeps. -/
theorem Kept.exec (h : Kept P) (hs : P s.roster) (i : Instr) : Leads P (exec i s) := by
  by_cases hi : ∃ l b, i = .receivedByte l b
  · obtain ⟨l, b, rfl⟩ := hi
    simp only [Sys2Proof.Machine.exec, execReceivedByte]
    split
    · split
      · exact leads_done ((s.roster_setPort _ _).symm ▸ hs)
      · exact leads_nothing hs
    · split
      · exact leads_done ((s.roster_setPort _ _).symm ▸ hs)
      · exact leads_done ((s.roster_frameEnd l).symm ▸ hs)
      · rename_i kind tag payload _
        obtain ⟨i, hi, e⟩ | e := completeFrame_cases l kind tag payload s
        · exact e ▸ h.exec_of_ne hs i hi
        · exact e ▸ leads_done ((s.roster_unknownFrame l kind tag).symm ▸ hs)
  · exact h.exec_of_ne hs i fun l b e => hi ⟨l, b, e⟩

theorem Kept.step (h : Kept P) {t : State} (hs : P s.roster) (ht : step s = .next t) : P t.roster := by
  unfold Sys2Proof.Machine.step at ht
  split at ht
  · cases ht; exact hs
  · rename_i c rest _
    exact h.exec (s := { s with pending := rest }) hs c t ht

theorem kept_tableWf : Kept Roster.TableWf := ⟨id, Move.keeps_tableWf⟩

theorem kept_portsWf : Kept fun r => r.TableWf ∧ r.PortsWf :=
  ⟨And.left, fun hm ⟨ht, hp⟩ => ⟨hm.keeps_tableWf ht, hm.keeps_portsWf ht hp⟩⟩

end

/-- Settles O58: the session table's invariant is kept by every move, and every command is made of moves. -/
theorem stepKeepsTheSessionTable : Obligations.StepKeepsTheSessionTable := by
  intro s t hs ht
  exact t.tableWf_iff.2 (kept_tableWf.step (s.tableWf_iff.1 hs) ht)

/-- Settles O59: with the table's invariant, the ports' invariant is kept by every move. -/
theorem stepKeepsThePorts : Obligations.StepKeepsThePorts := by
  intro s t hs hp ht
  exact t.portsWf_iff.2 (kept_portsWf.step ⟨s.tableWf_iff.1 hs, s.portsWf_iff.1 hp⟩ ht).2

end Sys2Proof.Machine

namespace Sys2Proof.Machine

/-! ## Requests, answered -/

/-- What is answered to a request that finds the slot FREE, when its owner's state is one with the frame taken off the
line. -/
theorem serve_answered {α : Type} {l : Link} {kind tag : Byte} {till : Bool} {al : Allowed} {g : State → α → Bool}
    {h : State → α → Handled} {p : Payload α} {s : State} (v : State) (status : Status) (body : List Byte)
    (hl : s.slotFree l)
    (ha : answer l till al g h p (s.frameEnd l) = { state := v.frameEnd l, status := status, body := body }) :
    serve l kind tag till al g h p s = .next (v.replied l kind tag status body) := by
  rw [serve_free _ _ _ _ _ _ _ _ _ hl, ha]
  exact done_place_frameEnd ..

/-- A request whose part state and grant allow it is the owner's to answer. -/
theorem answer_allowed {α : Type} {l : Link} {till : Bool} {al : Allowed} {g : State → α → Bool}
    {h : State → α → Handled} {f : α} {s : State} (htill : l = .till → till = true)
    (hal : al.refusal s.links.part = none) (hg : l = .till → g s f = true) : answer l till al g h (.fits f) s = h s f := by
  cases l with
  | site => simp [answer, hal]
  | till => simp [answer, hal, htill, hg]

/-- A site request that its owner answers. -/
theorem serve_site_answered {α : Type} {kind tag : Byte} {till : Bool} {al : Allowed} {g : State → α → Bool}
    {h : State → α → Handled} {f : α} {s : State} (v : State) (status : Status) (body : List Byte)
    (hl : s.slotFree .site) (hal : al.refusal s.links.part = none)
    (ha : h (s.frameEnd .site) f = { state := v.frameEnd .site, status := status, body := body }) :
    serve .site kind tag till al g h (.fits f) s = .next (v.replied .site kind tag status body) :=
  serve_answered v status body hl <|
    (answer_allowed (fun e => by cases e) (by rwa [State.frameEnd_part]) fun e => by cases e).trans ha

/-- An answer that leaves the owner's state as it is changes nothing but the link. -/
theorem serve_unchanged {α : Type} {l : Link} {kind tag : Byte} {till : Bool} {al : Allowed} {g : State → α → Bool}
    {h : State → α → Handled} {p : Payload α} {s : State} (hl : s.slotFree l)
    (hh : ∀ f, (h (s.frameEnd l) f).state = s.frameEnd l) :
    ∃ status body, serve l kind tag till al g h p s = .next (s.replied l kind tag status body) := by
  have ha : (answer l till al g h p (s.frameEnd l)).state = s.frameEnd l := by
    unfold answer
    split
    · rfl
    · split
      · rfl
      · split
        · rfl
        · split
          · rfl
          · exact hh _
  generalize e : answer l till al g h p (s.frameEnd l) = r at ha
  exact ⟨r.status, r.body, serve_answered s _ _ hl (by rw [e, ← ha])⟩

/-- Settles O49: the handler of each of the nine kinds leaves the state as it is. -/
theorem statusRequestsChangeNothing : Obligations.StatusRequestsChangeNothing := by
  intro c h s hc hl hk
  cases c <;> simp only [requestHead, reduceCtorEq, Option.some.injEq] at hc <;> subst hc
  case sessionStatus => exact serve_unchanged hl fun f => handleSessionStatus_state _ f
  case portStatus => exact serve_unchanged hl fun f => handlePortStatus_state _ f
  case readTariff => exact serve_unchanged hl fun f => handleReadTariff_state _ f
  case receiptCopy => exact serve_unchanged hl fun f => handleReceiptCopy_state _ f
  case queueStatus => exact serve_unchanged hl fun f => handleQueueStatus_state _ f
  case readDiscrepancy => exact serve_unchanged hl fun f => handleReadDiscrepancy_state _ f
  case siteStatus => exact serve_unchanged hl fun f => handleSiteStatus_state _ f
  case allocStatus => exact serve_unchanged hl fun f => handleAllocStatus_state _ f
  case unitStatus => exact serve_unchanged hl fun f => handleUnitStatus_state _ f
  all_goals simp at hk

/-! ## Transitions (R12, R14, R25) -/

theorem State.pauseOnLeaving_eq (s : State) (x y : Session) :
    s.pauseOnLeaving x y = { s with events := { s.events with
      chargerTargets := s.events.chargerTargets ++
        if x.state = .active ∧ y.state ≠ .active then [{ port := y.port, mode := .pause, setpoint := 0 }] else [] } } := by
  unfold State.pauseOnLeaving
  split
  · rfl
  · rw [List.append_nil]

theorem State.requestOnChange_eq (s : State) (x y : Session) :
    s.requestOnChange x y = { s with events := { s.events with
      earlyRequests := s.events.earlyRequests + if x.isCandidate = y.isCandidate then 0 else 1 } } := by
  unfold State.requestOnChange
  split <;> rfl

theorem State.noticeOnChange_eq (s : State) (x y : Session) :
    s.noticeOnChange x y =
      s.setLinks (if x.state = y.state then s.links else s.links.raise .sessionChange y.number) := by
  unfold State.noticeOnChange
  split <;> rfl

/-- The whole state after a transition. -/
theorem State.transition_eq (s : State) {n : Nat} {x : Session} (f : Session → Session)
    (h : s.sessions.find n = some x) :
    s.transition n f = { s with
      links := if x.state = (f x).state then s.links else s.links.raise .sessionChange (f x).number
      sessions := s.sessions.update n fun _ => carryTimers s.runTime s.sessions.dormantDelay x (f x)
      events := { s.events with
        chargerTargets := s.events.chargerTargets ++
          if x.state = .active ∧ (f x).state ≠ .active then [{ port := (f x).port, mode := .pause, setpoint := 0 }] else []
        earlyRequests := s.events.earlyRequests + if x.isCandidate = (f x).isCandidate then 0 else 1 } } := by
  simp only [State.transition, h, State.noticeOnChange_eq, State.requestOnChange_eq, State.pauseOnLeaving_eq]
  rfl

/-- Settles O14: the record, the target, the request and the notice of a transition, each by its own condition. -/
theorem transitionCarriesItsEffects : Obligations.TransitionCarriesItsEffects := by
  intro s x y hx t stays
  have ht : t = _ := s.transition_eq (fun _ => y) hx
  have hcand : (x.isCandidate = y.isCandidate) ↔ (x.state = .active ∧ 0 < x.demand ↔ y.state = .active ∧ 0 < y.demand) := by
    rw [Session.isCandidate, Session.isCandidate, decide_eq_decide]
  simp only [hcand] at ht
  rw [ht]
  exact ⟨rfl, rfl, rfl, rfl⟩

end Sys2Proof.Machine

namespace Sys2Proof.Machine

/-! ## SET_PORT (R1, R88) -/

theorem SessionController.entry_configure (c : SessionController) {p : Nat} (h1 : 1 ≤ p) (h2 : p ≤ 32) (e : Option PortEntry)
    (q : Nat) : nth (put c.ports p e) none q = if q = p then e else c.entry q := nth_put _ _ _ _ _ h1 h2

theorem configuredUnit_charger {p : Nat} (h : p ≤ 32) (old : FieldUnit) (address : Nat) :
    configuredUnit old p address 0 true = { old with present := true, address := some address } := by
  simp [configuredUnit, show ¬ 35 ≤ p by omega]

theorem portInRange_iff {f : PortFields} : portInRange f = true ↔
    (1 ≤ f.port ∧ f.port ≤ 32 ∧ 1 ≤ f.feeder ∧ f.feeder ≤ 4 ∧ 1 ≤ f.ratedMax ∧ f.ratedMax ≤ 2000 ∧ f.minimum ≤ 220 ∧
      1 ≤ f.address ∧ f.address ≤ 247) ∧ f.present ≤ 1 ∧ f.freeVend ≤ 1 := by
  simp [portInRange, isYesNo, and_assoc]

/-- The entry an accepted SET_PORT writes. -/
def portEntryOf (f : PortFields) (cls : PortClass) : PortEntry :=
  { feeder := f.feeder, cls := cls, ratedMax := f.ratedMax,
    minimum := if f.minimum = 0 then cls.defaultMinimum else f.minimum, address := f.address, freeVend := f.freeVend == 1 }

theorem handleSetPort_frameEnd (s : State) {f : PortFields} {cls : PortClass} (hc : portClassOf f.cls = some cls)
    (hr : portInRange f = true) (l : Link) :
    handleSetPort (s.frameEnd l) f =
      if f.present = 1 ∧ addressTaken s.field f.port f.address = true then refuse (s.frameEnd l) .duplicate
      else ok ((s.configurePort f.port (if f.present = 1 then some (portEntryOf f cls) else none)).frameEnd l) := by
  simp only [handleSetPort, hc, hr, if_true]
  show (if f.present = 1 ∧ addressTaken s.field f.port f.address = true then _ else _) = _
  split
  · rfl
  · split <;> rfl

/-- Settles O9: an accepted SET_PORT is one `configurePort`, and each field it writes is read back. -/
theorem setPortReplacesOneEntry : Obligations.SetPortReplacesOneEntry := by
  intro s tag f cls hl hpart hc hv
  have hal : Allowed.setupOnly.refusal s.links.part = none := by rw [hpart]; rfl
  refine ⟨fun h1 h2 h3 h4 h5 h6 h7 h8 h9 => ?_, fun hout => ?_⟩
  · have hrange : f.present ≤ 1 → portInRange f = true := fun hp =>
      portInRange_iff.2 ⟨⟨h1, h2, h3, h4, h5, h6, h7, h8, h9⟩, hp, hv⟩
    refine ⟨fun hp ha => ?_, fun hp ha => ?_, fun hp => ?_⟩
    · refine serve_site_answered s .duplicate [] hl hal ?_
      rw [handleSetPort_frameEnd s hc (hrange (by omega)), if_pos ⟨hp, ha⟩]
      rfl
    · refine ⟨(s.configurePort f.port (some (portEntryOf f cls))).replied .site 0x03#8 tag .ok [], ?_, rfl, fun p => ?_,
        fun u => ?_, fun p => ?_⟩
      · refine serve_site_answered _ _ _ hl hal ?_
        rw [handleSetPort_frameEnd s hc (hrange (by omega)), if_neg (by simp [ha]), if_pos hp]
        rfl
      · refine (s.sessions.entry_configure h1 h2 _ p).trans ?_
        cases cls <;> rfl
      · refine (s.field.unit_setUnit _ _ _ h1 (by omega)).trans ?_
        rw [show configuredUnit _ _ _ _ (some (portEntryOf f cls)).isSome = _ from configuredUnit_charger h2 _ _]
        rfl
      · exact nth_put _ _ _ _ _ h1 h2
    · refine ⟨(s.configurePort f.port none).replied .site 0x03#8 tag .ok [], ?_, rfl, fun p => ?_, fun u => ?_,
        fun p hne => ⟨?_, ?_, ?_⟩⟩
      · refine serve_site_answered _ _ _ hl hal ?_
        rw [handleSetPort_frameEnd s hc (hrange (by omega)), if_neg (by simp [hp]), if_neg (by simp [hp])]
        rfl
      · exact s.sessions.entry_configure h1 h2 _ p
      · exact s.field.unit_setUnit _ _ _ h1 (by omega)
      · exact (nth_put _ _ _ _ _ h1 h2).trans (if_neg hne)
      · exact (nth_put _ _ _ _ _ h1 h2).trans (if_neg hne)
      · exact (nth_put _ _ _ _ _ h1 h2).trans (if_neg hne)
  · refine serve_site_answered s .outOfRange [] hl hal ?_
    have : ¬ portInRange f = true := by rw [portInRange_iff]; omega
    simp only [handleSetPort, hc, this]
    rfl

/-! ## SET_SITE, SET_TIMERS, SET_WATERMARKS -/

@[simp] theorem State.frameEnd_runTime (s : State) (l : Link) : (s.frameEnd l).runTime = s.runTime := rfl
@[simp] theorem State.frameEnd_field (s : State) (l : Link) : (s.frameEnd l).field = s.field := rfl
@[simp] theorem State.frameEnd_balance (s : State) (l : Link) : (s.frameEnd l).balance = s.balance := rfl
@[simp] theorem State.frameEnd_sessions (s : State) (l : Link) : (s.frameEnd l).sessions = s.sessions := rfl
@[simp] theorem State.frameEnd_metering (s : State) (l : Link) : (s.frameEnd l).metering = s.metering := rfl
@[simp] theorem State.frameEnd_store (s : State) (l : Link) : (s.frameEnd l).store = s.store := rfl
@[simp] theorem State.frameEnd_builder (s : State) (l : Link) : (s.frameEnd l).builder = s.builder := rfl
@[simp] theorem State.frameEnd_queue (s : State) (l : Link) : (s.frameEnd l).queue = s.queue := rfl
@[simp] theorem State.frameEnd_clock (s : State) (l : Link) : (s.frameEnd l).links.clock = s.links.clock := by
  cases l <;> rfl

/-- A frame taken off the line before a notice is raised, or after it. -/
theorem State.raise_frameEnd (s : State) (l : Link) (k : NoticeKind) (d : Nat) :
    (s.frameEnd l).raise k d = (s.raise k d).frameEnd l := by
  unfold State.raise State.frameEnd
  rw [State.setLinks_setLinks, State.setLinks_setLinks]
  congr 1
  cases l with
  | site =>
    cases h : (s.links.route k).route.reaches .site <;> simp only [LinkController.raise, LinkController.setPort,
      LinkController.port, State.setLinks_links, LinkController.route] at h ⊢ <;> simp only [h] <;> rfl
  | till =>
    cases h : (s.links.route k).route.reaches .till <;> simp only [LinkController.raise, LinkController.setPort,
      LinkController.port, State.setLinks_links, LinkController.route] at h ⊢ <;> simp only [h] <;> rfl

theorem State.recompute_frameEnd (s : State) (l : Link) : (s.frameEnd l).recompute = s.recompute.frameEnd l := by
  by_cases h : s.balance.record.flags.storeOverload = false ∧
    (balanceOf s.field s.sessions s.balance).flags.storeOverload = true
  · exact (if_pos h).trans ((State.raise_frameEnd (s.setBalance { s.balance with
      record := balanceOf s.field s.sessions s.balance }) l _ _).trans (congrArg (State.frameEnd · l) (if_pos h).symm))
  · have e : s.recompute = s.setBalance { s.balance with record := balanceOf s.field s.sessions s.balance } := if_neg h
    rw [e]
    exact if_neg h

theorem siteInRange_iff {f : SiteFields} : siteInRange f = true ↔ 1 ≤ f.importLimit ∧ f.importLimit ≤ 2000 ∧
    f.margin ≤ 100 ∧ f.margin < f.importLimit ∧ f.exportLimit ≤ 2000 ∧ 1 ≤ f.storePeak ∧ f.storePeak ≤ 2000 ∧
    1 ≤ f.fallback ∧ f.fallback ≤ 220 ∧ f.nextReceipt < 4294967296 := by
  simp [siteInRange, Config.word32]

theorem timersInRange_iff {f : TimerFields} : timersInRange f = true ↔ 30 ≤ f.authorization ∧ f.authorization ≤ 1800 ∧
    10 ≤ f.dormant ∧ f.dormant ≤ 3600 ∧ 5 ≤ f.closing ∧ f.closing ≤ 300 ∧ 2 ≤ f.stale ∧ f.stale ≤ 60 ∧ 10 ≤ f.restore ∧
    f.restore ≤ 600 ∧ 10 ≤ f.fallbackHold ∧ f.fallbackHold ≤ 600 ∧ 1 ≤ f.period ∧ f.period ≤ 10 ∧ 10 ≤ f.reply ∧
    f.reply ≤ 200 := by simp [timersInRange]

/-- A next receipt number of 0 keeps the one there is. -/
theorem setBuilder_next_ite (s : State) (n : Nat) :
    (if n = 0 then s else s.setBuilder { s.builder with next := n }) =
      s.setBuilder { s.builder with next := if n = 0 then s.builder.next else n } := by
  split <;> rfl

/-- Settles O10: each of the three handlers by its range check, the effects written out. -/
theorem siteTimerAndWatermarkSettingsAreReplaced : Obligations.SiteTimerAndWatermarkSettingsAreReplaced := by
  refine ⟨fun s tag f hl => ⟨fun hin => ?_, fun hout => ?_⟩, fun s tag f hl => ⟨fun hin => ?_, fun hout => ?_⟩,
    fun s tag f hl => ⟨fun h1 h2 h3 h4 hp => ?_, fun h1 h2 h3 hp => ?_, fun hout => ?_⟩⟩
  · refine serve_site_answered _ _ _ hl rfl ?_
    simp only [handleSetSite, siteInRange_iff.2 hin, if_true, setBuilder_next_ite]
    by_cases hp : s.links.part = .live
    · rw [if_pos hp]
      exact (congrArg ok (if_pos hp)).trans (congrArg ok (State.recompute_frameEnd { s with
        balance := { s.balance with settings :=
          { importLimit := f.importLimit, margin := f.margin, exportLimit := f.exportLimit, storePeak := f.storePeak,
            fallback := f.fallback } }
        builder := { s.builder with next := if f.nextReceipt = 0 then s.builder.next else f.nextReceipt } } .site))
    · rw [if_neg hp]
      exact congrArg ok (if_neg hp)
  · refine serve_site_answered s .outOfRange [] hl rfl ?_
    have : ¬ siteInRange f = true := by rw [siteInRange_iff]; omega
    simp only [handleSetSite, this]
    rfl
  · refine serve_site_answered _ _ _ hl rfl ?_
    simp only [handleSetTimers, timersInRange_iff.2 hin, if_true]
    rfl
  · refine serve_site_answered s .outOfRange [] hl rfl ?_
    have : ¬ timersInRange f = true := by rw [timersInRange_iff]; omega
    simp only [handleSetTimers, this]
    rfl
  · refine serve_site_answered _ _ _ hl rfl ?_
    have hlive : (s.frameEnd .site).links.part ≠ .live := by rw [State.frameEnd_part, hp]; decide
    rw [handleSetWatermarks, if_pos ⟨h1, h2, h3, h4, fun h => absurd h hlive⟩]
    exact congrArg ok (if_neg hlive)
  · refine serve_site_answered _ _ _ hl rfl ?_
    rw [handleSetWatermarks, if_pos ⟨h1, by omega, by omega, h3, fun _ => h2⟩]
    exact congrArg ok (if_pos hp)
  · refine serve_site_answered s .outOfRange [] hl rfl ?_
    rw [handleSetWatermarks, if_neg]
    · rfl
    · rw [State.frameEnd_part]
      intro ⟨h1, h2, h3, h4, hlt⟩
      rcases hout with h | h | h | h | ⟨hp, h⟩
      · omega
      · omega
      · omega
      · omega
      · exact absurd (hlt hp) (by omega)

end Sys2Proof.Machine

namespace Sys2Proof.Machine

/-! ## The requests about one session -/

/-! ### A transition under a request -/

theorem State.pauseOnLeaving_frameEnd (s : State) (l : Link) (x y : Session) :
    (s.frameEnd l).pauseOnLeaving x y = (s.pauseOnLeaving x y).frameEnd l := by
  rw [State.pauseOnLeaving_eq, State.pauseOnLeaving_eq]; rfl

theorem State.requestOnChange_frameEnd (s : State) (l : Link) (x y : Session) :
    (s.frameEnd l).requestOnChange x y = (s.requestOnChange x y).frameEnd l := by
  rw [State.requestOnChange_eq, State.requestOnChange_eq]; rfl

theorem State.noticeOnChange_frameEnd (s : State) (l : Link) (x y : Session) :
    (s.frameEnd l).noticeOnChange x y = (s.noticeOnChange x y).frameEnd l := by
  unfold State.noticeOnChange
  split
  · rfl
  · exact State.raise_frameEnd ..

/-- A frame taken off the line before a transition, or after it. -/
theorem State.transition_frameEnd (s : State) (l : Link) (n : Nat) (f : Session → Session) :
    (s.frameEnd l).transition n f = (s.transition n f).frameEnd l := by
  cases hx : s.sessions.find n with
  | none => rw [State.transition_none _ _ _ hx, State.transition_none _ _ _ (by simpa using hx)]
  | some x =>
    simp only [State.transition, State.frameEnd_sessions, State.frameEnd_runTime, hx]
    rw [← State.noticeOnChange_frameEnd, ← State.requestOnChange_frameEnd, ← State.pauseOnLeaving_frameEnd]
    rfl

@[simp] theorem State.frameEnd_siteTime (s : State) (l : Link) : (s.frameEnd l).siteTime = s.siteTime :=
  congrArg SiteClock.time (s.frameEnd_clock l)

/-- A request that its owner answers, after the checks of the part state and the grant. -/
theorem serve_owner {α : Type} {l : Link} {kind tag : Byte} {till : Bool} {al : Allowed} {g : State → α → Bool}
    {h : State → α → Handled} {f : α} {s : State} (v : State) (status : Status) (body : List Byte)
    (hl : s.slotFree l) (htill : l = .till → till = true) (hal : al.refusal s.links.part = none)
    (hg : l = .till → g (s.frameEnd l) f = true)
    (ha : h (s.frameEnd l) f = { state := v.frameEnd l, status := status, body := body }) :
    serve l kind tag till al g h (.fits f) s = .next (v.replied l kind tag status body) :=
  serve_answered v status body hl ((answer_allowed htill (by rwa [State.frameEnd_part]) hg).trans ha)

theorem Allowed.liveOnly_live {s : State} (h : s.links.part = .live) : Allowed.liveOnly.refusal s.links.part = none := by
  rw [h]; rfl

/-! ### AUTHORIZE (R8, R9) -/

theorem tillGrant_frameEnd (s : State) (l : Link) (f : AuthorizeFields) : tillGrant (s.frameEnd l) f = tillGrant s f := by
  cases l <;> rfl

theorem State.authorizeSession_frameEnd (s : State) (l : Link) (n : Nat) (who : Authorizer) (customer : Text)
    (departure : Option Nat) :
    (s.frameEnd l).authorizeSession n who customer departure = (s.authorizeSession n who customer departure).frameEnd l := by
  simp only [State.authorizeSession, State.frameEnd_store, State.frameEnd_sessions, State.frameEnd_metering,
    State.frameEnd_clock]
  split
  · rename_i slot x _ _
    exact State.transition_frameEnd (s.setStore (s.store.bind slot)) ..
  · rfl

theorem Session.afterAuthorization_eq (x : Session) :
    x.afterAuthorization = { x with
      state := if x.holds.isEmpty then .active else .held
      flags := { x.flags with
        gridLost := x.flags.gridLost || x.holds.island
        chargerLost := x.flags.chargerLost || x.holds.chargerLost } } := by
  unfold Session.afterAuthorization
  by_cases he : x.holds.isEmpty = true
  · have hh := he
    simp only [Holds.isEmpty, Bool.not_eq_true', Bool.or_eq_false_iff] at hh
    obtain ⟨⟨⟨hi, -⟩, -⟩, hc⟩ := hh
    simp only [he, if_true, hi, hc, Bool.or_false]
  · by_cases hi : x.holds.island = true <;> by_cases hc : x.holds.chargerLost = true <;>
      simp [he, hi, hc, SessionFlags.meet]

/-- The record of an authorized session, field by field. -/
theorem Session.authorize_eq (x : Session) (who : Authorizer) (customer : Text) (departure : Option Nat) (slot : Nat)
    (reading : Option Nat) (clock : SiteClock) :
    x.authorize who customer departure slot reading clock = { x with
      authorizer := some who
      customer := customer.map (List.take 16)
      departure := departure.map (departureAt clock.time)
      slot := some slot
      meterStart := reading
      authorized := some clock.time
      authorizationTimer := none
      state := if x.holds.isEmpty then .active else .held
      flags := { x.flags with
        timeUnset := x.flags.timeUnset || !clock.isSet
        gridLost := x.flags.gridLost || x.holds.island
        chargerLost := x.flags.chargerLost || x.holds.chargerLost } } := by
  rw [Session.authorize, Session.afterAuthorization_eq]
  rfl

/-- An authorization while a slot is active. -/
theorem State.authorizeSession_eq {s : State} {n slot : Nat} {x : Session} (who : Authorizer) (customer : Text)
    (departure : Option Nat) (ha : s.store.active = some slot) (hx : s.sessions.find n = some x) :
    s.authorizeSession n who customer departure = (s.setStore (s.store.bind slot)).transition n fun _ =>
      x.authorize who customer departure slot (s.metering.meter x.port).last s.links.clock := by
  obtain rfl := (find_spec hx).2
  simp only [State.authorizeSession, ha, hx]
  exact State.transition_const _ x _ hx

/-- Settles O15: the checks by the branches of the handler, the record by `Session.authorize_eq`. -/
theorem authorizeBindsTheSession : Obligations.AuthorizeBindsTheSession := by
  intro s l tag f hl hpart hgrant run refused
  have owner : ∀ (v : State) status body, handleAuthorize (Machine.Link.authorizer l) (s.frameEnd l) f =
      { state := v.frameEnd l, status := status, body := body } → run = .next (v.replied l 0x20#8 tag status body) :=
    fun v status body => serve_owner v status body hl (fun _ => rfl) (Allowed.liveOnly_live hpart)
      fun e => by rw [tillGrant_frameEnd]; exact hgrant e
  refine ⟨fun hout => owner s .outOfRange [] (if_neg (by omega)), fun h1 h2 => ?_⟩
  simp only [handleAuthorize, h1, h2, true_and, if_true, State.frameEnd_sessions, State.frameEnd_store,
    State.authorizeSession_frameEnd] at owner
  refine ⟨fun hx => owner s .notFound [] (by rw [hx]; rfl), fun x hx hfind => ?_⟩
  simp only [hx] at owner
  refine ⟨fun hst => owner s .wrongState [] (by rw [if_pos hst]; rfl), fun hst ha => ?_, fun slot hst ha => ?_⟩
  · exact owner s .noTariff [] (by rw [if_neg (by simp [hst]), if_pos ha]; rfl)
  · refine owner _ _ _ ?_
    rw [if_neg (by simp [hst]), if_neg (by simp [ha]), State.authorizeSession_eq _ _ _ ha hfind, Session.authorize_eq]
    cases l <;> by_cases hd : f.departure = 0 <;> simp only [hd, if_true, if_false] <;> rfl

/-! ### HOLD_PORT and RELEASE_PORT (R15 to R17) -/

/-- A reason added to or removed from the session that is found on a port. -/
theorem State.holdPort_eq {s : State} {p : Nat} {x : Session} (r : HoldReason) (add : Bool)
    (hx : s.sessions.holder p = some x) (hfind : s.sessions.find x.number = some x) :
    s.holdPort p r add = s.transition x.number fun _ => if add then x.addHold r else x.removeHold r := by
  simp only [State.holdPort, hx]
  exact State.transition_const _ x _ hfind

theorem State.holdPort_frameEnd (s : State) (l : Link) (p : Nat) (r : HoldReason) (add : Bool) :
    (s.frameEnd l).holdPort p r add = (s.holdPort p r add).frameEnd l := by
  simp only [State.holdPort, State.frameEnd_sessions]
  split
  · rfl
  · exact State.transition_frameEnd ..

theorem handleHold_frameEnd {s : State} {p : Nat} {x : Session} (l : Link) (add : Bool) (h1 : 1 ≤ p) (h2 : p ≤ 32)
    (hx : s.sessions.holder p = some x) (hfind : s.sessions.find x.number = some x) :
    handleHold add (s.frameEnd l) p =
      if x.state.takesHolds then
        ok ((s.transition x.number fun _ => if add then x.addHold .siteHold else x.removeHold .siteHold).frameEnd l)
      else refuse (s.frameEnd l) .wrongState := by
  rw [handleHold, if_pos ⟨h1, h2⟩, State.frameEnd_sessions, hx]
  simp only [State.holdPort_frameEnd, State.holdPort_eq _ _ hx hfind]

/-- R15, R16: the record of a session with SITE_HOLD added. -/
theorem Session.addHold_siteHold {x : Session}
    (hst : x.state = .plugged ∨ x.state = .active ∨ x.state = .dormant ∨ x.state = .held) :
    x.addHold .siteHold = { x with
      holds := { x.holds with siteHold := true }
      state := if x.state = .plugged then .plugged else .held } := by
  obtain h | h | h | h := hst <;> simp [Session.addHold, h, Holds.set, SessionFlags.meet]

/-- R15, R16: the record of a HELD session with SITE_HOLD removed. -/
theorem Session.removeHold_siteHold_held {x : Session} (h : x.state = .held) :
    x.removeHold .siteHold = { x with
      holds := { x.holds with siteHold := false }
      state := if x.holds.island ∨ x.holds.fault ∨ x.holds.chargerLost then .held
               else if 0 < x.demand then .active else .dormant } := by
  simp only [Session.removeHold, h, Holds.set, Holds.isEmpty]
  by_cases hh : x.holds.island = true ∨ x.holds.fault = true ∨ x.holds.chargerLost = true
  · rw [if_pos hh, if_neg (by grind)]
  · rw [if_neg hh, if_pos (by grind)]

theorem Session.removeHold_of_charging {x : Session} (r : HoldReason) (h : x.state = .active ∨ x.state = .dormant) :
    x.removeHold r = x := by
  obtain h | h := h <;> simp [Session.removeHold, h]

/-- Settles O16: each request by the branches of `handleHold`, each record by the state the session is in. -/
theorem holdAndReleasePort : Obligations.HoldAndReleasePort := by
  intro s tag p hl hpart hold release both
  have hal := Allowed.liveOnly_live hpart
  have refused : ∀ st, handleHold true (s.frameEnd .site) p = refuse (s.frameEnd .site) st →
      handleHold false (s.frameEnd .site) p = refuse (s.frameEnd .site) st → both st := fun st h1 h2 =>
    ⟨serve_site_answered s st [] hl hal h1, serve_site_answered s st [] hl hal h2⟩
  refine ⟨fun hout => refused _ (if_neg (by omega)) (if_neg (by omega)), fun h1 h2 => ⟨fun hx => ?_,
    fun x hx hfind => ⟨fun hst => ?_, fun hst => ?_⟩⟩⟩
  · refine refused .notFound ?_ ?_ <;>
    · rw [handleHold, if_pos ⟨h1, h2⟩, State.frameEnd_sessions, hx]
  · refine refused .wrongState ?_ ?_ <;> rw [handleHold_frameEnd _ _ h1 h2 hx hfind, hst] <;> rfl
  · have takes : x.state.takesHolds = true := by obtain h | h | h | h := hst <;> rw [h] <;> rfl
    have held : hold = .next ((s.transition x.number fun _ => x.addHold .siteHold).replied .site 0x21#8 tag .ok []) :=
      serve_site_answered _ _ _ hl hal (by rw [handleHold_frameEnd _ _ h1 h2 hx hfind, if_pos takes]; rfl)
    have released : release =
        .next ((s.transition x.number fun _ => x.removeHold .siteHold).replied .site 0x22#8 tag .ok []) :=
      serve_site_answered _ _ _ hl hal (by rw [handleHold_frameEnd _ _ h1 h2 hx hfind, if_pos takes]; rfl)
    refine ⟨?_, fun hp => ?_, fun hh => ?_, fun hc => ?_⟩
    · rw [held, Session.addHold_siteHold hst]
    · rw [released, Session.removeHold]
      simp only [hp]
      rfl
    · rw [released, Session.removeHold_siteHold_held hh]
    · rw [released, Session.removeHold_of_charging _ hc]

/-! ### STOP_SESSION, SET_DEPARTURE and LINK_PURCHASE (R18, R22, R23) -/

theorem receiptKnown_iff {s : State} {n : Nat} : receiptKnown s n = true ↔
    (∃ r, some r ∈ s.builder.ring.toList ∧ r.session = n) ∨ ∃ r ∈ s.queue.retained, r.session = n := by
  simp only [receiptKnown, Bool.or_eq_true, List.any_eq_true, beq_iff_eq]
  refine or_congr_left ⟨fun ⟨e, he, h⟩ => ?_, fun ⟨r, hr, h⟩ => ⟨some r, hr, by simpa using h⟩⟩
  cases e with
  | none => simp at h
  | some r => exact ⟨r, he, by simpa using h⟩

theorem purchaseInRange_iff {f : PurchaseFields} : purchaseInRange f = true ↔
    1 ≤ f.amount ∧ f.amount ≤ 1000000 ∧ ∃ t, f.reference = some t ∧ t.length = 8 := by
  cases h : f.reference <;> simp [purchaseInRange, h, and_assoc]

/-- Settles O17: each handler by the session found, its state and the links it has. -/
theorem sessionRequestsChangeOneSession : Obligations.SessionRequestsChangeOneSession := by
  refine ⟨fun s l tag x hpart hx => ?_, fun s l tag n hpart => ?_⟩
  · have hal := Allowed.liveOnly_live hpart
    refine ⟨fun hl hst => ?_, fun hl hst => ?_, fun hl hst d => ?_, fun hl hst d => ?_,
      fun hl amount reference h8 h1 h2 => ?_⟩
    · have can : x.state.canStop = true := by obtain h | h | h := hst <;> rw [h] <;> rfl
      refine serve_site_answered _ _ _ hl hal ?_
      simp only [handleStopSession, State.frameEnd_sessions, hx, can, if_true, State.transition_frameEnd]
      rw [State.transition_const _ x _ hx]
      rfl
    · have can : x.state.canStop = false := by obtain h | h | h | h := hst <;> rw [h] <;> rfl
      refine serve_site_answered s _ _ hl hal ?_
      simp only [handleStopSession, State.frameEnd_sessions, hx, can]
      rfl
    · have takes : x.state.takesHolds = true := by obtain h | h | h | h := hst <;> rw [h] <;> rfl
      refine serve_site_answered _ _ _ hl hal ?_
      simp only [handleSetDeparture, State.frameEnd_sessions, State.frameEnd_siteTime, hx, takes, if_true]
      rfl
    · have takes : x.state.takesHolds = false := by obtain h | h | h := hst <;> rw [h] <;> rfl
      refine serve_site_answered s _ _ hl hal ?_
      simp only [handleSetDeparture, State.frameEnd_sessions, hx, takes]
      rfl
    · intro run refused
      have owner : ∀ (v : State) status body, handleLinkPurchase (s.frameEnd l)
          { session := x.number, amount := amount, reference := some reference } =
            { state := v.frameEnd l, status := status, body := body } → run = .next (v.replied l 0x27#8 tag status body) :=
        fun v status body => serve_owner v status body hl (fun _ => rfl) hal fun _ => rfl
      have hin : purchaseInRange { session := x.number, amount := amount, reference := some reference } = true :=
        purchaseInRange_iff.2 ⟨h1, h2, reference, rfl, h8⟩
      simp only [handleLinkPurchase, hin, if_true, State.frameEnd_sessions, hx, Option.getD_some] at owner
      have fresh : (∀ k ∈ x.links, k.reference ≠ reference) → ¬ (x.links.any fun k => k.reference == reference) = true := by
        simp
      refine ⟨fun hw => ?_, fun hw ⟨k, hk, he⟩ => ?_, fun hw hne hfull => ?_, fun hw hne hroom => ?_⟩
      · exact owner s .tooLate [] (by rw [if_pos hw]; rfl)
      · exact owner s .duplicate [] (by rw [if_neg hw, if_pos (by simpa using ⟨k, hk, he⟩)]; rfl)
      · exact owner s .full [] (by rw [if_neg hw, if_neg (fresh hne)]; exact if_pos hfull)
      · exact owner _ .ok [] (by rw [if_neg hw, if_neg (fresh hne)]; exact if_neg (Nat.not_le.2 hroom))
  · have hal := Allowed.liveOnly_live hpart
    refine ⟨fun hl hx => ⟨?_, fun d => ?_⟩, fun hl amount reference => ?_⟩
    · refine serve_site_answered s _ _ hl hal ?_
      simp only [handleStopSession, State.frameEnd_sessions, hx]
      rfl
    · refine serve_site_answered s _ _ hl hal ?_
      simp only [handleSetDeparture, State.frameEnd_sessions, hx]
      rfl
    · intro run fits known
      have owner : ∀ (v : State) status body, handleLinkPurchase (s.frameEnd l)
          { session := n, amount := amount, reference := reference } =
            { state := v.frameEnd l, status := status, body := body } → run = .next (v.replied l 0x27#8 tag status body) :=
        fun v status body => serve_owner v status body hl (fun _ => rfl) hal fun _ => rfl
      have hin : purchaseInRange { session := n, amount := amount, reference := reference } = true ↔ fits :=
        purchaseInRange_iff
      have hknown : receiptKnown (s.frameEnd l) n = true ↔ known := receiptKnown_iff
      refine ⟨fun hf => ?_, fun hf hx hk => ?_, fun hf hx hk => ?_⟩
      · exact owner s .outOfRange [] (if_neg (mt hin.1 hf))
      · refine owner s .tooLate [] ?_
        simp only [handleLinkPurchase, if_pos (hin.2 hf), State.frameEnd_sessions, hx, if_pos (hknown.2 hk)]
        rfl
      · refine owner s .notFound [] ?_
        simp only [handleLinkPurchase, if_pos (hin.2 hf), State.frameEnd_sessions, hx, if_neg (mt hknown.1 hk)]
        rfl

end Sys2Proof.Machine

namespace Sys2Proof.Machine

/-! ## Timers of a session (R11, R14) -/

theorem State.serveWaiting_nil {s : State} (h : s.sessions.waiting = []) : s.serveWaiting = s := by
  simp only [State.serveWaiting, h]

/-- The state of a session abandoned, before its entry serves the wait list. -/
theorem State.abandon_eq (s : State) (x : Session) (st : PortState) :
    s.abandon x st = ({ s with
      links := s.links.raise .sessionAbandoned x.number
      sessions := { s.sessions.withPortState x.port st with
        table := s.sessions.table.filter fun y => y.number != x.number }
      events := { s.events with chargerTargets := s.events.chargerTargets ++
        [{ port := x.port, mode := if st = .inSession then .pause else .lockout, setpoint := 0 }] } } : State).serveWaiting :=
  rfl

/-- Settles O20: each timer's command on the session found, in the one state in which it acts. -/
theorem sessionTimersExpire : Obligations.SessionTimersExpire := by
  intro s x expiry hx abandoned
  have timeout : x.state = .plugged → x.authorizationTimer = some expiry →
      exec (.authorizationTimeout x.number) s = .next abandoned.serveWaiting.settle := fun hst ht => by
    show execAuthorizationTimeout x.number s = _
    simp only [execAuthorizationTimeout, hx, hst, ht, State.abandon_eq]
    rfl
  refine ⟨timeout, fun hst ht hw h1 h2 => ?_, fun hst ht => ?_, fun hst ht => ?_⟩
  · have hserve : abandoned.serveWaiting = abandoned := State.serveWaiting_nil hw
    have hrec : ∀ p, abandoned.settle.sessions.record p =
        if p = x.port then { s.sessions.record x.port with state := some .blocked } else s.sessions.record p :=
      fun p => s.sessions.record_setRecord x.port p _ h1 h2
    refine ⟨abandoned.settle, by rw [timeout hst ht, hserve], rfl, rfl, ?_, fun p hp => ?_⟩
    · rw [hrec, if_pos rfl]
    · rw [hrec, if_neg hp]
  · have acts : exec (.dormantTimeout x.number) s =
        done ((s.reach expiry).transition x.number fun y => { y with state := .dormant }) := by
      show execDormantTimeout x.number s = _
      simp only [execDormantTimeout, hx, hst, ht]
    rw [acts, State.transition_const (s.reach expiry) x _ hx]
    rfl
  · show execIdleSecondTick x.number s = _
    simp only [execIdleSecondTick, hx, hst, ht]
    rfl

/-! ## Results of the allocator (R13, R63) -/

/-- Whether an entry makes a session of the table URGENT. -/
def CandidateEntry.makesUrgent (table : List Session) (e : CandidateEntry) : Bool :=
  table.any fun x => x.number == e.session && x.port == e.port && x.state == .active && x.cls != .urgent && e.cls == .urgent

/-- The record of a session after an entry. -/
def Session.afterEntry (e : CandidateEntry) (x : Session) : Session := if e.appliesTo x then x.takeEntry e else x

theorem Session.afterEntry_number (e : CandidateEntry) (x : Session) : (x.afterEntry e).number = x.number := by
  unfold Session.afterEntry; split <;> rfl

/-- With distinct numbers, the session found is the one of its number. -/
theorem eq_of_find {c : SessionController} {x y : Session} {n : Nat} (hn : (c.table.map Session.number).Nodup)
    (hx : c.find n = some x) (hy : y ∈ c.table) (h : y.number = n) : y = x := by
  obtain ⟨hx, he⟩ := find_spec hx
  exact List.inj_on_of_nodup_map hn hy hx (h.trans he.symm)

theorem CandidateEntry.appliesTo_iff {e : CandidateEntry} {x : Session} :
    e.appliesTo x = true ↔ x.number = e.session ∧ x.port = e.port ∧ x.state = .active := by
  simp [CandidateEntry.appliesTo]

theorem CandidateEntry.makesUrgent_iff {table : List Session} {e : CandidateEntry} : e.makesUrgent table = true ↔
    ∃ x ∈ table, e.appliesTo x = true ∧ x.cls ≠ .urgent ∧ e.cls = .urgent := by
  simp [CandidateEntry.makesUrgent, CandidateEntry.appliesTo_iff, and_assoc]

/-- One entry: the session it names, and its notice. -/
theorem State.takeEntry_eq {s : State} (e : CandidateEntry) (hn : (s.sessions.table.map Session.number).Nodup) :
    s.takeEntry e = { s with
      links := if e.makesUrgent s.sessions.table then s.links.raise .urgentSession e.session else s.links
      sessions := { s.sessions with table := s.sessions.table.map (Session.afterEntry e) } } := by
  have untouched : (∀ y ∈ s.sessions.table, e.appliesTo y = false) → s = { s with
      links := if e.makesUrgent s.sessions.table then s.links.raise .urgentSession e.session else s.links
      sessions := { s.sessions with table := s.sessions.table.map (Session.afterEntry e) } } := fun h => by
    have hu : ¬ e.makesUrgent s.sessions.table = true := by
      rw [CandidateEntry.makesUrgent_iff]
      rintro ⟨y, hy, ha, -⟩
      simp [h y hy] at ha
    have ht : s.sessions.table.map (Session.afterEntry e) = s.sessions.table :=
      (List.map_congr_left fun y hy => by rw [Session.afterEntry, if_neg (by simp [h y hy])]; rfl).trans (List.map_id _)
    rw [if_neg hu, ht]
  unfold State.takeEntry
  cases hx : s.sessions.find e.session with
  | none =>
    refine untouched fun y hy => Bool.eq_false_iff.2 fun ha => ?_
    have : ¬ (y.number == e.session) = true := List.find?_eq_none.1 hx y hy
    exact this (by simpa using (CandidateEntry.appliesTo_iff.1 ha).1)
  | some x =>
    have only : ∀ y ∈ s.sessions.table, y.number = e.session → y = x := fun y hy => eq_of_find hn hx hy
    by_cases ha : e.appliesTo x = true
    · have ht : s.sessions.table.map (Session.afterEntry e) = (s.sessions.update e.session fun y => y.takeEntry e).table := by
        refine List.map_congr_left fun y hy => ?_
        by_cases hy' : y.number = e.session
        · rw [only y hy hy', Session.afterEntry, if_pos ha, if_pos (find_spec hx).2]
        · rw [Session.afterEntry, if_neg hy', if_neg fun h => hy' (CandidateEntry.appliesTo_iff.1 h).1]
      have hu : e.makesUrgent s.sessions.table = true ↔ x.cls ≠ .urgent ∧ e.cls = .urgent := by
        rw [CandidateEntry.makesUrgent_iff]
        refine ⟨fun ⟨y, hy, hay, h⟩ => only y hy (CandidateEntry.appliesTo_iff.1 hay).1 ▸ h,
          fun h => ⟨x, (find_spec hx).1, ha, h⟩⟩
      simp only [ha, if_true, State.noticeUrgent, hu, ht]
      split <;> rfl
    · simp only [ha]
      refine untouched fun y hy => Bool.eq_false_iff.2 fun h => ha ?_
      exact only y hy (CandidateEntry.appliesTo_iff.1 h).1 ▸ h

/-- The record of a session after the entries of a result. -/
def Session.afterEntries (es : List CandidateEntry) (x : Session) : Session :=
  match es.find? fun e => e.appliesTo x with
  | none => x
  | some e => x.takeEntry e

/-- Entries of distinct sessions, one after the other. -/
theorem State.foldl_takeEntry {s : State} (es : List CandidateEntry) (hn : (s.sessions.table.map Session.number).Nodup)
    (he : (es.map CandidateEntry.session).Nodup) :
    es.foldl State.takeEntry s = { s with
      links := (es.filter (CandidateEntry.makesUrgent s.sessions.table)).foldl
        (fun c e => c.raise .urgentSession e.session) s.links
      sessions := { s.sessions with table := s.sessions.table.map (Session.afterEntries es) } } := by
  induction es generalizing s with
  | nil => exact (by rw [show s.sessions.table.map (Session.afterEntries []) = s.sessions.table from List.map_id _]; rfl)
  | cons e es ih =>
    rw [List.map_cons, List.nodup_cons] at he
    have other : ∀ f ∈ es, f.session ≠ e.session := fun f hf h => he.1 (List.mem_map.2 ⟨f, hf, h⟩)
    have hn' : ((s.sessions.table.map (Session.afterEntry e)).map Session.number).Nodup := by
      rwa [List.map_map, show Session.number ∘ Session.afterEntry e = Session.number from
        funext (Session.afterEntry_number e)]
    have hurgent : es.filter (CandidateEntry.makesUrgent (s.sessions.table.map (Session.afterEntry e))) =
        es.filter (CandidateEntry.makesUrgent s.sessions.table) := by
      refine List.filter_congr fun f hf => ?_
      rw [CandidateEntry.makesUrgent, CandidateEntry.makesUrgent, List.any_map]
      congr 1
      funext x
      simp only [Function.comp_apply, Session.afterEntry]
      split
      · rename_i ha
        have : (x.number == f.session) = false := by
          simpa [(CandidateEntry.appliesTo_iff.1 ha).1] using (other f hf).symm
        simp only [Session.takeEntry, this, Bool.false_and]
      · rfl
    have htable : (s.sessions.table.map (Session.afterEntry e)).map (Session.afterEntries es) =
        s.sessions.table.map (Session.afterEntries (e :: es)) := by
      rw [List.map_map]
      refine List.map_congr_left fun x _ => ?_
      simp only [Function.comp_apply, Session.afterEntries, List.find?_cons, Session.afterEntry]
      by_cases ha : e.appliesTo x = true
      · have : es.find? (fun f => f.appliesTo (x.takeEntry e)) = none := List.find?_eq_none.2 fun f hf h =>
          other f hf ((CandidateEntry.appliesTo_iff.1 h).1.symm.trans (CandidateEntry.appliesTo_iff.1 ha).1)
        simp [ha, this]
      · simp [ha]
    rw [List.foldl_cons, State.takeEntry_eq e hn, ih hn' he.2]
    simp only [hurgent, htable, List.filter_cons]
    split <;> rfl

/-- Whether an entry names a session and its port. -/
def CandidateEntry.names (x : Session) (e : CandidateEntry) : Bool := e.session == x.number && e.port == x.port

theorem CandidateEntry.appliesTo_active {x : Session} (h : x.state = .active) :
    (fun e : CandidateEntry => e.appliesTo x) = CandidateEntry.names x := by
  funext e
  rw [Bool.eq_iff_iff, CandidateEntry.appliesTo_iff, CandidateEntry.names, Bool.and_eq_true, beq_iff_eq, beq_iff_eq]
  exact ⟨fun ⟨hn, hp, _⟩ => ⟨hn.symm, hp.symm⟩, fun ⟨hn, hp⟩ => ⟨hn.symm, hp.symm, h⟩⟩

/-- The record of a session after a result. -/
theorem Session.unnamed_afterEntries (es : List CandidateEntry) (x : Session) :
    (x.afterEntries es).unnamed es =
      if x.state ≠ .active then x
      else match es.find? (CandidateEntry.names x) with
        | none => { x with allocation := 0 }
        | some e => x.takeEntry e := by
  by_cases hst : x.state = .active
  · rw [if_neg (not_not.2 hst), Session.afterEntries, CandidateEntry.appliesTo_active hst]
    cases hf : es.find? (CandidateEntry.names x) with
    | none =>
      refine if_pos ⟨hst, ?_⟩
      rw [CandidateEntry.appliesTo_active hst, List.any_eq_false]
      exact List.find?_eq_none.1 hf
    | some e =>
      refine if_neg fun h => ?_
      have : es.any (fun f => f.appliesTo x) = true := by
        rw [CandidateEntry.appliesTo_active hst, List.any_eq_true]
        exact ⟨e, List.mem_of_find?_eq_some hf, List.find?_some hf⟩
      exact Bool.noConfusion (this.symm.trans h.2)
  · have hnone : es.find? (fun e => e.appliesTo x) = none := List.find?_eq_none.2 fun e _ h =>
      hst (CandidateEntry.appliesTo_iff.1 h).2.2
    rw [if_pos hst, Session.afterEntries, hnone, Session.unnamed, if_neg fun h => hst h.1]

/-- Settles O21: the entries one after the other, then the sessions without one. -/
theorem resultIsAppliedEntryByEntry : Obligations.ResultIsAppliedEntryByEntry := by
  intro s r rest hm hn he
  have htake := State.foldl_takeEntry (s := s.setEvents { s.events with allocatorMessages := rest }) r.entries hn he
  refine ⟨((s.setEvents { s.events with allocatorMessages := rest }).takeResult r).settle, ?_, ?_, ?_⟩
  · show execAllocationResultSessions s = _
    simp only [execAllocationResultSessions, hm]
    rfl
  · rw [State.takeResult, htake]
    rfl
  · rw [State.takeResult, htake]
    show (s.sessions.table.map _).map _ = _
    rw [List.map_map]
    exact List.map_congr_left fun x _ => Session.unnamed_afterEntries r.entries x

end Sys2Proof.Machine

namespace Sys2Proof.Machine

/-! ## Hold reasons that follow the site (R15, R16) -/

/-- With distinct numbers, each session of the table is found under its number. -/
theorem find_of_mem {c : SessionController} {x : Session} (hn : (c.table.map Session.number).Nodup) (hx : x ∈ c.table) :
    c.find x.number = some x := by
  obtain ⟨y, hy⟩ : ∃ y, c.find x.number = some y :=
    Option.isSome_iff_exists.1 (List.find?_isSome.2 ⟨x, hx, by simp⟩)
  rw [hy, eq_of_find hn hy hx rfl]

/-- A change of every session of a list that leaves numbers and ports, one transition after the other. -/
theorem State.foldl_transition {s : State} {f : Session → Session} (xs : List Session)
    (hf : ∀ x, (f x).number = x.number ∧ (f x).port = x.port) (hsub : ∀ x ∈ xs, x ∈ s.sessions.table)
    (hn : (s.sessions.table.map Session.number).Nodup) (hxs : (xs.map Session.number).Nodup) :
    (xs.map Session.number).foldl (fun s n => s.transition n f) s = { s with
      links := (xs.filter fun x => x.state != (f x).state).foldl (fun c x => c.raise .sessionChange x.number) s.links
      sessions := { s.sessions with table := s.sessions.table.map fun x =>
        if x.number ∈ (xs.map Session.number) then carryTimers s.runTime s.sessions.dormantDelay x (f x) else x }
      events := { s.events with
        chargerTargets := s.events.chargerTargets ++ (xs.filter fun x => x.state == .active && (f x).state != .active).map
          fun x => { port := x.port, mode := .pause, setpoint := 0 }
        earlyRequests := s.events.earlyRequests + (xs.filter fun x => x.isCandidate != (f x).isCandidate).length } } := by
  induction xs generalizing s with
  | nil => simp
  | cons x xs ih =>
    rw [List.map_cons, List.nodup_cons] at hxs
    obtain ⟨hx, hsub⟩ := List.forall_mem_cons.1 hsub
    have hfind : s.sessions.find x.number = some x := find_of_mem hn hx
    have only : ∀ y ∈ s.sessions.table, y.number = x.number → y = x := fun y hy => eq_of_find hn hfind hy
    obtain ⟨hnum, hport⟩ := hf x
    have hupdate : ∀ y ∈ s.sessions.table,
        (if y.number = x.number then carryTimers s.runTime s.sessions.dormantDelay x (f x) else y).number = y.number :=
      fun y hy => by
        split
        · rename_i e; exact hnum.trans e.symm
        · rfl
    have htable : (s.sessions.table.map fun y =>
          if y.number = x.number then carryTimers s.runTime s.sessions.dormantDelay x (f x) else y).map (fun y =>
          if y.number ∈ (xs.map Session.number) then carryTimers s.runTime s.sessions.dormantDelay y (f y) else y) =
        s.sessions.table.map fun y => if y.number ∈ ((x :: xs).map Session.number)
          then carryTimers s.runTime s.sessions.dormantDelay y (f y) else y := by
      rw [List.map_map]
      refine List.map_congr_left fun y hy => ?_
      rw [Function.comp_apply, hupdate y hy]
      simp only [List.map_cons, List.mem_cons]
      by_cases e : y.number = x.number
      · rw [only y hy e, if_neg hxs.1, if_pos rfl, if_pos (.inl rfl)]
      · simp only [e, if_false, false_or]
    have hlinks : ((x :: xs).filter fun x => x.state != (f x).state).foldl
          (fun c x => c.raise .sessionChange x.number) s.links =
        (xs.filter fun x => x.state != (f x).state).foldl (fun c x => c.raise .sessionChange x.number)
          (if x.state = (f x).state then s.links else s.links.raise .sessionChange (f x).number) := by
      rw [List.filter_cons, hnum]
      by_cases e : x.state = (f x).state
      · rw [if_pos e, if_neg (by simp [← e])]
      · rw [if_neg e, if_pos (by simpa using e), List.foldl_cons]
    have htargets : ((x :: xs).filter fun x => x.state == .active && (f x).state != .active).map
          (fun x => ({ port := x.port, mode := .pause, setpoint := 0 } : ChargerTarget)) =
        (if x.state = .active ∧ (f x).state ≠ .active then [{ port := (f x).port, mode := .pause, setpoint := 0 }] else []) ++
          (xs.filter fun x => x.state == .active && (f x).state != .active).map
            (fun x => ({ port := x.port, mode := .pause, setpoint := 0 } : ChargerTarget)) := by
      rw [List.filter_cons, hport]
      by_cases e : x.state = .active ∧ (f x).state ≠ .active
      · rw [if_pos e, if_pos (by simpa using e)]; rfl
      · rw [if_neg e, if_neg (by simpa using e)]; rfl
    have hrequests : ((x :: xs).filter fun x => x.isCandidate != (f x).isCandidate).length =
        (if x.isCandidate = (f x).isCandidate then 0 else 1) +
          (xs.filter fun x => x.isCandidate != (f x).isCandidate).length := by
      rw [List.filter_cons]
      by_cases e : x.isCandidate = (f x).isCandidate
      · rw [if_pos e, if_neg (by simp [← e]), Nat.zero_add]
      · rw [if_neg e, if_pos (by simpa using e), List.length_cons, Nat.add_comm]
    rw [hlinks, htargets, hrequests, ← htable, ← List.append_assoc, ← Nat.add_assoc]
    rw [List.map_cons, List.foldl_cons, State.transition_eq s f hfind]
    refine ih (fun y hy => ?_) ?_ hxs.2
    · exact List.mem_map.2 ⟨y, hsub y hy, if_neg fun e => hxs.1 (List.mem_map.2 ⟨y, hy, e⟩)⟩
    · show ((s.sessions.table.map _).map _).Nodup
      rw [List.map_map]
      exact Eq.mpr (congrArg List.Nodup (List.map_congr_left hupdate)) hn

/-- R15, R16: the record of a session with a reason added. -/
theorem Session.addHold_eq (x : Session) (r : HoldReason) :
    x.addHold r =
      if x.state = .plugged then { x with holds := x.holds.set r true }
      else if x.state = .active ∨ x.state = .dormant ∨ x.state = .held then
        { x with holds := x.holds.set r true, state := .held, flags := x.flags.meet r }
      else if x.state = .closing ∧ x.handedOver = false then { x with flags := x.flags.meet r }
      else x := by
  unfold Session.addHold
  cases h : x.state with
  | closing => cases x.handedOver <;> simp
  | _ => simp

/-- R15, R16: the record of a session with a reason removed. -/
theorem Session.removeHold_eq (x : Session) (r : HoldReason) :
    x.removeHold r =
      if x.state = .plugged then { x with holds := x.holds.set r false }
      else if x.state = .held then { x with
        holds := x.holds.set r false
        state := if (x.holds.set r false).island ∨ (x.holds.set r false).siteHold ∨ (x.holds.set r false).fault ∨
                    (x.holds.set r false).chargerLost then .held
                 else if 0 < x.demand then .active else .dormant }
      else x := by
  have hempty : (x.holds.set r false).isEmpty = true ↔ ¬ ((x.holds.set r false).island = true ∨
      (x.holds.set r false).siteHold = true ∨ (x.holds.set r false).fault = true ∨
      (x.holds.set r false).chargerLost = true) := by
    simp only [Holds.isEmpty]; grind
  unfold Session.removeHold
  cases h : x.state with
  | held =>
    simp only [hempty, reduceCtorEq, if_false, if_true]
    split <;> simp_all
  | _ => simp

/-- What a change of every session of the table brings with it. -/
def State.changeAll (s : State) (f : Session → Session) : State :=
  { s with
    links := (s.sessions.table.filter fun x => x.state != (f x).state).foldl
      (fun c x => c.raise .sessionChange x.number) s.links
    sessions := { s.sessions with
      table := s.sessions.table.map fun x => carryTimers s.runTime s.sessions.dormantDelay x (f x) }
    events := { s.events with
      chargerTargets := s.events.chargerTargets ++
        (s.sessions.table.filter fun x => x.state == .active && (f x).state != .active).map
          fun x => { port := x.port, mode := .pause, setpoint := 0 }
      earlyRequests := s.events.earlyRequests +
        (s.sessions.table.filter fun x => x.isCandidate != (f x).isCandidate).length } }

theorem State.transitionAll {s : State} {f : Session → Session} (hf : ∀ x, (f x).number = x.number ∧ (f x).port = x.port)
    (hn : (s.sessions.table.map Session.number).Nodup) :
    (s.sessions.table.map Session.number).foldl (fun s n => s.transition n f) s = s.changeAll f := by
  rw [State.foldl_transition _ hf (fun _ h => h) hn hn, State.changeAll]
  have htable : (s.sessions.table.map fun x => if x.number ∈ (s.sessions.table.map Session.number)
        then carryTimers s.runTime s.sessions.dormantDelay x (f x) else x) =
      s.sessions.table.map fun x => carryTimers s.runTime s.sessions.dormantDelay x (f x) :=
    List.map_congr_left fun x hx => if_pos (List.mem_map_of_mem hx)
  rw [htable]

theorem Session.isCandidate_eq (x : Session) : x.isCandidate = (x.state == .active && decide (0 < x.demand)) := by
  rw [Session.isCandidate, Bool.decide_and]
  rfl

/-- With distinct numbers, the session that holds a port is found under its number. -/
theorem find_of_holder {c : SessionController} {p : Nat} {x : Session} (hn : (c.table.map Session.number).Nodup)
    (hx : c.holder p = some x) : c.find x.number = some x :=
  find_of_mem hn (holder_spec hx).1

/-- Settles O22: the whole table by `State.transitionAll`, one session by the transition of `State.holdPort`. -/
theorem holdReasonsFollowTheSite : Obligations.HoldReasonsFollowTheSite := by
  intro s hn added removed carried candidate every
  have hadd : ∀ x : Session, x.addHold .island =
      added (fun h => { h with island := true }) (fun f => { f with gridLost := true }) x := fun x => x.addHold_eq .island
  have hremove : ∀ x : Session, x.removeHold .island = removed (fun h => { h with island := false }) x :=
    fun x => x.removeHold_eq .island
  refine ⟨fun h => ?_, fun c rest h => ?_, fun p h => ?_, fun h rest hh => ⟨fun hx => ?_, fun x hx => ?_⟩⟩
  · show execSiteStateChangeSessions s = _
    simp only [execSiteStateChangeSessions, h]
    rfl
  · show execSiteStateChangeSessions s = _
    have all : ∀ (f g : Session → Session), (∀ x, f x = g x) → (∀ x : Session, x.Goes (f x)) →
        ((s.sessions.table.map Session.number).foldl (fun s n => s.transition n f)
          (s.setEvents { s.events with siteToSessions := rest })).settle = every g rest := fun f g hfg hf => by
      obtain rfl : f = g := funext hfg
      have := State.transitionAll (s := s.setEvents { s.events with siteToSessions := rest }) (f := f)
        (fun x => ⟨(hf x).number, (hf x).port⟩) hn
      simp only [State.changeAll, Session.isCandidate_eq] at this
      exact congrArg State.settle this
    simp only [execSiteStateChangeSessions, h]
    refine congrArg Host.Outcome.next ?_
    by_cases hi : c.after = .island
    · rw [if_pos hi, State.followSite, if_pos hi]
      exact all _ _ hadd fun x => x.goes_addHold _
    · by_cases hr : c.before = .restoring ∧ c.after = .normal
      · rw [if_neg hi, if_pos hr, State.followSite, if_neg hi, if_pos hr]
        exact all _ _ hremove fun x => x.goes_removeHold _
      · rw [if_neg hi, if_neg hr, State.followSite, if_neg hi, if_neg hr]
        rfl
  · show execChargerHealthChange p s = _
    simp only [execChargerHealthChange, h]
    rfl
  · show execChargerHealthChange h.unit s = _
    simp only [execChargerHealthChange, hh, State.holdPort, State.setEvents_sessions, hx]
    rfl
  · show execChargerHealthChange h.unit s = _
    simp only [execChargerHealthChange, hh]
    rw [State.holdPort_eq (s := s.setEvents { s.events with chargerHealth := rest }) _ _ hx (find_of_holder hn hx)]
    refine congrArg (fun y => done ((s.setEvents { s.events with chargerHealth := rest }).transition x.number fun _ => y)) ?_
    by_cases hl : h.after = .lost
    · rw [if_pos hl, if_pos (by simp [hl]), Session.addHold_eq]
      rfl
    · rw [if_neg hl, if_neg (by simpa using hl), Session.removeHold_eq]
      rfl

/-! ## Activation (R10, R130) -/

/-- A session in PLUGGED on a free-vend port. -/
def State.vends (s : State) (x : Session) : Bool :=
  decide (x.state = .plugged ∧ (s.sessions.entry x.port).map PortEntry.freeVend = some true)

/-- The record of a session authorized without a request. -/
def State.vended (s : State) (slot : Nat) (x : Session) : Session :=
  carryTimers s.runTime s.sessions.dormantDelay x
    (x.authorize .free none none slot (s.metering.meter x.port).last s.links.clock)

theorem State.freeVend_inactive {s : State} {n : Nat} (h : s.store.active = none) : s.freeVend n = s := by
  unfold State.freeVend
  split
  · rfl
  · split
    · simp only [State.authorizeSession, h]
    · rfl

theorem State.foldl_freeVend_inactive {s : State} (ns : List Nat) (h : s.store.active = none) :
    ns.foldl State.freeVend s = s := by
  induction ns with
  | nil => rfl
  | cons n ns ih => rw [List.foldl_cons, State.freeVend_inactive h, ih]

theorem State.vended_number (s : State) (slot : Nat) (x : Session) : (s.vended slot x).number = x.number :=
  (x.authorize_spec _ _ _ _ _ _).1.1

/-- The table with the free-vend sessions of the numbers given authorized. -/
def State.vendedTable (s : State) (slot : Nat) (ns : List Nat) : List Session :=
  s.sessions.table.map fun x => if x.number ∈ ns ∧ s.vends x = true then s.vended slot x else x

/-- The state with the free-vend sessions of the numbers given authorized, `k` of them, but for notices and early-round
requests. -/
def State.afterVending (s : State) (slot : Nat) (ns : List Nat) (k : Nat) (c : LinkController) (early : Nat) : State :=
  { s with
    links := c
    sessions := { s.sessions with table := s.vendedTable slot ns }
    store := (fun t => t.bind slot)^[k] s.store
    events := { s.events with earlyRequests := early } }

theorem State.vendedTable_number (s : State) (slot : Nat) (ns : List Nat) :
    (s.vendedTable slot ns).map Session.number = s.sessions.table.map Session.number := by
  rw [State.vendedTable, List.map_map]
  refine List.map_congr_left fun y _ => ?_
  rw [Function.comp_apply]
  split
  · exact s.vended_number slot y
  · rfl

/-- One vending after another. -/
theorem State.afterVending_afterVending {s : State} {slot n : Nat} {ns : List Nat} {c : LinkController} (hn : n ∉ ns)
    (hc : c.clock = s.links.clock) (k m early e : Nat) (d : LinkController) :
    (s.afterVending slot [n] k c early).afterVending slot ns m d e = s.afterVending slot (n :: ns) (m + k) d e := by
  have hvended : ∀ x, (s.afterVending slot [n] k c early).vended slot x = s.vended slot x := fun x => by
    show carryTimers _ _ _ (x.authorize _ _ _ _ _ c.clock) = _
    rw [hc]
    rfl
  have htable : (s.afterVending slot [n] k c early).vendedTable slot ns = s.vendedTable slot (n :: ns) := by
    show (s.vendedTable slot [n]).map _ = _
    rw [State.vendedTable, State.vendedTable, List.map_map]
    refine List.map_congr_left fun y _ => ?_
    have hvends : ∀ x, (s.afterVending slot [n] k c early).vends x = s.vends x := fun _ => rfl
    simp only [Function.comp_apply, hvended, hvends, List.mem_cons, List.not_mem_nil, or_false]
    have hstep : (if y.number = n ∧ s.vends y = true then s.vended slot y else y).number = y.number := by
      split
      · exact s.vended_number slot y
      · rfl
    by_cases e : y.number = n
    · rw [if_neg fun h => hn (e ▸ hstep ▸ h.1)]
      exact if_congr (by simp [e]) rfl rfl
    · simp only [e, false_and, if_false, false_or]
  rw [State.afterVending, htable]
  simp only [State.afterVending, Function.iterate_add_apply]

/-- One session: bound and authorized if it vends free, and no more than a notice and an early-round request with it. -/
theorem State.freeVend_eq {s : State} {slot : Nat} {x : Session} (hn : (s.sessions.table.map Session.number).Nodup)
    (ha : s.store.active = some slot) (hx : x ∈ s.sessions.table) :
    ∃ c early, c.clock = s.links.clock ∧
      s.freeVend x.number = s.afterVending slot [x.number] (if s.vends x = true then 1 else 0) c early := by
  have hfind := find_of_mem hn hx
  have only : ∀ y ∈ s.sessions.table, y.number = x.number → y = x := fun y hy => eq_of_find hn hfind hy
  by_cases hv : x.state = .plugged ∧ (s.sessions.entry x.port).map PortEntry.freeVend = some true
  · have hvends : s.vends x = true := decide_eq_true hv
    have htable : s.vendedTable slot [x.number] = (s.sessions.update x.number fun _ => s.vended slot x).table := by
      refine List.map_congr_left fun y hy => ?_
      by_cases e : y.number = x.number
      · rw [only y hy e, if_pos rfl, if_pos ⟨by simp, hvends⟩]
      · rw [if_neg e, if_neg (by simp [e])]
    have hfv : s.freeVend x.number = s.authorizeSession x.number .free none none := by
      simp only [State.freeVend, hfind]
      exact if_pos hv
    have hstay : ∀ (y : Session) (t : ChargerTarget), (if x.state = .active ∧ y.state ≠ .active then [t] else []) = [] :=
      fun y t => if_neg (by simp [hv.1])
    have hafter : ∀ c early, s.afterVending slot [x.number] (if s.vends x = true then 1 else 0) c early = { s with
        links := c
        sessions := s.sessions.update x.number fun _ => s.vended slot x
        store := s.store.bind slot
        events := { s.events with earlyRequests := early } } := fun c early => by
      rw [State.afterVending, htable, if_pos hvends]; rfl
    rw [hfv, State.authorizeSession_eq _ _ _ ha hfind, State.transition_eq (s.setStore (s.store.bind slot)) _ hfind,
      hstay, List.append_nil]
    refine ⟨_, _, ?_, (hafter _ _).symm⟩
    split <;> rfl
  · have hvends : s.vends x = false := decide_eq_false hv
    have htable : s.vendedTable slot [x.number] = s.sessions.table :=
      (List.map_congr_left fun y hy => if_neg fun ⟨hy', hvy⟩ => by
        rw [only y hy (by simpa using hy'), hvends] at hvy
        cases hvy).trans (List.map_id _)
    refine ⟨s.links, s.events.earlyRequests, rfl, ?_⟩
    rw [State.afterVending, htable, if_neg (by simp [hvends])]
    simp only [State.freeVend, hfind]
    exact if_neg hv

@[simp] theorem TariffStore.bind_iterate_active (t : TariffStore) (slot k : Nat) :
    ((fun t : TariffStore => t.bind slot)^[k] t).active = t.active := by
  induction k with
  | zero => rfl
  | succ k ih => rw [Function.iterate_succ_apply', TariffStore.bind_active, ih]

/-- The sessions of a list, one after the other. -/
theorem State.foldl_freeVend {s : State} {slot : Nat} (xs : List Session) (hsub : ∀ x ∈ xs, x ∈ s.sessions.table)
    (hn : (s.sessions.table.map Session.number).Nodup) (hxs : (xs.map Session.number).Nodup)
    (ha : s.store.active = some slot) :
    ∃ c early, c.clock = s.links.clock ∧ (xs.map Session.number).foldl State.freeVend s =
      s.afterVending slot (xs.map Session.number) (xs.filter s.vends).length c early := by
  induction xs generalizing s with
  | nil => exact ⟨s.links, s.events.earlyRequests, rfl, by simp [State.afterVending, State.vendedTable]⟩
  | cons x xs ih =>
    rw [List.map_cons, List.nodup_cons] at hxs
    obtain ⟨hx, hsub⟩ := List.forall_mem_cons.1 hsub
    obtain ⟨c, early, hc, he⟩ := State.freeVend_eq hn ha hx
    have other : ∀ y ∈ xs, y ∈ s.vendedTable slot [x.number] := fun y hy =>
      List.mem_map.2 ⟨y, hsub y hy, if_neg fun h => hxs.1 (List.mem_map.2 ⟨y, hy, by simpa using h.1⟩)⟩
    obtain ⟨d, e, hd, hfold⟩ := ih (s := s.afterVending slot [x.number] (if s.vends x = true then 1 else 0) c early) other
      ((s.vendedTable_number slot _).symm ▸ hn) hxs.2 ((TariffStore.bind_iterate_active ..).trans ha)
    refine ⟨d, e, hd.trans hc, ?_⟩
    rw [List.map_cons, List.foldl_cons, he, hfold, State.afterVending_afterVending hxs.1 hc, List.filter_cons]
    congr 1
    by_cases hv : s.vends x = true
    · rw [if_pos hv, if_pos hv]; rfl
    · rw [if_neg hv, if_neg hv]; rfl

theorem TariffStore.bind_iterate (t : TariffStore) {slot : Nat} (h : slot < 8) (k : Nat) :
    (fun t : TariffStore => t.bind slot)^[k] t = { t with slots := ((fun t : TariffStore => t.bind slot)^[k] t).slots } ∧
      ∀ j, ((fun t : TariffStore => t.bind slot)^[k] t).slot j =
        if j = slot then { t.slot slot with uses := (t.slot slot).uses + k } else t.slot j := by
  induction k with
  | zero => exact ⟨rfl, fun j => by split <;> [subst j; skip] <;> rfl⟩
  | succ k ih =>
    obtain ⟨hframe, hslot⟩ := ih
    rw [Function.iterate_succ_apply']
    refine ⟨?_, fun j => ?_⟩
    · rw [hframe]; rfl
    · rw [TariffStore.bind, TariffStore.slot_setSlot _ _ _ _ h, hslot, hslot, if_pos rfl]
      split <;> rfl

/-- Settles O23: the free-vend sessions one after the other, then what the table, the slots and the records hold. -/
theorem activationAuthorizesFreeVendSessions : Obligations.ActivationAuthorizesFreeVendSessions := by
  intro s k rest hk
  have acts : exec .activationEvent s = done ((s.sessions.table.map Session.number).foldl State.freeVend
      (s.setEvents { s.events with activations := rest })) := by
    show execActivationEvent s = _
    simp only [execActivationEvent, hk]
  refine ⟨fun ha => ?_, fun slot hn hlt ha => ?_⟩
  · exact acts.trans (congrArg done (State.foldl_freeVend_inactive _ ha))
  · intro freeVend
    obtain ⟨c, early, hc, he⟩ := State.foldl_freeVend (s := s.setEvents { s.events with activations := rest })
      s.sessions.table (fun _ h => h) hn hn ha
    obtain ⟨hframe, hslots⟩ := s.store.bind_iterate hlt (s.sessions.table.filter freeVend).length
    refine ⟨_, by rw [acts, he]; rfl, ?_, hslots, State.vendedTable_number .., fun x hx => ⟨fun hv => ?_, fun hv => ?_⟩⟩
    · exact congrArg (State.setStore (State.settle ((s.setEvents { s.events with activations := rest }).afterVending slot
        (s.sessions.table.map Session.number) (s.sessions.table.filter freeVend).length c early))) hframe
    · refine List.mem_map.2 ⟨x, hx, if_neg fun h => ?_⟩
      exact Bool.noConfusion (hv.symm.trans h.2)
    · refine ⟨_, List.mem_map.2 ⟨x, hx, if_pos ⟨List.mem_map_of_mem hx, hv⟩⟩, State.vended_number .., ?_⟩
      rw [State.vended, Session.authorize_eq]
      exact ⟨rfl, rfl, rfl, rfl, rfl, rfl, rfl, rfl, rfl⟩

end Sys2Proof.Machine

namespace Sys2Proof.Machine

/-! ## A session opened (R3 to R7, R10) -/

/-- The session numbered as R6 asks, with its port IN_SESSION, in the state whose table holds `y` for it. -/
def State.holding (u : State) (n p : Nat) (y : Session) : State :=
  { u with
    links := u.links.raise .sessionChange n
    sessions := { u.sessions.withPortState p .inSession with table := u.sessions.table ++ [y], counter := nextNumber n }
    events := { u.events with
      chargerTargets := u.events.chargerTargets ++ [{ port := p, mode := .pause, setpoint := 0 }] } }

theorem State.openSession_eq (u : State) (p : Nat) :
    u.openSession p = u.holding (freeNumber u.sessions (Config.tableCapacity + 1) u.sessions.counter) p
      (newSession u (freeNumber u.sessions (Config.tableCapacity + 1) u.sessions.counter) p) := rfl

theorem State.find_holding {u : State} {n : Nat} (p : Nat) {y : Session} (hn : u.sessions.find n = none)
    (hy : y.number = n) : (u.holding n p y).sessions.find n = some y := by
  show List.find? _ (u.sessions.table ++ [y]) = _
  rw [List.find?_append, show u.sessions.table.find? (fun x => x.number == n) = none from hn]
  simp [hy]

/-- The record of a new session replaced: the table before it has none of its number. -/
theorem State.update_holding {u : State} {n : Nat} (p : Nat) {x : Session} (y : Session) (hn : u.sessions.find n = none)
    (hx : x.number = n) :
    (u.holding n p x).sessions.update n (fun _ => y) = (u.holding n p y).sessions := by
  have htable : (u.sessions.table ++ [x]).map (fun z => if z.number = n then y else z) = u.sessions.table ++ [y] := by
    have hkeep : ∀ z ∈ u.sessions.table, (if z.number = n then y else z) = z := fun z hz =>
      if_neg fun e => List.find?_eq_none.1 hn z hz (by simpa using e)
    rw [List.map_append, List.map_congr_left hkeep, List.map_id', List.map_singleton, if_pos hx]
  exact congrArg (fun t => { (u.holding n p x).sessions with table := t }) htable

/-- Without a free-vend port or an active slot, a new session stays as it is. -/
theorem State.freeVend_holding_none {u : State} {n p : Nat} {x : Session} {e : PortEntry} (hn : u.sessions.find n = none)
    (hx : x.number = n) (hp : x.port = p) (he : u.sessions.entry p = some e)
    (h : e.freeVend = false ∨ u.store.active = none) : (u.holding n p x).freeVend n = u.holding n p x := by
  obtain h | h := h
  · have hentry : ((u.holding n p x).sessions.entry x.port).map PortEntry.freeVend = some false := by
      rw [hp]
      exact (congrArg (Option.map PortEntry.freeVend) he).trans (by rw [Option.map_some, h])
    simp only [State.freeVend, State.find_holding p hn hx, hentry]
    exact if_neg (by simp)
  · exact State.freeVend_inactive h

/-- On a free-vend port with an active slot, a new session is authorized at once. -/
theorem State.freeVend_holding {u : State} {n p slot : Nat} {x : Session} {e : PortEntry} (hn : u.sessions.find n = none)
    (hx : x.number = n) (hp : x.port = p) (hst : x.state = .plugged) (he : u.sessions.entry p = some e)
    (hv : e.freeVend = true) (ha : u.store.active = some slot) :
    (u.holding n p x).freeVend n = { u.holding n p (u.vended slot x) with
      links := (u.links.raise .sessionChange n).raise .sessionChange n
      store := u.store.bind slot
      events := { (u.holding n p x).events with
        earlyRequests := u.events.earlyRequests + if (u.vended slot x).isCandidate then 1 else 0 } } := by
  have hfind := State.find_holding p hn hx
  have hentry : ((u.holding n p x).sessions.entry x.port).map PortEntry.freeVend = some true := by
    rw [hp]
    exact (congrArg (Option.map PortEntry.freeVend) he).trans (by rw [Option.map_some, hv])
  have hvend : (u.holding n p x).freeVend n = (u.holding n p x).authorizeSession n .free none none := by
    simp only [State.freeVend, hfind]
    exact if_pos ⟨hst, hentry⟩
  obtain ⟨⟨hnum, -⟩, hstate⟩ :=
    x.authorize_spec .free none none slot (u.metering.meter x.port).last u.links.clock
  have hne : ¬ x.state = (x.authorize .free none none slot (u.metering.meter x.port).last u.links.clock).state := by
    obtain h | h := hstate <;> rw [hst, h] <;> decide
  have hrequest : (if x.isCandidate =
      (x.authorize .free none none slot (u.metering.meter x.port).last u.links.clock).isCandidate then 0 else 1) =
      if (u.vended slot x).isCandidate = true then 1 else 0 := by
    show (if _ = (u.vended slot x).isCandidate then 0 else 1) = _
    rw [show x.isCandidate = false by simp [Session.isCandidate, hst]]
    cases (u.vended slot x).isCandidate <;> rfl
  have hstay : ∀ (y : Session) (t : ChargerTarget), (if x.state = .active ∧ y.state ≠ .active then [t] else []) = [] :=
    fun y t => if_neg (by simp [hst])
  have ht := State.transition_eq ((u.holding n p x).setStore (u.store.bind slot))
    (fun _ => x.authorize .free none none slot (u.metering.meter x.port).last u.links.clock) hfind
  rw [hvend, State.authorizeSession_eq (s := u.holding n p x) _ _ _ ha hfind]
  refine ht.trans ?_
  rw [if_neg hne, hrequest, hstay, List.append_nil, hnum, hx]
  have hupdate : (((u.holding n p x).setStore (u.store.bind slot)).sessions.update n fun _ =>
      carryTimers ((u.holding n p x).setStore (u.store.bind slot)).runTime
        ((u.holding n p x).setStore (u.store.bind slot)).sessions.dormantDelay x
        (x.authorize .free none none slot (u.metering.meter x.port).last u.links.clock)) =
      (u.holding n p (u.vended slot x)).sessions := State.update_holding p _ hn hx
  rw [hupdate]
  rfl

/-- The record of a new session, field by field. -/
theorem newSession_eq {u : State} {p : Nat} {e : PortEntry} (n : Nat) (he : u.sessions.entry p = some e) :
    newSession u n p =
      let record := u.sessions.record p
      let demand := match record.acceptance with
        | some a => if a ≤ 0 then 0 else min ((a.toNat + 99) / 100) e.ratedMax
        | none => 0
      let island := decide (u.balance.record.siteState = .island ∨ u.balance.record.siteState = .restoring)
      let lost := decide ((u.field.unit p).health = .lost)
      { number := n, port := p, state := .plugged
        holds := { island := island, siteHold := false, fault := record.fault, chargerLost := lost }
        customer := none, authorizer := none, slot := none, created := u.siteTime, authorized := none, ended := none
        departure := none, demand := demand, effMin := min e.minimum demand, allocation := 0, highest := 0, deferral := 0
        cls := .normal, meterStart := none, total := 0, solarAcc := 0, batteryAcc := 0, idle := 0, links := []
        flags := { clamped := false, estimated := false, timeUnset := !u.links.clock.isSet, gridLost := false
                   chargerLost := false, stopped := false }
        authorizationTimer := some (u.runTime + 1000 * u.sessions.authorizationTimeout), dormantTimer := none
        closingTimer := none, nextIdle := none, final := none, handedOver := false } := by
  have hdemand : u.sessions.demandAt p = match (u.sessions.record p).acceptance with
      | some a => if a ≤ 0 then 0 else min ((a.toNat + 99) / 100) e.ratedMax
      | none => 0 := by
    simp only [SessionController.demandAt, he]
    cases (u.sessions.record p).acceptance <;> rfl
  have hmin : ∀ d, u.sessions.effMinAt p d = min e.minimum d := fun d => by simp only [SessionController.effMinAt, he]
  simp only [newSession, hmin, hdemand, initialHolds, Bool.decide_or]
  rfl

/-- The record of a session in PLUGGED that is authorized without a request. -/
theorem State.vended_eq {u : State} {slot : Nat} {x : Session} (hst : x.state = .plugged) (ha : x.allocation = 0) :
    u.vended slot x = { x with
      authorizer := some .free, customer := none, departure := none, slot := some slot
      meterStart := (u.metering.meter x.port).last, authorized := some u.siteTime, authorizationTimer := none
      state := if x.holds.isEmpty then .active else .held
      flags := { x.flags with
        timeUnset := x.flags.timeUnset || !u.links.clock.isSet
        gridLost := x.flags.gridLost || x.holds.island
        chargerLost := x.flags.chargerLost || x.holds.chargerLost }
      dormantTimer := if x.holds.isEmpty = true ∧ x.demand = 0 then some (u.runTime + 1000 * u.sessions.dormantDelay)
                      else none
      nextIdle := none } := by
  rw [State.vended, Session.authorize_eq]
  cases he : x.holds.isEmpty <;> simp [carryTimers, hst, ha] <;> rfl

theorem State.vended_isCandidate (u : State) (slot : Nat) (x : Session) :
    (u.vended slot x).isCandidate = decide (x.holds.isEmpty = true ∧ 0 < x.demand) := by
  have hstate : (u.vended slot x).state = if x.holds.isEmpty then .active else .held := by
    rw [State.vended, Session.authorize_eq]; rfl
  have hdemand : (u.vended slot x).demand = x.demand := by
    rw [State.vended, Session.authorize_eq]; rfl
  rw [Session.isCandidate, hstate, hdemand]
  cases x.holds.isEmpty <;> simp

/-! ### The steps of a report (R5) -/

theorem put_put {α : Type} {n : Nat} (v : Vector α n) (i : Nat) (x y : α) : put (put v i x) i y = put v i y := by
  unfold put
  split
  · rfl
  · exact Vector.ext fun j hj => by simp only [Vector.getElem_setIfInBounds]; split <;> rfl

theorem SessionController.setRecord_setRecord (c : SessionController) (p : Nat) (x y : PortRecord) :
    (c.setRecord p x).setRecord p y = c.setRecord p y := by
  simp only [SessionController.setRecord, put_put]

theorem State.record_reportTaken (s : State) {r : ChargerReport} (rest : List ChargerReport) (h1 : 1 ≤ r.port)
    (h2 : r.port ≤ 32) : (s.reportTaken r rest).sessions.record r.port =
      { s.sessions.record r.port with fault := r.fault, acceptance := some r.acceptance } :=
  (s.sessions.record_setRecord r.port r.port _ h1 h2).trans (if_pos rfl)

/-- The acceptance and the fault of a report, and what a change of the fault does to the session. -/
theorem State.applyFault_eq (s : State) {r : ChargerReport} (rest : List ChargerReport) (h1 : 1 ≤ r.port)
    (h2 : r.port ≤ 32) :
    ((s.setEvents { s.events with chargerReports := rest }).setSessions (s.sessions.setRecord r.port
      { s.sessions.record r.port with acceptance := some r.acceptance })).applyFault r.port r.fault =
      if r.fault = (s.sessions.record r.port).fault then s.reportTaken r rest
      else (s.reportTaken r rest).holdPort r.port .fault r.fault := by
  have hrec := (s.sessions.record_setRecord r.port r.port
    { s.sessions.record r.port with acceptance := some r.acceptance } h1 h2).trans (if_pos rfl)
  simp only [State.applyFault, State.setSessions_sessions, hrec, SessionController.setRecord_setRecord]
  cases hb : (s.sessions.record r.port).fault <;> cases hf : r.fault <;>
    simp only [State.reportTaken, hb, hf] <;> rfl

/-- A report of a port that is present, its acceptance and fault taken. -/
theorem State.takeChargerReport_eq {s : State} {r : ChargerReport} {e : PortEntry} (rest : List ChargerReport)
    (he : s.sessions.entry r.port = some e) (h1 : 1 ≤ r.port) (h2 : r.port ≤ 32) :
    (s.setEvents { s.events with chargerReports := rest }).takeChargerReport r =
      ((((if r.fault = (s.sessions.record r.port).fault then s.reportTaken r rest
        else (s.reportTaken r rest).holdPort r.port .fault r.fault).applyDemand r.port).applyConnection r).lockoutAlone
          s.events.chargerTargets.length r.port) := by
  rw [← State.applyFault_eq s rest h1 h2]
  simp only [State.takeChargerReport, State.setEvents_sessions, he]
  rfl

/-- R12: a port that stays IN_SESSION keeps its targets. -/
theorem State.lockoutAlone_inSession {s : State} {p : Nat} (sent : Nat)
    (h : (s.sessions.record p).state = some .inSession) : s.lockoutAlone sent p = s := if_pos h

/-- R12: of the targets sent since, no PAUSE for the port remains. -/
theorem State.lockoutAlone_sent {s : State} {p : Nat} (before after : List ChargerTarget)
    (h : (s.sessions.record p).state ≠ some .inSession) (ht : s.events.chargerTargets = before ++ after) :
    s.lockoutAlone before.length p = s.setEvents { s.events with
      chargerTargets := before ++ after.filter fun t => !(t.port == p && t.mode == .pause) } := by
  rw [State.lockoutAlone, if_neg h]
  simp only [ht, List.take_left, List.drop_left]

/-- When none of the targets sent since is a PAUSE for the port, nothing changes. -/
theorem State.lockoutAlone_kept {s : State} {p : Nat} (before after : List ChargerTarget)
    (ht : s.events.chargerTargets = before ++ after) (ha : ∀ t ∈ after, t.port ≠ p ∨ t.mode ≠ .pause) :
    s.lockoutAlone before.length p = s := by
  by_cases h : (s.sessions.record p).state = some .inSession
  · exact State.lockoutAlone_inSession _ h
  · have hf : after.filter (fun t => !(t.port == p && t.mode == .pause)) = after :=
      List.filter_eq_self.2 fun t ht => by
        obtain h | h := ha t ht <;> simp [h]
    rw [State.lockoutAlone_sent before after h ht, hf, ← ht]
    rfl

@[simp] theorem State.record_transition (s : State) (n : Nat) (f : Session → Session) (p : Nat) :
    (s.transition n f).sessions.record p = s.sessions.record p := by
  cases hx : s.sessions.find n with
  | none => rw [State.transition_none _ _ _ hx]
  | some x => rw [State.transition_eq s f hx]; rfl

@[simp] theorem State.record_freeVend (s : State) (n p : Nat) :
    (s.freeVend n).sessions.record p = s.sessions.record p := by
  unfold State.freeVend
  split
  · rfl
  · split
    · unfold State.authorizeSession
      split
      · exact State.record_transition ..
      · rfl
    · rfl

theorem State.portState_createSession (s : State) {p : Nat} (h1 : 1 ≤ p) (h2 : p ≤ 32) :
    ((s.createSession p).sessions.record p).state = some .inSession := by
  rw [State.createSession_eq, State.record_freeVend]
  exact (congrArg PortRecord.state (SessionController.record_setRecord _ p p _ h1 h2)).trans (by rw [if_pos rfl])

theorem SessionController.isFull_iff {c : SessionController} : c.isFull = true ↔ 48 ≤ c.table.length := decide_eq_true_iff

/-- Settles O18: the session created in full, then the report's branches by the port state and the connection. -/
theorem connectedReportOpensASession : Obligations.ConnectedReportOpensASession := by
  unfold Obligations.ConnectedReportOpensASession
  intro next opened
  have create : ∀ (u : State) (p : Nat) (e : PortEntry), 1 ≤ u.sessions.counter ∧ u.sessions.counter ≤ 65535 →
      u.sessions.table.length < 48 → u.sessions.entry p = some e → opened u p e (u.createSession p) := by
    intro u p e hc hroom he
    obtain ⟨k, hk, hn, hall, hnone⟩ := freeNumber_of_room hc hroom.le
    rw [← hn] at hnone
    rw [State.createSession_eq, State.openSession_eq]
    generalize freeNumber u.sessions (Config.tableCapacity + 1) u.sessions.counter = n at hn hnone
    refine ⟨n, k, hk, hn, hnone, hall, fun h => ?_, fun slot hv ha => ?_⟩
    · exact (State.freeVend_holding_none (p := p) hnone rfl rfl he h).trans (congrArg (u.holding n p) (newSession_eq n he))
    · refine (State.freeVend_holding (p := p) hnone rfl rfl rfl he hv ha).trans ?_
      rw [State.vended_isCandidate, State.vended_eq rfl rfl, newSession_eq n he]
      simp only [Holds.isEmpty, Bool.or_false, Bool.or_self, decide_eq_true_eq]
      rfl
  refine ⟨fun s r rest e hwf hr h1 h2 he hx => ?_, fun s hwf => ⟨State.serveWaiting_nil, fun p rest e hw hroom he => ?_⟩⟩
  · intro p state u run becomes
    have hwf := s.tableWf_iff.1 hwf
    have hempty : ∀ (k : HoldReason) (b : Bool), u.holdPort p k b = u := fun k b => by
      simp only [State.holdPort, show u.sessions.holder p = none from hx]
    have hdemand : u.applyDemand p = u := by
      simp only [State.applyDemand, show u.sessions.holder p = none from hx]
    have hrun : run = done ((u.applyConnection r).lockoutAlone s.events.chargerTargets.length p) := by
      show execChargerReport r.port s = _
      simp only [execChargerReport, hr, State.takeChargerReport_eq rest he h1 h2]
      rw [show (s.reportTaken r rest).holdPort r.port .fault r.fault = s.reportTaken r rest from hempty _ _, ite_self,
        show (s.reportTaken r rest).applyDemand r.port = s.reportTaken r rest from hdemand]
    have hstate : (u.sessions.record r.port).state = state := by rw [s.record_reportTaken rest h1 h2]
    have moved : ∀ (st : PortState) (waiting : List Nat) (links : LinkController), st ≠ .inSession →
        u.applyConnection r = becomes st waiting links → run = .next (becomes st waiting links).settle :=
      fun st waiting links hst h => by
        rw [hrun, h]
        exact congrArg done (State.lockoutAlone_kept s.events.chargerTargets _ rfl (by simp))
    refine ⟨fun hst hc => ⟨fun hroom => ?_, fun hfull => ?_⟩, fun hst hc => ?_, fun hst hc => ?_, fun hsame => ?_⟩
    · have hopen : u.applyConnection r = u.createSession p := by
        simp only [State.applyConnection, hstate, hst, hc]
        exact if_neg fun h => absurd (SessionController.isFull_iff.1 h) (Nat.not_le.2 hroom)
      refine ⟨u.createSession p, ?_, create u p e ⟨hwf.counterPos, hwf.counterMax⟩ hroom he⟩
      rw [hrun, hopen, State.lockoutAlone_inSession _ (State.portState_createSession u h1 h2)]
      rfl
    · refine moved _ _ _ (by decide) ?_
      simp only [State.applyConnection, hstate, hst, hc]
      exact if_pos (SessionController.isFull_iff.2 hfull)
    · refine moved _ _ _ (by decide) ?_
      simp only [State.applyConnection, hstate, hst, hc]
      rfl
    · refine moved _ _ _ (by decide) ?_
      simp only [State.applyConnection, hstate, hst, hc]
      rfl
    · have hkeep : u.applyConnection r = u := by
        obtain ⟨hst, hc⟩ | ⟨hst | hst, hc⟩ := hsame <;> simp only [State.applyConnection, hstate, hst, hc]
      rw [hrun, hkeep]
      exact congrArg done (State.lockoutAlone_kept s.events.chargerTargets [] (List.append_nil _).symm (by simp))
  · have hwf := s.tableWf_iff.1 hwf
    have hserve : s.serveWaiting = (s.setSessions { s.sessions with waiting := rest }).createSession p := by
      simp only [State.serveWaiting, hw]
      exact if_neg fun h => absurd (SessionController.isFull_iff.1 h) (Nat.not_le.2 hroom)
    rw [hserve]
    exact create _ p e ⟨hwf.counterPos, hwf.counterMax⟩ hroom he

end Sys2Proof.Machine

namespace Sys2Proof.Machine

/-! ## The end of a session (R19 to R21) -/

/-- The whole state of a closing completed. -/
theorem State.completeClosing_eq (s : State) (x : Session) (connected estimated : Bool) :
    s.completeClosing x connected estimated = { s with
      sessions := (s.sessions.update x.number fun y => y.close s.links.clock estimated).withPortState x.port
        (if connected then .blocked else .free)
      events := { s.events with
        chargerTargets := s.events.chargerTargets ++ [{ port := x.port, mode := .lockout, setpoint := 0 }]
        handOvers := s.events.handOvers ++ [x.number] } } := by
  cases connected <;> rfl

/-- The session that held a port handed over: no other holds it. -/
theorem holder_closed {c : SessionController} {x y : Session}
    (hp : ((c.table.filter Session.holdsPort).map Session.port).Nodup) (hx : c.holder x.port = some x)
    (hy : y.holdsPort = false) : (c.update x.number fun _ => y).holder x.port = none := by
  obtain ⟨hmem, -, hholds⟩ := holder_spec hx
  refine List.find?_eq_none.2 fun z hz => ?_
  obtain ⟨w, hw, rfl⟩ := List.mem_map.1 hz
  by_cases e : w.number = x.number
  · rw [if_pos e, hy]; simp
  · rw [if_neg e, Bool.and_eq_true, beq_iff_eq]
    rintro ⟨hport, hwholds⟩
    have : w = x := List.inj_on_of_nodup_map hp (List.mem_filter.2 ⟨hw, hwholds⟩) (List.mem_filter.2 ⟨hmem, hholds⟩) hport
    exact e (congrArg Session.number this)

/-- The session that holds a port closes when the reading of its final report has been applied. -/
theorem State.tryComplete_final {s : State} {p m : Nat} {x : Session} {f : FinalReport}
    (hx : s.sessions.holder p = some x) (hf : x.final = some f) (ha : (s.sessions.record p).applied = some m)
    (hst : x.state = .closing) (hle : f.report ≤ m) :
    s.tryComplete p = s.completeClosing x f.connected (!f.hasReading) := by
  simp only [State.tryComplete, hx, hf, ha]
  exact if_pos ⟨hst, hle⟩

/-- Nothing closes before the reading of the final report has been applied. -/
theorem State.tryComplete_wait {s : State} {p : Nat} {x : Session} {f : FinalReport}
    (hx : s.sessions.holder p = some x) (hf : x.final = some f)
    (ha : ∀ m, (s.sessions.record p).applied = some m → m < f.report) : s.tryComplete p = s := by
  simp only [State.tryComplete, hx, hf]
  cases hm : (s.sessions.record p).applied with
  | none => rfl
  | some m => exact if_neg fun h => absurd h.2 (Nat.not_le.2 (ha m hm))

/-- A state `t` that transitions of the session on port `p` alone have made of `s`; the session is `x` now. -/
structure State.Along (s : State) (p : Nat) (t : State) (x : Session) : Prop where
  holder : t.sessions.holder p = some x
  numbers : (t.sessions.table.map Session.number).Nodup
  sessions : t.sessions = { s.sessions with table := t.sessions.table }
  clock : t.links.clock = s.links.clock
  handOvers : t.events.handOvers = s.events.handOvers
  targets : ∃ pauses : List ChargerTarget, t.events.chargerTargets = s.events.chargerTargets ++ pauses ∧
    ∀ q ∈ pauses, q.port = p ∧ q.mode = .pause

section
variable {s t : State} {p : Nat} {x : Session}

theorem State.Along.find (h : s.Along p t x) : t.sessions.find x.number = some x := find_of_holder h.numbers h.holder

theorem State.Along.record (h : s.Along p t x) (q : Nat) : t.sessions.record q = s.sessions.record q := by
  rw [h.sessions]; rfl

theorem State.Along.entry (h : s.Along p t x) (q : Nat) : t.sessions.entry q = s.sessions.entry q := by
  rw [h.sessions]; rfl

/-- The session a transition leaves on its port. -/
theorem holder_transition {y : Session} (hx : t.sessions.holder p = some x)
    (hn : (t.sessions.table.map Session.number).Nodup) (hp : y.port = x.port) (hh : y.holdsPort = true) :
    (t.sessions.update x.number fun _ => y).holder p = some y := by
  obtain ⟨hmem, hport, hholds⟩ := holder_spec hx
  have only : ∀ z ∈ t.sessions.table, z.number = x.number → z = x := fun z hz =>
    eq_of_find hn (find_of_mem hn hmem) hz
  have hsame : ∀ z ∈ t.sessions.table,
      ((if z.number = x.number then y else z).port == p && (if z.number = x.number then y else z).holdsPort) =
        (z.port == p && z.holdsPort) := fun z hz => by
    by_cases e : z.number = x.number
    · rw [if_pos e, only z hz e, hp, hh, hholds]
    · rw [if_neg e]
  show ((t.sessions.table.map _).find? _) = _
  rw [List.find?_map]
  refine (congrArg (Option.map _) ((List.find?_congr hsame).trans hx)).trans ?_
  rw [Option.map_some, if_pos rfl]

theorem update_numbers (c : SessionController) {n : Nat} {y : Session} (h : y.number = n) :
    (c.update n fun _ => y).table.map Session.number = c.table.map Session.number := by
  show (c.table.map _).map _ = _
  rw [List.map_map]
  refine List.map_congr_left fun z _ => ?_
  rw [Function.comp_apply]
  split
  · exact h.trans (Eq.symm (by assumption))
  · rfl

/-- One more transition. -/
theorem State.Along.transition (h : s.Along p t x) {f : Session → Session}
    (hf : (f x).number = x.number ∧ (f x).port = x.port ∧ (f x).holdsPort = true) :
    s.Along p (t.transition x.number f) (carryTimers t.runTime t.sessions.dormantDelay x (f x)) := by
  obtain ⟨hnum, hport, hholds⟩ := hf
  rw [State.transition_eq t f h.find]
  refine ⟨holder_transition h.holder h.numbers hport hholds, ?_, ?_, ?_, h.handOvers, ?_⟩
  · show ((t.sessions.update x.number _).table.map _).Nodup
    rw [update_numbers t.sessions (y := carryTimers _ _ x (f x)) hnum]
    exact h.numbers
  · rw [h.sessions]; rfl
  · split
    · exact h.clock
    · exact h.clock
  · obtain ⟨pauses, ht, hall⟩ := h.targets
    refine ⟨_, by rw [ht, List.append_assoc], fun q hq => ?_⟩
    obtain hq | hq := List.mem_append.1 hq
    · exact hall q hq
    · split at hq
      · rw [List.mem_singleton.1 hq]
        exact ⟨hport.trans (holder_spec h.holder).2.1, rfl⟩
      · simp at hq

end

/-! ### The targets of a session opened -/

theorem State.targets_freeVend (s : State) (n : Nat) : (s.freeVend n).events.chargerTargets = s.events.chargerTargets := by
  unfold State.freeVend
  split
  · rfl
  · rename_i x hx
    split
    · rename_i hv
      unfold State.authorizeSession
      split
      · rename_i slot y _ _
        rw [State.transition_eq (s.setStore (s.store.bind slot)) _ hx]
        exact (congrArg _ (if_neg fun k => by simp [hv.1] at k)).trans (List.append_nil _)
      · rfl
    · rfl

/-- A freed entry targets the port at the head of the wait list, if any. -/
theorem State.targets_serveWaiting (s : State) : ∃ after : List ChargerTarget,
    s.serveWaiting.events.chargerTargets = s.events.chargerTargets ++ after ∧ ∀ q ∈ after, q.port ∈ s.sessions.waiting := by
  unfold State.serveWaiting
  split
  · exact ⟨[], (List.append_nil _).symm, by simp⟩
  · rename_i p rest hw
    split
    · exact ⟨[], (List.append_nil _).symm, by simp⟩
    · refine ⟨[{ port := p, mode := .pause, setpoint := 0 }], ?_, by simp [hw]⟩
      rw [State.createSession_eq, State.targets_freeVend]
      rfl

/-! ### What a report leaves of a session's state -/

theorem SessionState.canStop_iff {st : SessionState} : st.canStop = true ↔ st = .active ∨ st = .dormant ∨ st = .held := by
  cases st <;> simp [SessionState.canStop]

/-- A session as the fault and the demand of a report may leave it. -/
structure Session.Kin (x y : Session) : Prop where
  number : y.number = x.number
  port : y.port = x.port
  final : y.final = x.final
  handedOver : y.handedOver = x.handedOver
  plugged : (y.state == .plugged) = (x.state == .plugged)
  closing : (y.state == .closing) = (x.state == .closing)
  canStop : y.state.canStop = x.state.canStop

theorem Session.holdsPort_eq (x : Session) : x.holdsPort =
    (x.state == .plugged || x.state.canStop || (x.state == .closing && !x.handedOver)) := by
  unfold Session.holdsPort
  cases x.state <;> cases x.handedOver <;> rfl

section
variable {x y z : Session}

theorem Session.Kin.refl (x : Session) : x.Kin x := ⟨rfl, rfl, rfl, rfl, rfl, rfl, rfl⟩

theorem Session.Kin.trans (h : x.Kin y) (k : y.Kin z) : x.Kin z :=
  ⟨k.number.trans h.number, k.port.trans h.port, k.final.trans h.final, k.handedOver.trans h.handedOver,
    k.plugged.trans h.plugged, k.closing.trans h.closing, k.canStop.trans h.canStop⟩

theorem Session.Kin.carry (h : x.Kin y) (now delay : Nat) (before : Session) : x.Kin (carryTimers now delay before y) :=
  ⟨h.number, h.port, h.final, h.handedOver, h.plugged, h.closing, h.canStop⟩

theorem Session.Kin.plugged_iff (h : x.Kin y) : y.state = .plugged ↔ x.state = .plugged := by
  rw [← beq_iff_eq, h.plugged, beq_iff_eq]

theorem Session.Kin.closing_iff (h : x.Kin y) : y.state = .closing ↔ x.state = .closing := by
  rw [← beq_iff_eq, h.closing, beq_iff_eq]

theorem Session.Kin.holdsPort (h : x.Kin y) : y.holdsPort = x.holdsPort := by
  rw [Session.holdsPort_eq, Session.holdsPort_eq, h.plugged, h.closing, h.canStop, h.handedOver]

/-- A change of the state within ACTIVE, DORMANT and HELD at most. -/
theorem Session.Kin.of_state (hn : y.number = x.number) (hp : y.port = x.port) (hf : y.final = x.final)
    (ho : y.handedOver = x.handedOver)
    (hs : y.state = x.state ∨ x.state.canStop = true ∧ y.state.canStop = true) : x.Kin y := by
  obtain hs | ⟨hx, hy⟩ := hs
  · exact ⟨hn, hp, hf, ho, by rw [hs], by rw [hs], by rw [hs]⟩
  · have apart : ∀ st : SessionState, st.canStop = true → (st == .plugged) = false ∧ (st == .closing) = false :=
      fun st h => by obtain h | h | h := SessionState.canStop_iff.1 h <;> rw [h] <;> decide
    obtain ⟨hxp, hxc⟩ := apart _ hx
    obtain ⟨hyp, hyc⟩ := apart _ hy
    exact ⟨hn, hp, hf, ho, by rw [hxp, hyp], by rw [hxc, hyc], by rw [hx, hy]⟩

theorem Session.kin_addHold (x : Session) (r : HoldReason) : x.Kin (x.addHold r) := by
  rw [Session.addHold_eq]
  split_ifs with hp hc
  · exact .of_state rfl rfl rfl rfl (.inl rfl)
  · exact .of_state rfl rfl rfl rfl (.inr ⟨SessionState.canStop_iff.2 hc, rfl⟩)
  · exact .of_state rfl rfl rfl rfl (.inl rfl)
  · exact .refl x

theorem Session.kin_removeHold (x : Session) (r : HoldReason) : x.Kin (x.removeHold r) := by
  rw [Session.removeHold_eq]
  by_cases hp : x.state = .plugged
  · rw [if_pos hp]
    exact .of_state rfl rfl rfl rfl (.inl rfl)
  · rw [if_neg hp]
    by_cases hh : x.state = .held
    · rw [if_pos hh]
      refine .of_state rfl rfl rfl rfl (.inr ⟨by rw [hh]; rfl, ?_⟩)
      show SessionState.canStop (ite _ _ _) = true
      split_ifs <;> rfl
    · rw [if_neg hh]
      exact .refl x

theorem Session.kin_follow (x : Session) (demand effMin : Nat) : x.Kin (x.follow demand effMin) := by
  refine .of_state rfl rfl rfl rfl ?_
  show ite _ _ _ = _ ∨ _
  by_cases h : x.state = .dormant ∧ 0 < demand
  · exact .inr ⟨by rw [h.1]; rfl, by show SessionState.canStop (ite _ _ _) = true; rw [if_pos h]; rfl⟩
  · exact .inl (if_neg h)

/-- What the fault of a report makes of the session that holds the port. -/
theorem Session.fault_eq (hx : x.holdsPort = true) (b : Bool) :
    (if b = true then x.addHold .fault else x.removeHold .fault) =
      if x.state = .closing then x
      else if b = true then { x with
        holds := { x.holds with fault := true }, state := if x.state = .plugged then .plugged else .held }
      else if x.state = .plugged then { x with holds := { x.holds with fault := false } }
      else if x.state = .held then { x with
        holds := { x.holds with fault := false }
        state := if x.holds.island ∨ x.holds.siteHold ∨ x.holds.chargerLost then .held
                 else if 0 < x.demand then .active else .dormant }
      else x := by
  cases b with
  | true =>
    rw [if_pos rfl]
    cases hs : x.state with
    | plugged | active | dormant | held => simp [Session.addHold, hs, Holds.set, SessionFlags.meet]
    | closing =>
      have hkeep : x.addHold .fault = x := by
        simp only [Session.addHold, hs, SessionFlags.meet]
        rw [← hs]
        exact ite_self x
      simp [hkeep]
    | pricing | waitQueue => simp [Session.holdsPort, hs] at hx
  | false =>
    rw [if_neg (by decide), Session.removeHold_eq]
    cases hs : x.state with
    | held => simp [Holds.set]
    | _ => simp [Holds.set]

/-! ### The rest of a report -/

/-- R19: what a final report leaves in the record of its session. -/
def ChargerReport.final (r : ChargerReport) : FinalReport :=
  { report := r.report, connected := r.connected, hasReading := r.hasReading }

/-- R11, R19: the report that is a session's final one. -/
def Session.FinalAt (x : Session) (r : ChargerReport) : Prop :=
  (x.state = .active ∨ x.state = .dormant ∨ x.state = .held) ∧ r.connected = false ∨
    x.state = .closing ∧ x.final = none ∧ (r.connected = false ∨ r.power = 0)

theorem State.applyToSession_final (s : State) {r : ChargerReport} (h : x.FinalAt r) :
    s.applyToSession x r = (s.transition x.number fun y => y.takeFinal r.final).tryComplete r.port := by
  obtain ⟨hst | hst | hst, hc⟩ | ⟨hst, hf⟩ := h
  · simp [State.applyToSession, hst, hc, ChargerReport.final]
  · simp [State.applyToSession, hst, hc, ChargerReport.final]
  · simp [State.applyToSession, hst, hc, ChargerReport.final]
  · simp only [State.applyToSession, hst]
    exact if_pos hf

theorem State.applyToSession_stay (s : State) {r : ChargerReport} (h : ¬ x.FinalAt r)
    (hp : ¬ (x.state = .plugged ∧ r.connected = false)) : s.applyToSession x r = s := by
  unfold Session.FinalAt at h
  cases hst : x.state <;> simp only [State.applyToSession, hst] <;> simp_all

theorem Session.Kin.finalAt (h : x.Kin y) (r : ChargerReport) : y.FinalAt r ↔ x.FinalAt r := by
  unfold Session.FinalAt
  rw [← SessionState.canStop_iff, ← SessionState.canStop_iff, h.canStop, h.closing_iff, h.final]

theorem State.applyConnection_held {s : State} {r : ChargerReport}
    (hst : (s.sessions.record r.port).state = some .inSession) (hx : s.sessions.holder r.port = some x) :
    s.applyConnection r = s.applyToSession x r := by
  simp only [State.applyConnection, hst, hx]

/-- A session that holds a port has not been handed over. -/
theorem Session.not_handedOver (hx : x.holdsPort = true) (hw : x.HandedWf) : x.handedOver = false := by
  by_contra h
  obtain ⟨-, hst | hst | hst⟩ := hw (by simpa using h) <;> simp [Session.holdsPort, hst] at hx
  exact h hx

variable {s t : State} {p : Nat}

/-- The session's demand taken from the report. -/
theorem State.Along.applyDemand (h : s.Along p t x) {e : PortEntry} {a : Int} (he : s.sessions.entry p = some e)
    (ha : (s.sessions.record p).acceptance = some a) :
    t.applyDemand p = t.transition x.number fun y => y.follow (demandOf a e.ratedMax)
      (min e.minimum (demandOf a e.ratedMax)) := by
  have hd : t.sessions.demandAt p = demandOf a e.ratedMax := by
    simp only [SessionController.demandAt, h.entry, h.record, he, ha]
  have hm : t.sessions.effMinAt p (demandOf a e.ratedMax) = min e.minimum (demandOf a e.ratedMax) := by
    simp only [SessionController.effMinAt, h.entry, he]
  simp only [State.applyDemand, h.holder, hd, hm]

/-- The session's hold reasons as the fault of the report changes them. -/
theorem State.Along.holdFault (h : s.Along p t x) (b : Bool) :
    t.holdPort p .fault b = t.transition x.number fun _ => if b = true then x.addHold .fault else x.removeHold .fault :=
  State.holdPort_eq _ _ h.holder h.find

theorem State.Along.transition_kin (h : s.Along p t x) {f : Session → Session} (hf : x.Kin (f x)) :
    ∃ y, s.Along p (t.transition x.number f) y ∧ x.Kin y :=
  ⟨_, h.transition ⟨hf.number, hf.port, hf.holdsPort.trans (holder_spec h.holder).2.2⟩, hf.carry _ _ _⟩

/-- A session that is not in ACTIVE sends its charger no target when it changes. -/
theorem State.Along.targets_transition (h : s.Along p t x) (f : Session → Session) (hst : x.state ≠ .active) :
    (t.transition x.number f).events.chargerTargets = t.events.chargerTargets := by
  rw [State.transition_eq t f h.find]
  exact (congrArg _ (if_neg fun k => hst k.1)).trans (List.append_nil _)

/-- R12, R21: a closing completed at the report that took the session out of ACTIVE leaves LOCKOUT alone. -/
theorem State.Along.lockoutAlone_completeClosing (h : s.Along p t x) (h1 : 1 ≤ p) (h2 : p ≤ 32)
    (connected estimated : Bool) :
    (t.completeClosing x connected estimated).lockoutAlone s.events.chargerTargets.length p = { t with
      sessions := (t.sessions.update x.number fun y => y.close s.links.clock estimated).withPortState p
        (if connected then .blocked else .free)
      events := { t.events with
        chargerTargets := s.events.chargerTargets ++ [{ port := p, mode := .lockout, setpoint := 0 }]
        handOvers := s.events.handOvers ++ [x.number] } } := by
  obtain ⟨pauses, ht, hall⟩ := h.targets
  obtain ⟨-, hport, -⟩ := holder_spec h.holder
  rw [State.completeClosing_eq, hport, h.clock, h.handOvers]
  have hstate : ∀ c : SessionController, ((c.withPortState p (if connected then .blocked else .free)).record p).state ≠
      some .inSession := fun c => by
    rw [SessionController.withPortState, c.record_setRecord p p _ h1 h2, if_pos rfl]
    cases connected <;> simp
  rw [State.lockoutAlone_sent s.events.chargerTargets (pauses ++ [{ port := p, mode := .lockout, setpoint := 0 }])
    (hstate _) (by rw [ht, List.append_assoc])]
  have hnone : pauses.filter (fun q => !(q.port == p && q.mode == .pause)) = [] :=
    List.filter_eq_nil_iff.2 fun q hq => by
      obtain ⟨hqp, hqm⟩ := hall q hq
      simp [hqp, hqm]
  have hkeep : [({ port := p, mode := .lockout, setpoint := 0 } : ChargerTarget)].filter
      (fun q => !(q.port == p && q.mode == .pause)) = [{ port := p, mode := .lockout, setpoint := 0 }] := by simp
  rw [List.filter_append, hnone, hkeep]
  rfl

end

/-- Settles O19: the closing completed by `State.completeClosing_eq`; the report as transitions of the session that holds the
port, by `State.Along`, and what follows them by the state the session is in. -/
theorem closingCompletesAtTheFinalReading : Obligations.ClosingCompletesAtTheFinalReading := by
  refine ⟨fun s x hwf hx hst h1 h2 => ?_, ?_⟩
  · intro closed
    have hwf := s.tableWf_iff.1 hwf
    have hfind := find_of_holder hwf.numbers hx
    have complete : ∀ (runTime : Nat) (records : Vector PortRecord 32) (events : Events) (connected estimated : Bool),
        ((s.sessions.table.filter Session.holdsPort).map Session.port).Nodup →
        (∀ p, p ≠ x.port → nth records PortRecord.reset p = s.sessions.record p) →
        closed (({ s with
          runTime := runTime, sessions := { s.sessions with records := records }
          events := events } : State).completeClosing x connected estimated).settle estimated connected events := by
      intro runTime records events connected estimated hports hrec
      have htable : (s.sessions.update x.number fun y => y.close s.links.clock estimated).table =
          (s.sessions.update x.number fun _ => x.close s.links.clock estimated).table :=
        congrArg SessionController.table (s.sessions.update_const x _ hfind hwf.numbers)
      rw [State.completeClosing_eq]
      refine ⟨rfl, htable, ?_, fun p hp => ?_, ?_⟩
      · exact (congrArg PortRecord.state (SessionController.record_setRecord _ x.port x.port _ h1 h2)).trans (by rw [if_pos rfl])
      · exact ((SessionController.record_setRecord _ x.port p _ h1 h2).trans (if_neg hp)).trans (hrec p hp)
      · have hnone := holder_closed (y := x.close s.links.clock estimated) hports hx
          (by simp [Session.holdsPort, Session.close, hst])
        rw [SessionController.holder, ← htable] at hnone
        exact hnone
    refine ⟨fun f r rest hf hle hr hports => ?_, fun expiry ht hports => ?_⟩
    · have hport : r.port = x.port := by simpa using (takeFirst_eq_some hr).1
      refine ⟨_, ?_, ?_, complete s.runTime (s.sessions.setRecord x.port
        { s.sessions.record x.port with applied := some r.report }).records { s.events with readingsApplied := rest }
        f.connected (!f.hasReading) hports fun p hp => ?_⟩
      · show execReadingApplied x.port s = _
        simp only [execReadingApplied, hr, hport]
        refine congrArg done (State.tryComplete_final hx hf ?_ hst hle)
        exact (congrArg PortRecord.applied (s.sessions.record_setRecord x.port x.port _ h1 h2)).trans (by rw [if_pos rfl])
      · rw [State.completeClosing_eq]; rfl
      · exact (s.sessions.record_setRecord x.port p _ h1 h2).trans (if_neg hp)
    · refine ⟨_, ?_, ?_, complete (max s.runTime expiry) s.sessions.records s.events true true hports fun _ _ => rfl⟩
      · show execClosingTimeout x.number s = _
        simp only [execClosingTimeout, hfind, hst, ht]
        rfl
      · rw [State.completeClosing_eq]; rfl
  · intro s r rest e x hwf hr h1 h2 he hx hin hhanded p n run demand faulted taken judged reported closing charging isFinal
      lockout
    have hwf := s.tableWf_iff.1 hwf
    obtain ⟨hmem, hport, hholds⟩ := holder_spec hx
    have hrec := s.record_reportTaken rest h1 h2
    have htaken : taken.Along p taken x := ⟨hx, hwf.numbers, rfl, rfl, rfl, [], (List.append_nil _).symm, by simp⟩
    have hfaulted : (if r.fault = true then x.addHold .fault else x.removeHold .fault) = faulted :=
      Session.fault_eq hholds r.fault
    have hkin : x.Kin faulted := by
      rw [← hfaulted]
      split
      · exact x.kin_addHold _
      · exact x.kin_removeHold _
    have hjudge : (if r.fault = (s.sessions.record r.port).fault then taken
        else taken.holdPort r.port .fault r.fault) = judged := by
      rw [htaken.holdFault, hfaulted]
    obtain ⟨y, hjudged, hxy, hytargets⟩ : ∃ y, taken.Along p judged y ∧ x.Kin y ∧
        (x.state = .plugged → judged.events.chargerTargets = taken.events.chargerTargets) := by
      by_cases hf : r.fault = (s.sessions.record p).fault
      · rw [show judged = taken from if_pos hf]
        exact ⟨x, htaken, .refl x, fun _ => rfl⟩
      · rw [show judged = taken.transition n fun _ => faulted from if_neg hf]
        obtain ⟨y, hy, hxy⟩ := htaken.transition_kin (f := fun _ => faulted) hkin
        exact ⟨y, hy, hxy, fun hst => htaken.targets_transition _ (by rw [hst]; decide)⟩
    have hfollow : judged.applyDemand p = reported := by
      rw [hjudged.applyDemand he (congrArg PortRecord.acceptance hrec), hxy.number]
      rfl
    obtain ⟨z, hz, hyz⟩ : ∃ z, taken.Along p reported z ∧ y.Kin z := by
      have := hjudged.transition_kin (f := fun y => y.follow demand (min e.minimum demand)) (y.kin_follow _ _)
      rwa [hxy.number] at this
    have hxz := hxy.trans hyz
    have hstate : (reported.sessions.record r.port).state = some .inSession := by
      rw [hz.record, hrec]
      exact hin
    have hrun : run = done ((reported.applyToSession z r).lockoutAlone s.events.chargerTargets.length p) := by
      show execChargerReport r.port s = _
      simp only [execChargerReport, hr, State.takeChargerReport_eq rest he h1 h2]
      rw [hjudge, hfollow, State.applyConnection_held hstate hz.holder]
    have hfinal : z.FinalAt r ↔ isFinal := hxz.finalAt r
    have hclosed : isFinal → reported.applyToSession z r = closing.tryComplete r.port := fun h => by
      rw [State.applyToSession_final _ (hfinal.2 h), hxz.number]
      rfl
    have hclosing : isFinal → taken.Along p closing
        (carryTimers reported.runTime reported.sessions.dormantDelay z (z.takeFinal r.final)) := fun _ => by
      have hopen : z.handedOver = false := hxz.handedOver.trans (Session.not_handedOver hholds hhanded)
      have := hz.transition (f := fun y => y.takeFinal r.final) ⟨rfl, rfl, by simp [Session.holdsPort, Session.takeFinal, hopen]⟩
      rwa [hxz.number] at this
    refine ⟨fun hnot hgone => ?_, fun hf hwait => ?_, fun hf ⟨m, hm, hle⟩ => ?_, fun hst hc hw => ?_⟩
    · rw [hrun, State.applyToSession_stay _ (mt hfinal.1 hnot) (by rwa [hxz.plugged_iff]),
        State.lockoutAlone_inSession _ hstate]
      rfl
    · have hwaits : closing.tryComplete r.port = closing :=
        State.tryComplete_wait (hclosing hf).holder rfl fun m hm => hwait m (by
          rw [(hclosing hf).record, hrec] at hm
          exact hm)
      rw [hrun, hclosed hf, hwaits, State.lockoutAlone_inSession]
      · rfl
      · rw [(hclosing hf).record, hrec]
        exact hin
    · have hw := hclosing hf
      have happlied : (closing.sessions.record r.port).applied = some m := by
        rw [hw.record, hrec]
        exact hm
      have hclock : taken.links.clock = s.links.clock := by
        show LinkController.clock (ite _ _ _) = _
        split <;> rfl
      have hnumber : (carryTimers reported.runTime reported.sessions.dormantDelay z (z.takeFinal r.final)).number = n :=
        hxz.number
      have hcomplete := State.tryComplete_final hw.holder rfl happlied rfl hle
      rw [hrun, hclosed hf, hcomplete, show s.events.chargerTargets = taken.events.chargerTargets from rfl,
        hw.lockoutAlone_completeClosing h1 h2, hclock, hnumber]
      rfl
    · have hplugged : z.state = .plugged := hxz.plugged_iff.2 hst
      have htargets : reported.events.chargerTargets = s.events.chargerTargets := by
        have hy : y.state ≠ .active := by rw [hxy.plugged_iff.2 hst]; decide
        have := hjudged.targets_transition (fun y => y.follow demand (min e.minimum demand)) hy
        rw [hxy.number] at this
        exact this.trans (hytargets hst)
      have hgone : reported.applyToSession z r = reported.abandon z .free := by
        simp only [State.applyToSession, hplugged, hc]
        rfl
      have hwaiting : p ∉ reported.sessions.waiting := by
        rw [hz.sessions]
        exact hw
      rw [hrun, hgone, State.abandon_eq, hxz.number, hxz.port, hport, htargets]
      refine congrArg done ?_
      obtain ⟨after, hafter, hports⟩ := State.targets_serveWaiting { reported with
        links := reported.links.raise .sessionAbandoned n
        sessions := { reported.sessions.withPortState p .free with
          table := reported.sessions.table.filter fun y => y.number != n }
        events := { reported.events with chargerTargets := lockout } }
      refine State.lockoutAlone_kept s.events.chargerTargets ({ port := p, mode := .lockout, setpoint := 0 } :: after)
        (hafter.trans (List.append_cons ..).symm) fun q hq => ?_
      obtain rfl | hq := List.mem_cons.1 hq
      · exact .inr (by simp)
      · exact .inl fun e => hwaiting (e ▸ hports q hq)

end Sys2Proof.Machine

namespace Sys2Proof.Machine

/-! ## Where the fields of a record stand (R178, R179) -/

/-! ### Numbers in bytes -/

theorem byte_cons (n : Nat) (l : List Byte) : byte n :: l = le 1 n ++ l := by
  show BitVec.ofNat 8 n :: l = BitVec.ofNat 8 (n % 256) :: l
  congr 1
  exact BitVec.eq_of_toNat_eq (by simp)

theorem yesNo_eq (b : Bool) : yesNo b = byte b.toNat := by cases b <;> rfl

theorem codeOr_eq (c : Option Nat) : codeOr c = byte (c.getD 255) := by cases c <;> rfl

theorem slotByte_eq (k : Option Nat) : slotByte k = byte (k.getD 255) := by cases k <;> rfl

theorem timeOr_eq (t : Option Nat) : timeOr t = le 4 (t.getD 4294967295) := by cases t <;> rfl

/-- The number whose four bytes stand for a W figure that may be absent. -/
def wattsCode : Option Int → Nat
  | none => 2147483648
  | some w =>
    if -2147483648 ≤ w ∧ w ≤ 2147483647 then (w % 4294967296).toNat else Config.openValue (.wideWatts w)

theorem watts_eq (w : Int) : watts w = le 4 (wattsCode (some w)) := by
  simp only [watts, wattsCode]
  split <;> rfl

theorem wattsOr_eq (w : Option Int) : wattsOr w = le 4 (wattsCode w) := by
  cases w with
  | none => rfl
  | some w => exact watts_eq w

/-- Two's complement of 32 bits comes back (R174). -/
theorem signed32_wattsCode {w : Int} (h1 : -2147483648 ≤ w) (h2 : w < 2147483648) :
    signed32 (wattsCode (some w) % 256 ^ 4) = w := by
  rw [wattsCode, if_pos ⟨h1, by omega⟩, signed32]
  split <;> omega

/-! ### Numbers one after another -/

/-- Numbers in so many bytes each, one after another. -/
@[irreducible] def packed (cells : List (Nat × Nat)) : List Byte := cells.flatMap fun c => le c.1 c.2

theorem packed_nil : packed [] = [] := by rw [packed]; rfl

theorem packed_cons (k n : Nat) (cells : List (Nat × Nat)) : packed ((k, n) :: cells) = le k n ++ packed cells := by
  rw [packed, packed, List.flatMap_cons]

/-- The offset, the size and the number of each, from an offset on. -/
def rowsFrom : Nat → List (Nat × Nat) → List (Nat × Nat × Nat)
  | _, [] => []
  | o, c :: cells => (o, c.1, c.2) :: rowsFrom (o + c.1) cells

theorem packed_length (cells : List (Nat × Nat)) : (packed cells).length = (cells.map Prod.fst).sum := by
  rw [packed, List.length_flatMap]
  simp

/-- The bytes hold the numbers of the rows, as much of each as its size holds. -/
def Laid (bytes : List Byte) (rows : List (Nat × Nat × Nat)) : Prop :=
  ∀ x ∈ rows, field bytes x.1 x.2.1 = x.2.2 % 256 ^ x.2.1

theorem Laid.row {bytes : List Byte} {rows : List (Nat × Nat × Nat)} {o k n : Nat} (h : Laid bytes rows)
    (hx : (o, k, n) ∈ rows) : field bytes o k = n % 256 ^ k := h (o, k, n) hx

theorem field_append (before bytes : List Byte) (k : Nat) : field (before ++ bytes) before.length k = ofLe (bytes.take k) := by
  rw [field, List.drop_left]

theorem laid_packed (before : List Byte) (cells : List (Nat × Nat)) (rest : List Byte) :
    Laid (before ++ (packed cells ++ rest)) (rowsFrom before.length cells) := by
  induction cells generalizing before with
  | nil => exact fun x hx => absurd hx (by simp [rowsFrom])
  | cons c cells ih =>
    obtain ⟨k, n⟩ := c
    rw [packed_cons, List.append_assoc]
    refine List.forall_mem_cons.2 ⟨?_, ?_⟩
    · rw [field_append, List.take_left' (le_length ..), ofLe_le]
    · have := ih (before ++ le k n)
      rwa [List.length_append, le_length, List.append_assoc] at this

/-- The rows a record of packed numbers holds, whatever follows them. -/
theorem Laid.of_packed {bytes : List Byte} {cells : List (Nat × Nat)} {rest : List Byte}
    {rows : List (Nat × Nat × Nat)} (hb : bytes = packed cells ++ rest) (hr : ∀ x ∈ rows, x ∈ rowsFrom 0 cells) :
    Laid bytes rows := fun x hx => by
  rw [hb]
  exact laid_packed [] cells rest x (hr x hx)

/-- The rows of a record that is packed numbers and nothing else. -/
theorem Laid.of_packed_only {bytes : List Byte} {cells : List (Nat × Nat)} {rows : List (Nat × Nat × Nat)}
    (hb : bytes = packed cells) (hr : ∀ x ∈ rows, x ∈ rowsFrom 0 cells) : Laid bytes rows :=
  .of_packed (rest := []) (by rw [hb, List.append_nil]) hr

/-- The W figures of a record of packed numbers. -/
theorem power_of_packed {bytes : List Byte} {cells : List (Nat × Nat)} {rows : List (Nat × Option Int)}
    (hb : bytes = packed cells) (hr : ∀ x ∈ rows, (x.1, 4, wattsCode x.2) ∈ rowsFrom 0 cells) :
    ∀ x ∈ rows, match x.2 with
      | none => wattsField bytes x.1 = -2147483648
      | some w => -2147483648 ≤ w → w < 2147483648 → wattsField bytes x.1 = w := by
  rintro ⟨o, w⟩ hx
  have hfield : field bytes o 4 = wattsCode w % 256 ^ 4 :=
    Laid.of_packed_only hb (rows := [(o, 4, wattsCode w)]) (List.forall_mem_singleton.2 (hr _ hx)) _
      (List.mem_singleton_self _)
  cases w with
  | none => simp only [wattsField, hfield]; decide
  | some w => exact fun h1 h2 => by rw [wattsField, hfield, signed32_wattsCode h1 h2]

/-! ### The records, as numbers one after another -/

theorem Receipt.bytes_eq (r : Receipt) : r.bytes = packed [(4, r.number), (2, r.session), (1, r.port),
      (1, authorizerCode r.authorizer), (1, r.flags.bits), (1, r.slot), (2, r.tariffId), (4, r.created),
      (4, r.authorized), (4, r.ended), (4, r.priced), (3, r.total), (3, r.energy.solar), (3, r.energy.battery),
      (3, r.energy.grid), (2, r.rate.solar), (2, r.rate.battery), (2, r.rate.grid), (3, r.purchases), (3, r.earned),
      (3, r.applied), (3, r.taken.solar), (3, r.taken.battery), (3, r.taken.grid), (3, r.billed.solar),
      (3, r.billed.battery), (3, r.billed.grid), (3, r.line.solar), (3, r.line.battery), (3, r.line.grid), (4, r.idle),
      (4, r.billableMinutes), (3, r.idleFee), (3, r.amount), (1, r.links.length)] ++
    (textBytes (some r.label) ++ textBytes r.customer ++ r.links.flatMap PurchaseLink.bytes) := by
  generalize hl : packed _ ++ _ = l
  simp only [packed_cons, packed_nil, List.append_assoc, List.nil_append] at hl
  unfold Receipt.bytes BySource.bytes
  simp only [byte_cons, List.append_assoc, List.nil_append]
  exact hl

theorem Session.bytes_eq (x : Session) : x.bytes = packed [(2, x.number), (1, x.port), (1, x.state.code), (1, x.holds.bits),
      (1, authorizerCode x.authorizer), (1, x.slot.getD 255),
      (1, bits [x.authorized.isSome, x.ended.isSome, x.departure.isSome]), (4, x.created), (4, x.authorized.getD 0),
      (4, x.ended.getD 0), (4, x.departure.getD 0), (2, x.demand), (2, x.effMin), (2, x.allocation), (1, x.deferral),
      (1, x.cls.code), (3, x.total), (3, x.energy.solar), (3, x.energy.battery), (3, x.energy.grid), (4, x.idle),
      (1, x.links.length), (3, (x.links.map PurchaseLink.amount).sum), (1, x.flags.bits)] := by
  generalize hl : packed _ = l
  simp only [packed_cons, packed_nil] at hl
  unfold Session.bytes BySource.bytes numberOr purchaseTotal
  simp only [slotByte_eq, byte_cons, List.append_assoc, List.nil_append]
  exact hl

theorem portStatusBytes_eq {s : State} {p : Nat} {mode : ChargerMode} {setpoint : Nat}
    (h : (s.field.unit p).delivered = .charger mode setpoint) :
    portStatusBytes s p = packed [(1, ((s.sessions.record p).state.map PortState.code).getD 255),
      (2, ((s.sessions.holder p).map Session.number).getD 0), (2, setpoint), (1, mode.code),
      (1, (s.sessions.record p).fault.toNat), (1, (s.metering.meter p).last.isSome.toNat),
      (4, (s.metering.meter p).last.getD 0), (4, (s.metering.meter p).unbilled), (1, position p s.sessions.waiting)] := by
  simp only [portStatusBytes, numberOr, packed_cons, packed_nil, h, codeOr_eq, yesNo_eq, byte_cons,
    List.append_assoc, List.nil_append]

theorem queueStatusBytes_eq (q : ReceiptQueue) (waiting : Nat) :
    queueStatusBytes q waiting = packed [(1, q.retained.length), (1, q.unread), (1, q.mark.toNat),
      (1, q.retained.length - q.unread), (4, (receiptAt q 0).getD 0), (4, (receiptAt q q.read).getD 0),
      (4, (q.retained.getLast?.map Receipt.number).getD 0), (1, q.notify), (1, q.high), (1, waiting)] := by
  simp only [queueStatusBytes, numberOr, packed_cons, packed_nil, yesNo_eq, byte_cons, List.append_assoc, List.nil_append]

theorem DiscrepancyLog.bytes_none {g : DiscrepancyLog} (h : g.record = none) :
    g.bytes = packed [(1, g.lock.code), (20, 0), (1, g.minor), (1, g.major)] := by
  have hzero : List.replicate 20 0x00#8 = le 20 0 := by decide
  simp only [DiscrepancyLog.bytes, discrepancyBytes, packed_cons, packed_nil, h, hzero, byte_cons,
    List.append_assoc, List.nil_append]

theorem DiscrepancyLog.bytes_some {g : DiscrepancyLog} {d : Discrepancy} (h : g.record = some d) :
    g.bytes = packed [(1, g.lock.code), (1, d.kind.code), (1, d.port), (2, d.session.getD 0), (4, d.reading), (4, d.last),
      (4, d.bound.getD 0), (4, d.time), (1, g.minor), (1, g.major)] := by
  simp only [DiscrepancyLog.bytes, discrepancyBytes, numberOr, packed_cons, packed_nil, h, byte_cons,
    List.append_assoc, List.nil_append]

theorem CandidateEntry.bytes_eq (e : CandidateEntry) :
    e.bytes = packed [(2, e.session), (1, e.port), (2, e.allocation), (1, e.count), (1, e.cls.code),
      (1, e.admitted.toNat)] := by
  simp only [CandidateEntry.bytes, packed_cons, packed_nil, yesNo_eq, byte_cons, List.append_assoc, List.nil_append]

theorem PortTarget.bytes_eq (t : PortTarget) :
    t.bytes = packed [(1, t.port), (2, t.session.getD 0), (2, t.setpoint)] := by
  simp only [PortTarget.bytes, numberOr, packed_cons, packed_nil, byte_cons, List.append_assoc, List.append_nil]

theorem readTariffBody_eq (t : TariffStore) (k : Nat) :
    readTariffBody t k = packed [(1, k), (1, (t.slot k).state.code), (1, (t.slot k).uses), (1, (t.active == some k).toNat)] ++
      if (t.slot k).state = .valid then recordBytes (t.slot k).bytes else [] := by
  simp only [readTariffBody, packed_cons, packed_nil, yesNo_eq, byte_cons, List.append_assoc, List.nil_append]

theorem phantomFeeder_eq (v : Vector Nat 4) :
    v.toList.flatMap (le 2) = packed [(2, nth v 0 1), (2, nth v 0 2), (2, nth v 0 3), (2, nth v 0 4)] := by
  obtain ⟨⟨l⟩, hl⟩ := v
  obtain ⟨a, b, c, d, rfl⟩ := List.length_eq_four.1 hl
  simp only [packed_cons, packed_nil]
  rfl

theorem packed_append (xs ys : List (Nat × Nat)) : packed (xs ++ ys) = packed xs ++ packed ys := by
  rw [packed, packed, packed, List.flatMap_append]

theorem sitePage0_eq (s : State) : sitePageBytes s 0 = packed
    [(4, s.runTime), (1, s.links.part.code), (1, s.balance.record.siteState.code), (2, s.balance.record.budget),
      (4, wattsCode (some s.balance.record.budgetW)), (2, s.balance.record.phantomTotal),
      (2, nth s.balance.record.phantomFeeder 0 1), (2, nth s.balance.record.phantomFeeder 0 2),
      (2, nth s.balance.record.phantomFeeder 0 3), (2, nth s.balance.record.phantomFeeder 0 4),
      (4, wattsCode (some (s.balance.record.storeEff : Int))), (4, wattsCode (some (s.balance.record.pvEff : Int))),
      (4, wattsCode (some (s.balance.record.batteryEff : Int))), (2, s.balance.record.mix.solar),
      (2, s.balance.record.mix.battery), (2, s.balance.record.mix.grid), (1, s.balance.record.flags.bits),
      (2, s.balance.settings.importLimit), (2, s.balance.settings.margin), (2, s.balance.settings.exportLimit),
      (2, s.balance.settings.storePeak), (2, s.balance.settings.fallback), (1, s.links.tillGrant.toNat),
      (1, s.links.tillFirst), (1, s.links.tillLast), (4, s.links.clock.time), (1, s.links.clock.isSet.toNat),
      (4, (restoreRemaining s.runTime s.balance.restoreTimer).getD 4294967295)] := by
  generalize hl : packed _ = l
  simp only [packed_cons, packed_nil] at hl
  unfold sitePageBytes sitePage0 BalanceRecord.bytes SiteSettings.bytes
  simp only [if_true, phantomFeeder_eq, packed_cons, packed_nil, watts_eq, yesNo_eq, timeOr_eq, byte_cons,
    List.append_assoc, List.append_nil]
  simp only [List.append_nil] at hl
  exact hl

theorem sitePage0_restore (s : State) : field (sitePageBytes s 0) 59 4 =
    (restoreRemaining s.runTime s.balance.restoreTimer).getD 4294967295 % 256 ^ 4 := by
  have hlaid : Laid (sitePageBytes s 0) [(59, 4, (restoreRemaining s.runTime s.balance.restoreTimer).getD 4294967295)] :=
    .of_packed_only (sitePage0_eq s) (by simp [rowsFrom])
  exact hlaid.row (List.mem_singleton_self _)

/-! ### The records of the measuring units -/

/-- The age of a record in milliseconds, or the absent one. -/
def ageCode {α : Type} (now : Nat) (m : Measurement α) : Nat := (m.arrival.map fun t => now - t).getD 4294967295

theorem ageAndState_eq {α : Type} (now : Nat) (m : Measurement α) :
    ageAndState now m = packed [(4, ageCode now m), (1, m.fresh.toNat)] := by
  cases hf : m.fresh <;>
    simp only [ageAndState, ageCode, timeOr_eq, packed_cons, packed_nil, hf, byte_cons, Bool.toNat_true, Bool.toNat_false,
      if_true, if_false, Bool.false_eq_true]

/-- A yes or no, or its absence, in one byte. -/
def yesCode (v : Option Bool) : Nat := (v.map Bool.toNat).getD 255

theorem yesCode_eq (v : Option Bool) : codeOr (v.map fun b => if b then 1 else 0) = byte (yesCode v) := by
  obtain _ | _ | _ := v <;> rfl

theorem gridBytes_eq (s : State) : measurementBytes s 33 = packed
    [(4, wattsCode (s.balance.grid.value.map GridValues.power)), (1, yesCode (s.balance.grid.value.map GridValues.present)),
      (4, ageCode s.runTime s.balance.grid), (1, s.balance.grid.fresh.toNat), (1, s.balance.overrun.toNat)] := by
  have hcode : codeOr (s.balance.grid.value.map fun v => if v.present then 1 else 0) =
      byte (yesCode (s.balance.grid.value.map GridValues.present)) := by
    rw [← yesCode_eq, Option.map_map]; rfl
  simp only [measurementBytes, if_true, hcode, wattsOr_eq, ageAndState_eq, yesNo_eq, packed_cons, packed_nil, byte_cons,
    List.append_assoc, List.nil_append]

theorem storeBytes_eq (s : State) : measurementBytes s 34 = packed
    [(4, wattsCode (s.balance.store.value.map Int.ofNat)), (4, ageCode s.runTime s.balance.store),
      (1, s.balance.store.fresh.toNat)] := by
  have hbytes : measurementBytes s 34 =
      wattsOr (s.balance.store.value.map Int.ofNat) ++ ageAndState s.runTime s.balance.store := by
    cases hv : s.balance.store.value <;> simp only [measurementBytes, hv] <;> rfl
  rw [hbytes, wattsOr_eq, ageAndState_eq, ← packed_cons]

theorem inverterBytes_eq (s : State) {k : Nat} (h1 : 1 ≤ k) (h4 : k ≤ 4) : measurementBytes s (34 + k) = packed
    [(4, wattsCode ((s.balance.inverter k).value.map fun v => (v.output : Int))),
      (4, wattsCode ((s.balance.inverter k).value.map fun v => (v.available : Int))),
      (1, yesCode ((s.balance.inverter k).value.map InverterValues.curtailed)),
      (4, ageCode s.runTime (s.balance.inverter k)), (1, (s.balance.inverter k).fresh.toNat)] := by
  have hcode : codeOr ((s.balance.inverter k).value.map fun v => if v.curtailed then 1 else 0) =
      byte (yesCode ((s.balance.inverter k).value.map InverterValues.curtailed)) := by
    rw [← yesCode_eq, Option.map_map]; rfl
  rw [measurementBytes, if_neg (by omega), if_neg (by omega), if_pos (by omega), Nat.add_sub_cancel_left]
  simp only [hcode, wattsOr_eq, ageAndState_eq, packed_cons, packed_nil, byte_cons, List.append_assoc,
    List.append_nil]

theorem batteryValueBytes_eq (v : Option BatteryValues) : batteryValueBytes v = packed
    [(2, (v.map BatteryValues.soc).getD (Config.openValue .absentPerMille)), (4, wattsCode (v.map BatteryValues.power)),
      (4, wattsCode (v.map fun x => (x.maxCharge : Int))), (4, wattsCode (v.map fun x => (x.maxDischarge : Int))),
      (1, (v.map fun x => x.state.code).getD 255)] := by
  have hsoc : perMilleOr (v.map BatteryValues.soc) =
      le 2 ((v.map BatteryValues.soc).getD (Config.openValue .absentPerMille)) := by cases v <;> rfl
  simp only [batteryValueBytes, hsoc, wattsOr_eq, codeOr_eq, packed_cons, packed_nil, byte_cons, List.append_assoc]

theorem batteryBytes_eq (s : State) : measurementBytes s 39 = packed
    [(2, (s.balance.battery.value.map BatteryValues.soc).getD (Config.openValue .absentPerMille)),
      (4, wattsCode (s.balance.battery.value.map BatteryValues.power)),
      (4, wattsCode (s.balance.battery.value.map fun x => (x.maxCharge : Int))),
      (4, wattsCode (s.balance.battery.value.map fun x => (x.maxDischarge : Int))),
      (1, (s.balance.battery.value.map fun x => x.state.code).getD 255), (4, ageCode s.runTime s.balance.battery),
      (1, s.balance.battery.fresh.toNat)] := by
  have hbytes : measurementBytes s 39 =
      batteryValueBytes s.balance.battery.value ++ ageAndState s.runTime s.balance.battery := rfl
  rw [hbytes, batteryValueBytes_eq, ageAndState_eq, ← packed_append]
  rfl

theorem phantomBytes_eq {b : SiteBalanceUnit} {p : Nat} {k : Phantom} (h : b.phantom p = some k) :
    phantomBytes b p = byte p :: (le 2 k.current ++ [yesNo k.timer.isNone]) := by
  simp only [phantomBytes, SiteBalanceUnit.reserved, h, List.cons_append, List.nil_append]

end Sys2Proof.Machine

namespace Sys2Proof.Machine

/-! ## What the status requests answer (R24, R47, R70, R105, R127, R148) -/

section
variable {s : State} {l : Link}

theorem exec_siteStatus (hl : s.slotFree .site) (tag : Byte) (page : Nat) :
    exec (.siteStatus .site tag (.fits page)) s = .next (if page ≤ 2
      then s.replied .site 0x60#8 tag .ok (sitePageBytes s page) else s.replied .site 0x60#8 tag .outOfRange []) := by
  by_cases h : page ≤ 2
  · rw [if_pos h]
    exact serve_site_answered s .ok (sitePageBytes s page) hl rfl (if_pos h)
  · rw [if_neg h]
    exact serve_site_answered s .outOfRange [] hl rfl (if_neg h)

theorem exec_unitStatus (hl : s.slotFree .site) (tag : Byte) {u : Nat} (hu : 1 ≤ u) :
    exec (.unitStatus .site tag (.fits u)) s = .next (if u ≤ 39 then
        if (s.field.unit u).present = true then s.replied .site 0x62#8 tag .ok (unitStatusBytes s u)
        else s.replied .site 0x62#8 tag .notFound []
      else s.replied .site 0x62#8 tag .outOfRange []) := by
  have hh : handleUnitStatus (s.frameEnd .site) u = if u ≤ 39 then
        if (s.field.unit u).present = true then report (s.frameEnd .site) (unitStatusBytes s u)
        else refuse (s.frameEnd .site) .notFound
      else refuse (s.frameEnd .site) .outOfRange := if_neg (by omega)
  by_cases h : u ≤ 39
  · rw [if_pos h] at hh ⊢
    by_cases hp : (s.field.unit u).present = true
    · rw [if_pos hp] at hh ⊢
      exact serve_site_answered s .ok (unitStatusBytes s u) hl rfl hh
    · rw [if_neg hp] at hh ⊢
      exact serve_site_answered s .notFound [] hl rfl hh
  · rw [if_neg h] at hh ⊢
    exact serve_site_answered s .outOfRange [] hl rfl hh

theorem exec_readTariff (hl : s.slotFree .site) (tag : Byte) {k : Nat} (hk : k ≤ 7) :
    exec (.readTariff .site tag (.fits k)) s = .next (match s.store.operation with
      | some op => s.replied .site 0x33#8 tag .busy [byte op.slot, byte op.kind.code, byte op.phase.code]
      | none => s.replied .site 0x33#8 tag .ok (readTariffBody s.store k)) := by
  cases ho : s.store.operation with
  | none =>
    refine serve_site_answered s .ok (readTariffBody s.store k) hl rfl ?_
    rw [handleReadTariff, if_pos hk, State.frameEnd_store, ho]
  | some op =>
    refine serve_site_answered s .busy [byte op.slot, byte op.kind.code, byte op.phase.code] hl rfl ?_
    rw [handleReadTariff, if_pos hk, State.frameEnd_store, ho]

theorem exec_sessionStatus (hl : s.slotFree .site) (hp : s.links.part = .live) (tag : Byte) (n : Nat) :
    exec (.sessionStatus .site tag (.fits n)) s = .next (match s.sessions.find n with
      | none => s.replied .site 0x25#8 tag .notFound []
      | some x => s.replied .site 0x25#8 tag .ok x.bytes) := by
  cases hx : s.sessions.find n with
  | none =>
    refine serve_site_answered s .notFound [] hl (Allowed.liveOnly_live hp) ?_
    rw [handleSessionStatus, State.frameEnd_sessions, hx]
    rfl
  | some x =>
    refine serve_site_answered s .ok x.bytes hl (Allowed.liveOnly_live hp) ?_
    rw [handleSessionStatus, State.frameEnd_sessions, hx]
    rfl

theorem exec_allocStatus (hl : s.slotFree .site) (hp : s.links.part = .live) (tag : Byte) (page : Nat) :
    exec (.allocStatus .site tag (.fits page)) s = .next (if page ≤ 3
      then s.replied .site 0x61#8 tag .ok (allocPageBytes s page) else s.replied .site 0x61#8 tag .outOfRange []) := by
  by_cases h : page ≤ 3
  · rw [if_pos h]
    exact serve_site_answered s .ok (allocPageBytes s page) hl (Allowed.liveOnly_live hp) (if_pos h)
  · rw [if_neg h]
    exact serve_site_answered s .outOfRange [] hl (Allowed.liveOnly_live hp) (if_neg h)

theorem exec_portStatus (hl : s.slotFree l) (hp : s.links.part = .live) (tag : Byte) (p : Nat) :
    exec (.portStatus l tag (.fits p)) s = .next (if 1 ≤ p ∧ p ≤ 32 then
        match s.sessions.entry p with
        | none => s.replied l 0x26#8 tag .notFound []
        | some _ => s.replied l 0x26#8 tag .ok (portStatusBytes s p)
      else s.replied l 0x26#8 tag .outOfRange []) := by
  have owner : ∀ status body, handlePortStatus (s.frameEnd l) p =
      { state := s.frameEnd l, status := status, body := body } →
      exec (.portStatus l tag (.fits p)) s = .next (s.replied l 0x26#8 tag status body) := fun status body =>
    serve_owner s status body hl (fun _ => rfl) (Allowed.liveOnly_live hp) fun _ => rfl
  by_cases h : 1 ≤ p ∧ p ≤ 32
  · rw [if_pos h]
    cases he : s.sessions.entry p with
    | none => exact owner .notFound [] (by rw [handlePortStatus, if_pos h, State.frameEnd_sessions, he]; rfl)
    | some e => exact owner .ok (portStatusBytes s p) (by rw [handlePortStatus, if_pos h, State.frameEnd_sessions, he]; rfl)
  · rw [if_neg h]
    exact owner .outOfRange [] (if_neg h)

/-- R148: what is asked for, when the value is in the range of its selector. -/
theorem copyAsked_eq (selector n : Nat) : copyAsked { selector := selector, value := n } =
    if (selector = 0 ∧ 1 ≤ n ∧ n ≤ 65535) ∨ (selector = 1 ∧ 1 ≤ n ∧ n ≤ 32)
    then some fun r => if selector = 0 then r.session == n else r.port == n else none := by
  by_cases h0 : selector = 0 ∧ 1 ≤ n ∧ n ≤ 65535
  · rw [copyAsked, if_pos h0, if_pos (.inl h0)]
    simp only [h0.1, if_true]
  · by_cases h1 : selector = 1 ∧ 1 ≤ n ∧ n ≤ 32
    · rw [copyAsked, if_neg h0, if_pos h1, if_pos (.inr h1)]
      simp only [h1.1, Nat.one_ne_zero, if_false]
    · rw [copyAsked, if_neg h0, if_neg h1, if_neg (not_or.2 ⟨h0, h1⟩)]

theorem exec_receiptCopy_none (hl : s.slotFree l) (hp : s.links.part = .live) (tag : Byte) {f : CopyFields}
    (ha : copyAsked f = none) :
    exec (.receiptCopy l tag (.fits f)) s = .next (s.replied l 0x45#8 tag .outOfRange []) :=
  serve_owner s .outOfRange [] hl (fun _ => rfl) (Allowed.liveOnly_live hp) (fun _ => rfl) (by
    rw [handleReceiptCopy, ha]; rfl)

theorem exec_receiptCopy_some (hl : s.slotFree l) (hp : s.links.part = .live) (tag : Byte) {f : CopyFields}
    {asked : Receipt → Bool} (ha : copyAsked f = some asked) :
    exec (.receiptCopy l tag (.fits f)) s = .next (match s.builder.recent.find? asked with
      | none => s.replied l 0x45#8 tag .notFound []
      | some r => s.replied l 0x45#8 tag .ok r.bytes) := by
  have owner : ∀ status body, handleReceiptCopy (s.frameEnd l) f =
      { state := s.frameEnd l, status := status, body := body } →
      exec (.receiptCopy l tag (.fits f)) s = .next (s.replied l 0x45#8 tag status body) := fun status body =>
    serve_owner s status body hl (fun _ => rfl) (Allowed.liveOnly_live hp) fun _ => rfl
  simp only [handleReceiptCopy, ha, State.frameEnd_builder] at owner
  cases hr : s.builder.recent.find? asked with
  | none => exact owner .notFound [] (by rw [hr]; rfl)
  | some r => exact owner .ok r.bytes (by rw [hr])

end

/-! ## The records of RECEIPT_COPY and READ_TARIFF (R127, R177, R178) -/

/-- Purchase links with references of 8 characters take 11 bytes each. -/
theorem purchaseLinks_length {ks : List PurchaseLink} (h : ∀ k ∈ ks, k.reference.length = 8) :
    (ks.flatMap PurchaseLink.bytes).length = 11 * ks.length := by
  induction ks with
  | nil => rfl
  | cons k ks ih =>
    obtain ⟨hk, hks⟩ := List.forall_mem_cons.1 h
    rw [List.flatMap_cons, List.length_append, ih hks, PurchaseLink.bytes, List.length_append, hk, le_length,
      List.length_cons]
    omega

theorem Receipt.bytes_tail (r : Receipt) :
    r.bytes.drop 97 = textBytes (some r.label) ++ textBytes r.customer ++ r.links.flatMap PurchaseLink.bytes := by
  rw [r.bytes_eq]
  exact List.drop_left' (by simp [packed_length])

theorem Receipt.bytes_length (r : Receipt) : r.bytes.length = 98 + r.label.length + (textBytes r.customer).length +
    (r.links.flatMap PurchaseLink.bytes).length := by
  rw [r.bytes_eq, List.length_append, packed_length]
  simp [textBytes]
  omega

theorem tariffFixed_length (f : TariffFields) : (tariffFixed f).length = 22 := by simp [tariffFixed]

/-- The record bytes of a slot that a PROGRAM_TARIFF has filled. -/
theorem recordBytes_slotImage (k : Nat) {f : TariffFields} (h : tariffInRange f = true) :
    recordBytes (slotImage k f) = tariffFixed f ++ textBytes f.label := by
  obtain ⟨t, ht, hlen⟩ : ∃ t, f.label = some t ∧ t.length ≤ 12 := by
    cases ht : f.label with
    | none => simp [tariffInRange, ht] at h
    | some t =>
      simp only [tariffInRange, ht, Bool.and_eq_true, decide_eq_true_eq] at h
      exact ⟨t, rfl, h.2.1⟩
  obtain ⟨rest, hrest⟩ : ∃ rest, slotImage k f = tariffFixed f ++ (byte t.length :: (t ++ rest)) := by
    refine ⟨List.replicate (12 - t.length) 0x00#8 ++ checkBytes (slotCheck k (tariffKept f)), ?_⟩
    simp only [slotImage, tariffKept, ht, Option.getD_some, List.append_assoc, List.cons_append]
  have hlabel : (readTariff (slotImage k f)).label = t := by
    have hfield : field (slotImage k f) 22 1 = t.length := by
      rw [hrest, ← tariffFixed_length f, field_append, byte_cons, List.take_left' (le_length ..),
        ofLe_le_of_lt (by omega)]
    have hdrop : (slotImage k f).drop 23 = t ++ rest := by
      rw [hrest, show 23 = (tariffFixed f).length + 1 by rw [tariffFixed_length], List.drop_append]
      rfl
    simp only [readTariff, hfield, hdrop]
    rw [Nat.min_eq_right hlen, List.take_left]
  rw [recordBytes, hlabel, ht, hrest, List.take_left' (tariffFixed_length f)]

/-! ## The pages of ALLOC_STATUS (R70) -/

theorem counted_eq {α : Type} (f : α → List Byte) (xs : List α) :
    counted f xs = byte (xs.map f).length :: (xs.map f).flatten := by
  rw [counted, List.length_map, List.flatMap_def]

/-- The time from one run time to another that may be absent. -/
def sinceCode (now : Nat) (t : Option Nat) : Nat := (t.map fun t => now - t).getD 4294967295

/-- The remaining time to one that may be absent. -/
def untilCode (now : Nat) (t : Option Nat) : Nat := (t.map fun t => t - now).getD 4294967295

/-- The configured feeders. -/
def PowerAllocator.configured (a : PowerAllocator) : List Nat :=
  [1, 2, 3, 4].filter fun f => (nth a.feeders none f).isSome

theorem allocPage0_eq (s : State) : allocPageBytes s 0 = packed
    [(4, s.allocator.round), (1, s.allocator.high), (1, s.allocator.urgent), (2, s.allocator.period),
      (4, sinceCode s.runTime s.allocator.lastRun), (1, s.allocator.pending.toNat),
      (4, untilCode s.runTime s.allocator.spacing), (1, s.allocator.applied.toNat),
      (1, s.allocator.configured.length)] ++
    (s.allocator.configured.flatMap (feederBytes s.allocator) ++ totalsBytes s.allocator.last) := by
  generalize hl : packed _ ++ _ = l
  simp only [packed_cons, packed_nil, List.append_assoc, List.nil_append] at hl
  unfold allocPageBytes allocPage0 counted
  simp only [if_true, yesNo_eq, timeOr_eq, byte_cons, List.append_assoc, List.nil_append]
  exact hl

theorem feederBytes_none_length {a : PowerAllocator} (h : a.last = none) (k : Nat) : (feederBytes a k).length = 7 := by
  simp [feederBytes, h, numberOr]

/-- Before the first result the totals are 11 bytes, the site state absent. -/
theorem totalsBytes_none : (totalsBytes none).length = 11 ∧ (totalsBytes none).take 1 = [absentCode] := by
  constructor <;> simp [totalsBytes]

theorem feederBytes_some {a : PowerAllocator} {r : AllocationResult} {k : Nat} {g : FeederFigure} (h : a.last = some r)
    (hg : (r.feeders.find? fun g => g.feeder == k) = some g) (hroom : 0 ≤ g.room) :
    feederBytes a k = byte k :: (le 2 ((nth a.feeders none k).getD 0) ++ (le 2 g.room.toNat ++ le 2 g.allocated)) := by
  simp only [feederBytes, h, Option.map_some, Option.bind_some, hg, roomBytes, if_pos hroom, numberOr, List.append_assoc]
  rfl

/-- Page 0 before the first result. -/
theorem allocPage0_none {s : State} (h : s.allocator.last = none) :
    (allocPageBytes s 0).length = 30 + 7 * s.allocator.configured.length ∧
      field (allocPageBytes s 0) (19 + 7 * s.allocator.configured.length) 1 = 255 := by
  obtain ⟨htotals, hcode⟩ := totalsBytes_none
  have hfeeders : (s.allocator.configured.flatMap (feederBytes s.allocator)).length =
      7 * s.allocator.configured.length := by
    rw [List.length_flatMap, List.map_congr_left fun k _ => feederBytes_none_length h k]
    simp [Nat.mul_comm]
  rw [allocPage0_eq, h, ← List.append_assoc]
  generalize hfront : packed _ ++ List.flatMap _ _ = front
  have hlen : front.length = 19 + 7 * s.allocator.configured.length := by
    rw [← hfront, List.length_append, packed_length, hfeeders]
    simp
  refine ⟨by rw [List.length_append, hlen, htotals]; omega, ?_⟩
  rw [← hlen, field_append, hcode]
  rfl

/-- Page 0 after a result in which every configured feeder has a figure. -/
theorem allocPage0_some {s : State} {r : AllocationResult} (h : s.allocator.last = some r) :
    (allocPageBytes s 0).drop 19 = s.allocator.configured.flatMap (feederBytes s.allocator) ++ totalsBytes (some r) := by
  rw [allocPage0_eq, h]
  exact List.drop_left' (by simp [packed_length])

/-! ## UNIT_STATUS (R87, R105) -/

/-- A W figure that may be absent, when it fits four bytes. -/
theorem wattsOr_some_eq (w : Int) : wattsOr (some w) =
    if -2147483648 ≤ w ∧ w < 2147483648 then le 4 (w % 4294967296).toNat else watts w := by
  split
  · exact if_pos (by omega)
  · rfl

theorem timeOr_since (now : Nat) (t : Option Nat) : timeOr (t.map fun t => now - t) = le 4 (sinceCode now t) :=
  timeOr_eq _

theorem yesNo_if (b : Bool) : yesNo b = byte (if b then 1 else 0) := by cases b <;> rfl

theorem yesNo_contains (u : Nat) (xs : List Nat) : yesNo (xs.contains u) = byte (if u ∈ xs then 1 else 0) := by
  by_cases h : u ∈ xs <;> simp [yesNo, h] <;> rfl

theorem position_eq (u : Nat) (xs : List Nat) : position u xs = if u ∈ xs then xs.idxOf u + 1 else 0 := by
  simp [position]

theorem urgentBytes_eq (q : List UrgentEntry) (u : Nat) : urgentBytes q u =
    byte (if u ∈ q.map UrgentEntry.unit then (q.map UrgentEntry.unit).idxOf u + 1 else 0) ::
      wattsOr ((q.find? fun e => e.unit == u).map fun e => (e.figure : Int)) := by
  rw [urgentBytes, position_eq]

theorem counted_byte {α : Type} (f : α → Nat) (xs : List α) :
    counted (fun x => [byte (f x)]) xs = byte xs.length :: xs.map fun x => byte (f x) := by
  rw [counted, List.map_eq_flatMap]

theorem dispatchRecordBytes_none : dispatchRecordBytes none =
    le 4 0 ++ [0xFF#8, 0xFF#8] ++ (List.replicate 6 (le 4 2147483648)).flatten ++
      0xFF#8 :: (le 4 2147483648 ++ [0x00#8]) := by
  decide

end Sys2Proof.Machine

namespace Sys2Proof.Machine

/-- Settles O50. The answers come from the equation of each status request. A layout comes from the record written as
`packed`, a list of numbers with their widths: a row of the layout then only has to stand in that list at its place.
Pages and records of variable length are compared part by part, in the order in which they are sent. -/
theorem statusRepliesCarryTheirRecords : Obligations.StatusRepliesCarryTheirRecords := by
  refine ⟨fun s l tag hl => ⟨?_, ?_⟩, ?_⟩
  -- What the site client is answered.
  · rintro rfl
    refine ⟨?_, ?_, fun page h => ?_, fun page h => ?_, ?_, fun u h1 h2 hp => ?_, fun u h1 h2 hp => ?_,
      fun u h => ?_, fun k h ho => ?_, fun k op h ho => ?_, fun k h => ?_,
      fun hlive => ⟨fun x hx => ?_, fun n hn => ?_, ?_, fun page h => ?_, fun page h => ?_⟩⟩
    · exact serve_site_answered s .ok s.metering.log.bytes hl rfl rfl
    · exact serve_site_answered (s.setMetering { s.metering with log := DiscrepancyLog.reset }) .ok
        s.metering.log.bytes hl rfl rfl
    · rw [exec_siteStatus hl, if_pos h]
    · rw [exec_siteStatus hl, if_neg (by omega)]
    · exact serve_site_answered s .ok (linkSummaryBytes s) hl rfl rfl
    · rw [exec_unitStatus hl tag h1, if_pos h2, if_pos hp]
    · rw [exec_unitStatus hl tag h1, if_pos h2, if_neg (by simp [hp])]
    · rw [exec_unitStatus hl tag (by omega), if_neg (by omega)]
    · rw [exec_readTariff hl tag h, ho]
    · rw [exec_readTariff hl tag h, ho]
    · exact serve_site_answered s .outOfRange [] hl rfl (if_neg (Nat.not_le.2 h))
    · rw [exec_sessionStatus hl hlive, hx]
    · rw [exec_sessionStatus hl hlive, hn]
    · exact serve_site_answered s .ok (queueStatusBytes s.queue s.builder.waiting.length) hl
        (Allowed.liveOnly_live hlive) rfl
    · rw [exec_allocStatus hl hlive, if_pos h]
    · rw [exec_allocStatus hl hlive, if_neg (by omega)]
  -- What both clients are answered in LIVE.
  · intro hlive
    refine ⟨fun p e h1 h2 he => ?_, fun p h1 h2 he => ?_, fun p h => ?_, fun selector n => ?_⟩
    · rw [exec_portStatus hl hlive, if_pos ⟨h1, h2⟩, he]
    · rw [exec_portStatus hl hlive, if_pos ⟨h1, h2⟩, he]
    · rw [exec_portStatus hl hlive, if_neg (by omega)]
    · intro asked answer
      have hasked := copyAsked_eq selector n
      by_cases h : (selector = 0 ∧ 1 ≤ n ∧ n ≤ 65535) ∨ (selector = 1 ∧ 1 ≤ n ∧ n ≤ 32)
      · rw [if_pos h] at hasked ⊢
        have hanswer := exec_receiptCopy_some hl hlive tag (asked := asked) hasked
        exact ⟨fun r hr => hanswer.trans (by rw [hr]), fun hr => hanswer.trans (by rw [hr])⟩
      · rw [if_neg h] at hasked ⊢
        exact exec_receiptCopy_none hl hlive tag hasked
  -- Where the fields stand: first the records, then the pages of SITE_STATUS and ALLOC_STATUS, then UNIT_STATUS.
  · intro laid flagBits
    refine ⟨fun r => ?_, fun x => ?_, fun s p mode setpoint h => ?_, fun q waiting => ?_, fun g => ?_, fun e => ?_,
      fun t => ?_, fun t k => ?_, ?_⟩
    · refine ⟨Laid.of_packed r.bytes_eq fun y h => ?_, r.bytes_tail, fun h1 h2 h3 => ?_,
        fun h1 h2 h3 ⟨t, ht, h4⟩ => ?_⟩
      · simp only [rowsFrom, Nat.reduceAdd]
        exact h
      · rw [r.bytes_length, h1, h2, h3]
        rfl
      · rw [r.bytes_length, purchaseLinks_length h2, h1, h3, ht, textBytes, List.length_cons, h4]
    · refine ⟨by rw [x.bytes_eq, packed_length]; simp, Laid.of_packed_only x.bytes_eq fun y h => ?_⟩
      simp only [rowsFrom, Nat.reduceAdd]
      exact h
    · have hpos : position p s.sessions.waiting =
          if p ∈ s.sessions.waiting then s.sessions.waiting.idxOf p + 1 else 0 := by
        simp [position]
      have hb := portStatusBytes_eq h
      rw [hpos] at hb
      refine ⟨by rw [hb, packed_length]; simp, Laid.of_packed_only hb fun y h => ?_⟩
      simp only [rowsFrom, Nat.reduceAdd]
      exact h
    · intro receipt
      refine ⟨by rw [queueStatusBytes_eq, packed_length]; simp,
        Laid.of_packed_only (queueStatusBytes_eq q waiting) fun y h => ?_⟩
      simp only [rowsFrom, Nat.reduceAdd]
      exact h
    · cases hr : g.record with
      | none =>
        have hb := DiscrepancyLog.bytes_none hr
        refine ⟨by rw [hb, packed_length]; simp, Laid.of_packed_only hb ?_, Laid.of_packed_only hb ?_⟩ <;>
          simp [rowsFrom]
      | some d =>
        have hb := DiscrepancyLog.bytes_some hr
        refine ⟨by rw [hb, packed_length]; simp, Laid.of_packed_only hb ?_, Laid.of_packed_only hb ?_⟩ <;>
          simp [rowsFrom]
    · refine ⟨by rw [e.bytes_eq, packed_length]; simp, Laid.of_packed_only e.bytes_eq fun y h => ?_⟩
      simp only [rowsFrom, Nat.reduceAdd]
      exact h
    · refine ⟨by rw [t.bytes_eq, packed_length]; simp, Laid.of_packed_only t.bytes_eq fun y h => ?_⟩
      simp only [rowsFrom, Nat.reduceAdd]
      exact h
    · refine ⟨Laid.of_packed (readTariffBody_eq t k) fun y h => ?_, fun h => ?_, fun f hv hb hin => ?_⟩
      · simp only [rowsFrom, Nat.reduceAdd]
        exact h
      · rw [readTariffBody_eq, if_neg h, List.append_nil, packed_length]
        rfl
      · rw [readTariffBody_eq, if_pos hv, hb, recordBytes_slotImage k hin]
        exact List.drop_left' (by simp [packed_length])
    · intro age power yes batteryState
      have hage : ∀ (now : Nat) (t : Option Nat), age now t = sinceCode now t := fun now t => by cases t <;> rfl
      have hmeasured : ∀ {α : Type} (now : Nat) (m : Measurement α), age now m.arrival = ageCode now m :=
        fun now m => hage now m.arrival
      have hyes : ∀ v, yes v = yesCode v := fun v => by cases v <;> rfl
      refine ⟨fun s => ?_, fun s => ?_, fun s => ?_⟩
      · intro b r page
        refine ⟨?_, ?_, ?_, fun ht => ?_, fun t ht hs => ?_, ?_, ?_, ?_, ?_, fun k h1 h4 => ?_, ?_⟩
        · exact (congrArg List.length (sitePage0_eq s)).trans (by rw [packed_length]; simp)
        · exact Laid.of_packed_only (sitePage0_eq s) (by simp [rowsFrom, BalanceFlags.bits, r, b])
        · exact power_of_packed (sitePage0_eq s) (by simp [rowsFrom, r, b])
        · rw [sitePage0_restore, show s.balance.restoreTimer = none from ht]
          rfl
        · rw [sitePage0_restore, show s.balance.restoreTimer = some t from ht, restoreRemaining, Option.map_some,
            remainingSeconds, if_pos hs]
          rfl
        · rfl
        · refine congrArg (fun bytes => le 4 s.runTime ++ byte _ :: bytes) ?_
          refine List.flatMap_congr fun p hp => ?_
          obtain ⟨k, hk⟩ := Option.isSome_iff_exists.1 (List.mem_filter.1 hp).2
          rw [phantomBytes_eq hk, show b.phantom p = some k from hk]
        · have hb := gridBytes_eq s
          exact ⟨(congrArg List.length hb).trans (by rw [packed_length]; simp),
            power_of_packed hb (by simp [rowsFrom, b]),
            Laid.of_packed_only hb (by simp [rowsFrom, hyes, hmeasured, b])⟩
        · have hb := storeBytes_eq s
          exact ⟨(congrArg List.length hb).trans (by rw [packed_length]; simp),
            power_of_packed hb (by simp [rowsFrom, b]),
            Laid.of_packed_only hb (by simp [rowsFrom, hmeasured, b])⟩
        · have hb := inverterBytes_eq s h1 h4
          exact ⟨(congrArg List.length hb).trans (by rw [packed_length]; simp),
            power_of_packed hb (by simp [rowsFrom, b]),
            Laid.of_packed_only hb (by simp [rowsFrom, hyes, hmeasured, b])⟩
        · intro v m
          have hb := batteryBytes_eq s
          have hstate : batteryState v = (v.map fun x => x.state.code).getD 255 := by
            obtain _ | ⟨_, _, _, _, _ | _ | _⟩ := v <;> rfl
          refine ⟨(congrArg List.length hb).trans (by rw [packed_length]; simp), fun x hx => ?_,
            power_of_packed hb (by simp [rowsFrom, v, b]),
            Laid.of_packed_only hb (by simp [rowsFrom, hmeasured, hstate, v, b])⟩
          have hlaid : Laid m [(0, 2, x.soc)] :=
            .of_packed_only hb (by simp [rowsFrom, show s.balance.battery.value = some x from hx])
          exact hlaid.row (List.mem_singleton_self _)
      · intro a page feeders
        refine ⟨?_, allocPage0_none, fun r hr hall => ?_, ?_⟩
        · refine Laid.of_packed (allocPage0_eq s) ?_
          cases hs : s.allocator.spacing <;>
            simp [rowsFrom, hage, untilCode, a, feeders, PowerAllocator.configured]
        · rw [show page = allocPageBytes s 0 from rfl, allocPage0_some hr]
          have hfeeders : s.allocator.configured.flatMap (feederBytes s.allocator) =
              feeders.flatMap fun k => byte k :: (le 2 ((nth a.feeders none k).getD 0) ++
                match r.feeders.find? fun g => g.feeder == k with
                | none => []
                | some g => le 2 g.room.toNat ++ le 2 g.allocated) := by
            refine List.flatMap_congr fun k hk => ?_
            obtain ⟨g, hg, hroom⟩ := hall k hk
            rw [feederBytes_some hr hg hroom, hg]
          rw [hfeeders]
          simp only [totalsBytes, List.append_assoc] <;> rfl
        · intro entries targets listed
          have hentries : entries = lastEntries s.allocator := by
            show (match s.allocator.last with
              | none => []
              | some r => r.entries) = _
            rw [lastEntries]
            cases s.allocator.last <;> rfl
          have htargets : targets = lastTargets s.allocator := by
            show (match s.allocator.last with
              | none => []
              | some r => r.targets) = _
            rw [lastTargets]
            cases s.allocator.last <;> rfl
          have hlisted : ∀ {α : Type} (f : α → List Byte) (xs : List α),
              le 4 s.allocator.round ++ counted f xs = listed (xs.map f) := fun f xs => by rw [counted_eq]
          rw [hentries, htargets]
          exact ⟨hlisted _ _, hlisted _ _, hlisted _ _⟩
      · intro f d watt credit command basic v soc
        have hcommand : ∀ c : Command, c.bytes = command c := fun c => by
          obtain ⟨_, _⟩ | (_ | _ | _ | _) | (_ | _) | _ := c <;> rfl
        have hwatt : ∀ w : Option Int, wattsOr w = watt w := fun w => by
          cases w with
          | none => rfl
          | some w => exact wattsOr_some_eq w
        have hcredit : ∀ w : Option Nat, wattsOr (w.map fun n => (n : Int)) = wattsOr (credit w) := fun w => by
          cases w <;> rfl
        have hbasic : ∀ u, unitStatusBytes s u = basic u ++ (if u = 39 then batteryDispatchBytes s.dispatch
            else if 35 ≤ u ∧ u ≤ 38 then inverterDispatchBytes s.dispatch (u - 34) else []) := fun u => by
          simp only [basic, unitStatusBytes, hage, hcredit, urgentBytes_eq, ← hcommand, ← hwatt, timeOr_since,
            yesNo_contains, List.append_assoc, List.cons_append, List.nil_append]
          rfl
        refine ⟨fun u h => ?_, fun k h1 h4 => ?_, ?_, ?_⟩
        · rw [hbasic, if_neg (by omega), if_neg (by omega), List.append_nil]
        · rw [hbasic, if_neg (by omega), if_pos (by omega), Nat.add_sub_cancel_left, inverterDispatchBytes, hcredit,
            hcredit, hwatt, hwatt]
          exact (List.append_assoc _ _ _).symm
        · have hstate : batteryState v = (v.map fun x => x.state.code).getD 255 := by
            obtain _ | ⟨_, _, _, _, _ | _ | _⟩ := v <;> rfl
          have hsoc : perMilleOr (v.map BatteryValues.soc) = soc := by
            cases hv : v <;> simp only [soc, hv] <;> rfl
          rw [hbasic, if_pos rfl]
          have hrecord : dispatchRecordBytes s.dispatch.record = (match s.dispatch.record with
              | none => le 4 0 ++ [0xFF#8, 0xFF#8] ++ (List.replicate 6 (le 4 2147483648)).flatten ++
                  0xFF#8 :: (le 4 2147483648 ++ [0x00#8])
              | some r => le 4 (r.basis.getD 0) ++ [byte r.trigger.code, byte r.case.code] ++
                  watt (some r.net) ++ watt (some r.limit) ++ watt r.surplus ++ watt r.charge ++ watt r.remaining ++
                  watt (credit r.curtail) ++ command (.battery r.target) ++
                  byte r.limits.length :: r.limits.flatMap fun x => byte x.1 :: le 4 x.2) := by
            cases s.dispatch.record with
            | none => exact dispatchRecordBytes_none
            | some r =>
              simp only [dispatchRecordBytes, hcredit, ← hwatt, ← hcommand]
              rfl
          simp only [batteryDispatchBytes, BatteryPolicy.bytes, batteryValueBytes, hrecord, hstate, codeOr_eq, yesNo_if,
            ← hwatt, ← hsoc, List.append_assoc]
          rfl
        · intro held
          have hdecrease := counted_byte (fun u : Nat => u) s.field.decrease
          simp only [linkSummaryBytes, healthCount, counted_byte UrgentEntry.unit s.field.urgent, hdecrease,
            List.append_assoc]
          rfl

end Sys2Proof.Machine

namespace Sys2Proof.Machine

/-! ## Invariants carried along a command, block by block

`Kept` follows the session table and the ports. The invariants of the balance record, of the battery and of the energies
read other blocks: `Steady` says which operations on a block they have to survive, and every command is made of these. -/

/-- Right after RESTART or POWER_ON_RESET: every block that these invariants read is at its reset value (R169). -/
def State.AfterReset (t : State) : Prop :=
  t.links.part = .setup ∧ t.field = .reset ∧ t.balance = .reset ∧ t.dispatch = .reset ∧ t.sessions = .reset ∧
    t.allocator = .reset ∧ t.events = .reset

/-- Every next state of an outcome meets a claim. -/
def Reaches (Q : State → Prop) (o : Host.Outcome State Fault Refusal) : Prop := ∀ t, o = .next t → Q t

/-- A claim that speaks of no link, no run time and no queue of commands. -/
structure Unlinked (P : State → Prop) : Prop where
  links : ∀ {s} (c : LinkController), c.part = s.links.part → P s → P (s.setLinks c)
  time : ∀ {s} (n : Nat), P s → P { s with runTime := n }
  pending : ∀ {s} (q : List Instr), P s → P { s with pending := q }

/-- A claim about the state that the operations of the blocks keep, each under what is true of it wherever the part does it:
in LIVE no unit becomes present or absent and the watermarks stay in their order, a session keeps its energies within
bounds, and the restore timer runs on an entry to RESTORING. -/
structure Steady (P : State → Prop) : Prop where
  links : ∀ {s} (c : LinkController), (s.links.part = .live → c.part = .live) → P s → P (s.setLinks c)
  time : ∀ {s} (n : Nat), P s → P { s with runTime := n }
  pending : ∀ {s} (q : List Instr), P s → P { s with pending := q }
  draws : ∀ {s} (n : Nat), P s → P { s with draws := n }
  metering : ∀ {s} (m : MeteringUnit), P s → P (s.setMetering m)
  store : ∀ {s} (t : TariffStore), P s → P (s.setStore t)
  builder : ∀ {s} (b : ReceiptBuilder), P s → P (s.setBuilder b)
  queue : ∀ {s} (q : ReceiptQueue), P s → P (s.setQueue q)
  events : ∀ {s} (e : Events), P s → P (s.setEvents e)
  field : ∀ {s} (f : FieldLinkController),
    (s.links.part = .live → ∀ u, (f.unit u).present = (s.field.unit u).present) → P s → P (s.setField f)
  allocator : ∀ {s} (a : PowerAllocator),
    (s.links.part = .live → s.allocator.high < s.allocator.urgent → a.high < a.urgent) → P s → P (s.setAllocator a)
  sessions : ∀ {s} (c : SessionController), (s.EnergyWf → ∀ x ∈ c.table, x.EnergyWf) → P s → P (s.setSessions c)
  balance : ∀ {s} (b : SiteBalanceUnit), b.siteState = s.balance.siteState → b.restoreTimer = s.balance.restoreTimer →
    b.record = s.balance.record → P s → P (s.setBalance b)
  recompute : ∀ {s}, P s → P s.recompute
  changeSite : ∀ {s} (b : SiteBalanceUnit) (new : SiteState), b.record = s.balance.record →
    (new = .restoring → b.restoreTimer.isSome = true) → P s → P ((s.setBalance b).changeSite new)
  dispatch : ∀ {s} (d : BatteryDispatchUnit),
    (s.links.part = .live → s.DispatchWf → s.LiveWf → (s.setDispatch d).DispatchWf ∧ (s.setDispatch d).LiveWf) → P s →
    P (s.setDispatch d)

theorem Steady.unlinked {P : State → Prop} (h : Steady P) : Unlinked P :=
  ⟨fun c e hs => h.links c (fun k => e.trans k) hs, h.time, h.pending⟩

theorem State.AfterReset.unlinked : Unlinked State.AfterReset :=
  ⟨fun _ e ⟨hp, hs⟩ => ⟨e.trans hp, hs⟩, fun _ hs => hs, fun _ hs => hs⟩

theorem Unlinked.or {P Q : State → Prop} (hP : Unlinked P) (hQ : Unlinked Q) : Unlinked fun s => P s ∨ Q s :=
  ⟨fun c e => Or.imp (hP.links c e) (hQ.links c e), fun n => Or.imp (hP.time n) (hQ.time n),
    fun q => Or.imp (hP.pending q) (hQ.pending q)⟩

/-! ### What the links do -/

section
variable {P Q : State → Prop} {s : State}

theorem Unlinked.setPort (h : Unlinked P) (hs : P s) (l : Link) (p : LinkPort) : P (s.setLinks (s.links.setPort l p)) :=
  h.links _ (LinkController.setPort_part ..) hs

theorem Unlinked.settle (h : Unlinked P) (hs : P s) : P s.settle := h.links _ rfl hs

theorem Unlinked.reach (h : Unlinked P) (hs : P s) (expiry : Nat) : P (s.reach expiry) := h.time _ hs

theorem Unlinked.refuseBusy (h : Unlinked P) (hs : P s) (l : Link) (k t : Byte) : P (s.refuseBusy l k t) := by
  unfold State.refuseBusy
  split
  · exact hs
  · exact h.setPort hs _ _

theorem Unlinked.unknownFrame (h : Unlinked P) (hs : P s) (l : Link) (k t : Byte) : P (s.unknownFrame l k t) := by
  have hf : P (s.frameEnd l) := h.setPort hs _ _
  simp only [State.unknownFrame]
  split
  · exact h.refuseBusy hf l k t
  · exact h.setPort hf _ _

theorem Unlinked.reaches_done (h : Unlinked Q) (hs : Q s) : Reaches Q (done s) := fun t ht => by
  rw [← done_eq_next.1 ht]; exact h.settle hs

theorem reaches_nothing (hs : Q s) : Reaches Q (nothing s) := fun t ht => by
  rwa [← nothing_eq_next.1 ht]

theorem Unlinked.interByteTimeout (h : Unlinked Q) (hs : Q s) (l : Link) : Reaches Q (execInterByteTimeout l s) := by
  unfold execInterByteTimeout; split
  · exact reaches_nothing hs
  · exact h.reaches_done (h.setPort (h.reach hs _) _ _)

theorem Unlinked.frameDiscard (h : Unlinked Q) (hs : Q s) (l : Link) : Reaches Q (execFrameDiscard l s) := by
  unfold execFrameDiscard; split
  · exact reaches_nothing hs
  · exact h.reaches_done (h.setPort hs _ _)

theorem Unlinked.busyRefusal (h : Unlinked Q) (hs : Q s) (l : Link) (k t : Byte) :
    Reaches Q (execBusyRefusal l k t s) := by
  unfold execBusyRefusal; split
  · exact reaches_nothing hs
  · exact h.reaches_done (h.refuseBusy (h.setPort hs _ _) _ _ _)

theorem Unlinked.unknownKind (h : Unlinked Q) (hs : Q s) (l : Link) (k t : Byte) :
    Reaches Q (execUnknownKind l k t s) := by
  unfold execUnknownKind; split
  · exact reaches_nothing hs
  · exact h.reaches_done (h.unknownFrame hs _ _ _)

theorem Unlinked.transmitEnd (h : Unlinked Q) (hs : Q s) (l : Link) : Reaches Q (execTransmitEnd l s) := by
  unfold execTransmitEnd; split
  · exact reaches_nothing hs
  · exact h.reaches_done (h.setPort hs _ _)

theorem Unlinked.siteClockTick (h : Unlinked Q) (hs : Q s) : Reaches Q (execSiteClockTick s) :=
  h.reaches_done (h.links (s := s.reach _) _ rfl (h.reach hs _))

/-- What a handler makes of a request, the part being in a state in which the request is allowed. -/
def Answers {α : Type} (P Q : State → Prop) (al : Allowed) (handle : State → α → Handled) : Prop :=
  ∀ s f, al.refusal s.links.part = none → P s → Q (handle s f).state

/-- A request, whether refused or answered by its owner. -/
theorem Unlinked.serve (hP : Unlinked P) (hQ : Unlinked Q) (hPQ : ∀ s, P s → Q s) {α : Type} (l : Link) (kind tag : Byte)
    (till : Bool) {al : Allowed} (g : State → α → Bool) {handle : State → α → Handled} (p : Payload α)
    (hh : Answers P Q al handle) (hs : P s) : Reaches Q (serve l kind tag till al g handle p s) := by
  have hf : P (s.frameEnd l) := hP.setPort hs _ _
  simp only [Sys2Proof.Machine.serve]
  split
  · exact hQ.reaches_done (hPQ _ (hP.refuseBusy hf _ _ _))
  · refine hQ.reaches_done (hQ.setPort ?_ _ _)
    unfold answer
    split
    · exact hPQ _ hf
    · split
      · exact hPQ _ hf
      · split
        · exact hPQ _ hf
        · rename_i hal
          split
          · exact hPQ _ hf
          · exact hh _ _ hal hf

/-- A handler that leaves the state as it is. -/
theorem answers_same {α : Type} {al : Allowed} {handle : State → α → Handled} (hPQ : ∀ s, P s → Q s)
    (h : ∀ s f, (handle s f).state = s) : Answers P Q al handle := fun s f _ hs => (h s f).symm ▸ hPQ s hs

/-- A byte of a link is received, or completes a frame, which is the request of its kind. -/
theorem Unlinked.exec (hP : Unlinked P) (hQ : Unlinked Q) (hPQ : ∀ s, P s → Q s) (hs : P s)
    (h : ∀ i, (∀ l b, i ≠ .receivedByte l b) → Reaches Q (Machine.exec i s)) (i : Instr) :
    Reaches Q (Machine.exec i s) := by
  by_cases hi : ∃ l b, i = .receivedByte l b
  · obtain ⟨l, b, rfl⟩ := hi
    simp only [Sys2Proof.Machine.exec, execReceivedByte]
    split
    · split
      · exact hQ.reaches_done (hPQ _ (hP.setPort hs _ _))
      · exact reaches_nothing (hPQ _ hs)
    · split
      · exact hQ.reaches_done (hPQ _ (hP.setPort hs _ _))
      · exact hQ.reaches_done (hPQ _ (hP.setPort hs _ _))
      · rename_i kind tag payload _
        obtain ⟨i, hi, e⟩ | e := completeFrame_cases l kind tag payload s
        · exact e ▸ h i hi
        · exact e ▸ hQ.reaches_done (hPQ _ (hP.unknownFrame hs _ _ _))
  · exact h i fun l b e => hi ⟨l, b, e⟩

/-- One step, the run time advancing or a command being executed. -/
theorem Unlinked.step (hP : Unlinked P) (hPQ : ∀ s, P s → Q s) (h : ∀ s, P s → ∀ i, Reaches Q (Machine.exec i s))
    {t : State} (hs : P s) (ht : Machine.step s = .next t) : Q t := by
  unfold Sys2Proof.Machine.step at ht
  split at ht
  · cases ht; exact hPQ _ (hP.time _ hs)
  · rename_i c rest _
    exact h _ (hP.pending rest hs) c t ht

end

end Sys2Proof.Machine

namespace Sys2Proof.Machine

/-! ### The Site Balance Unit and the allocator -/

section
variable {P : State → Prop} {s : State}

theorem Steady.raise (h : Steady P) (hs : P s) (k : NoticeKind) (data : Nat) : P (s.raise k data) :=
  h.links _ id hs

theorem Steady.reach (h : Steady P) (hs : P s) (expiry : Nat) : P (s.reach expiry) := h.time _ hs

/-- A change of the site state other than an entry to RESTORING. -/
theorem Steady.moveSite (h : Steady P) (hs : P s) {new : SiteState} (hn : new ≠ .restoring) : P (s.changeSite new) :=
  h.changeSite s.balance new rfl (fun e => absurd e hn) hs

theorem Steady.followGrid (h : Steady P) (hs : P s) (grid : Option Bool) : P (s.followGrid grid) := by
  have hisland : P s.enterIsland := h.moveSite (h.raise hs _ _) (by decide)
  unfold State.followGrid
  split
  · exact hisland
  · split
    · exact h.moveSite hs (by decide)
    · exact hs
  · exact hisland
  · exact hisland
  · exact h.changeSite _ _ rfl (fun _ => rfl) hs
  · exact hs

/-- A change of the Site Balance Unit within a site state, and the recomputation it leads to. -/
theorem Steady.rebalance (h : Steady P) (hs : P s) {b : SiteBalanceUnit} (hb : b.siteState = s.balance.siteState ∧
    b.restoreTimer = s.balance.restoreTimer ∧ b.record = s.balance.record) : P (s.setBalance b).recompute :=
  h.recompute (h.balance b hb.1 hb.2.1 hb.2.2 hs)

theorem Steady.checkOverrun (h : Steady P) (hs : P s) (power : Int) (present : Bool) : P (s.checkOverrun power present) := by
  unfold State.checkOverrun
  split
  · refine h.recompute (h.events _ (h.raise ?_ _ _))
    exact h.balance _ rfl rfl rfl hs
  · exact h.rebalance hs ⟨rfl, rfl, rfl⟩

theorem Steady.freshen (h : Steady P) (hs : P s) (before after : Bool) : P (s.freshen before after) := by
  unfold State.freshen
  split
  · exact hs
  · exact h.events _ hs

theorem Steady.takeReport (h : Steady P) (hs : P s) (r : Report) : P (s.takeReport r) := by
  unfold State.takeReport
  split
  · exact h.rebalance hs ⟨rfl, rfl, rfl⟩
  · refine h.checkOverrun (h.followGrid ?_ _) _ _
    exact h.rebalance hs ⟨rfl, rfl, rfl⟩
  · refine h.followGrid ?_ _
    exact h.rebalance hs ⟨rfl, rfl, rfl⟩
  · exact h.rebalance hs ⟨rfl, rfl, rfl⟩
  · refine h.recompute (h.freshen ?_ _ _)
    exact h.balance _ rfl rfl rfl hs

theorem Steady.makeStale (h : Steady P) (hs : P s) (unit : Nat) : P (s.makeStale unit) := by
  unfold State.makeStale
  split_ifs
  · exact h.rebalance hs ⟨rfl, rfl, rfl⟩
  · exact h.rebalance hs ⟨rfl, rfl, rfl⟩
  · exact h.rebalance hs ⟨rfl, rfl, rfl⟩
  · refine h.recompute (h.freshen ?_ _ _)
    exact h.balance _ rfl rfl rfl hs

theorem Steady.takeHealth (h : Steady P) (hs : P s) (c : HealthChange) : P (s.takeHealth c) := by
  unfold State.takeHealth
  split_ifs
  · exact h.rebalance hs ⟨rfl, rfl, rfl⟩
  · exact h.rebalance hs ⟨rfl, rfl, rfl⟩
  · exact h.recompute hs
  · exact h.makeStale hs _
  · exact h.recompute hs

theorem Steady.takeRound (h : Steady P) (hs : P s) : P s.takeRound := h.events _ (h.allocator _ (fun _ => id) hs)

theorem Steady.roundOrPend (h : Steady P) (hs : P s) : P s.roundOrPend := by
  unfold State.roundOrPend
  split
  · exact h.takeRound hs
  · exact h.allocator _ (fun _ => id) hs

theorem Steady.takeEarly (h : Steady P) (hs : P s) : P s.takeEarly := by
  unfold State.takeEarly
  split_ifs
  · exact hs
  · exact h.allocator _ (fun _ => id) hs
  · exact h.roundOrPend hs

theorem Steady.takeApplied (h : Steady P) (hs : P s) : P s.takeApplied := by
  have ha : P (s.setAllocator { s.allocator with applied := true }) := h.allocator _ (fun _ => id) hs
  simp only [State.takeApplied]
  split
  · split
    · exact h.allocator _ (fun _ => id) ha
    · exact h.takeRound ha
  · exact ha

end

end Sys2Proof.Machine

namespace Sys2Proof.Machine

/-! ### The sessions: what keeps the energies within bounds (R114, R115) -/

section
variable {P : State → Prop} {s : State}

/-- Any change of the Session Controller that leaves the table as it is. -/
theorem Steady.sameTable (h : Steady P) (hs : P s) {c : SessionController} (hc : c.table = s.sessions.table) :
    P (s.setSessions c) := h.sessions c (fun he => by rw [hc]; exact he.2) hs

theorem Steady.update (h : Steady P) (hs : P s) (n : Nat) {f : Session → Session}
    (hf : s.EnergyWf → ∀ x, x.EnergyWf → (f x).EnergyWf) : P (s.setSessions (s.sessions.update n f)) := by
  refine h.sessions _ (fun he y hy => ?_) hs
  obtain ⟨x, hx, rfl⟩ := List.mem_map.1 hy
  split
  · exact hf he x (he.2 x hx)
  · exact he.2 x hx

theorem Steady.transition (h : Steady P) (hs : P s) (n : Nat) {f : Session → Session}
    (hf : ∀ x, x.EnergyWf → (f x).EnergyWf) : P (s.transition n f) := by
  unfold State.transition
  split
  · exact hs
  · rename_i x hx
    have hset : P (s.setSessions (s.sessions.update n fun _ => carryTimers s.runTime s.sessions.dormantDelay x (f x))) := by
      refine h.sessions _ (fun he y hy => ?_) hs
      obtain ⟨z, hz, rfl⟩ := List.mem_map.1 hy
      split
      · exact hf x (he.2 x (find_spec hx).1)
      · exact he.2 z hz
    have hpause : ∀ {u : State} (a b : Session), P u → P (u.pauseOnLeaving a b) := fun a b hu => by
      unfold State.pauseOnLeaving; split
      · exact h.events _ hu
      · exact hu
    have hrequest : ∀ {u : State} (a b : Session), P u → P (u.requestOnChange a b) := fun a b hu => by
      unfold State.requestOnChange; split
      · exact hu
      · exact h.events _ hu
    have hnotice : ∀ {u : State} (a b : Session), P u → P (u.noticeOnChange a b) := fun a b hu => by
      unfold State.noticeOnChange; split
      · exact hu
      · exact h.raise hu _ _
    exact hnotice _ _ (hrequest _ _ (hpause _ _ hset))

theorem Session.energyWf_addHold {x : Session} (r : HoldReason) (hx : x.EnergyWf) : (x.addHold r).EnergyWf := by
  unfold Session.addHold
  split
  · exact hx
  · exact hx
  · exact hx
  · exact hx
  · split <;> exact hx
  · exact hx
  · exact hx

theorem Session.energyWf_removeHold {x : Session} (r : HoldReason) (hx : x.EnergyWf) : (x.removeHold r).EnergyWf := by
  unfold Session.removeHold
  split
  · exact hx
  · split <;> exact hx
  all_goals exact hx

theorem Session.energyWf_authorize {x : Session} (who : Authorizer) (customer : Text) (departure : Option Nat) (slot : Nat)
    (reading : Option Nat) (clock : SiteClock) (hx : x.EnergyWf) :
    (x.authorize who customer departure slot reading clock).EnergyWf := by
  unfold Session.authorize Session.afterAuthorization
  split <;> exact hx

/-- R114, R115: energies grown by a part of a delta within the cap, shared by a mix of 1,024 parts. -/
theorem Session.energies_grown {x : Session} {m : Mix} {e : Nat} (he : e ≤ Config.energyCap - x.total)
    (hm : m.solar + m.battery + m.grid = 1024) (hx : x.EnergyWf) :
    x.total + e ≤ Config.energyCap ∧ x.solarAcc + e * m.solar + (x.batteryAcc + e * m.battery) ≤ 1024 * (x.total + e) := by
  obtain ⟨hcap, hacc⟩ := hx
  have hpart : e * (m.solar + m.battery) ≤ e * 1024 := Nat.mul_le_mul_left _ (by omega)
  rw [Nat.mul_add] at hpart
  omega

theorem Session.energyWf_applyDelta {x : Session} {m : Mix} (k : Checked) (hm : m.solar + m.battery + m.grid = 1024)
    (hx : x.EnergyWf) : (x.applyDelta k m).EnergyWf := by
  have hd : (x.discrepant k.kind).EnergyWf := by
    unfold Session.discrepant; split <;> exact hx
  unfold Session.applyDelta
  split
  · exact Session.energies_grown (x := x.discrepant k.kind) (Nat.min_le_right _ _) hm hd
  · exact hx

theorem Session.energyWf_unnamed {x : Session} (es : List CandidateEntry) (hx : x.EnergyWf) : (x.unnamed es).EnergyWf := by
  unfold Session.unnamed; split <;> exact hx

/-! ### The operations of the Session Controller -/

theorem Steady.setPortState (h : Steady P) (hs : P s) (p : Nat) (st : PortState) : P (s.setPortState p st) :=
  h.events _ (h.sameTable hs (by rfl))

theorem Steady.lockoutAlone (h : Steady P) (hs : P s) (sent p : Nat) : P (s.lockoutAlone sent p) := by
  unfold State.lockoutAlone; split
  · exact hs
  · exact h.events _ hs

theorem Steady.holdPort (h : Steady P) (hs : P s) (p : Nat) (r : HoldReason) (add : Bool) : P (s.holdPort p r add) := by
  unfold State.holdPort
  split
  · exact hs
  · refine h.transition hs _ fun x hx => ?_
    cases add
    · exact Session.energyWf_removeHold r hx
    · exact Session.energyWf_addHold r hx

theorem Steady.applyFault (h : Steady P) (hs : P s) (p : Nat) (fault : Bool) : P (s.applyFault p fault) := by
  have hset : P (s.setSessions (s.sessions.setRecord p { s.sessions.record p with fault := fault })) := h.sameTable hs rfl
  simp only [State.applyFault]
  split_ifs
  · exact hset
  · exact h.holdPort (h.raise hset _ _) _ _ _
  · exact h.holdPort hset _ _ _

theorem Steady.applyDemand (h : Steady P) (hs : P s) (p : Nat) : P (s.applyDemand p) := by
  unfold State.applyDemand
  split
  · exact hs
  · exact h.transition hs _ fun x hx => hx

theorem Steady.authorizeSession (h : Steady P) (hs : P s) (n : Nat) (who : Authorizer) (customer : Text)
    (departure : Option Nat) : P (s.authorizeSession n who customer departure) := by
  unfold State.authorizeSession
  split
  · exact h.transition (h.store _ hs) _ fun x hx => Session.energyWf_authorize _ _ _ _ _ _ hx
  · exact hs

theorem Steady.freeVend (h : Steady P) (hs : P s) (n : Nat) : P (s.freeVend n) := by
  unfold State.freeVend
  split
  · exact hs
  · split
    · exact h.authorizeSession hs _ _ _ _
    · exact hs

/-- A new session has been delivered nothing. -/
theorem Steady.createSession (h : Steady P) (hs : P s) (p : Nat) : P (s.createSession p) := by
  rw [State.createSession_eq, State.openSession]
  refine h.freeVend (h.raise (h.setPortState ?_ _ _) _ _) _
  refine h.sessions _ (fun he x hx => ?_) hs
  obtain hx | hx := List.mem_append.1 hx
  · exact he.2 x hx
  · rw [List.mem_singleton.1 hx]
    exact ⟨Nat.zero_le _, Nat.zero_le _⟩

theorem Steady.serveWaiting (h : Steady P) (hs : P s) : P s.serveWaiting := by
  unfold State.serveWaiting
  split
  · exact hs
  · split
    · exact hs
    · exact h.createSession (h.sameTable hs (by rfl)) _

theorem Steady.removeSession (h : Steady P) (hs : P s) (n : Nat) : P (s.removeSession n) :=
  h.sessions _ (fun he x hx => he.2 x (List.mem_of_mem_filter hx)) hs

theorem Steady.abandon (h : Steady P) (hs : P s) (x : Session) (st : PortState) : P (s.abandon x st) :=
  h.serveWaiting (h.raise (h.setPortState (h.removeSession hs _) _ _) _ _)

theorem Steady.completeClosing (h : Steady P) (hs : P s) (x : Session) (connected estimated : Bool) :
    P (s.completeClosing x connected estimated) :=
  h.events _ (h.setPortState (h.update hs _ fun _ y hy => by exact hy) _ _)

theorem Steady.tryComplete (h : Steady P) (hs : P s) (p : Nat) : P (s.tryComplete p) := by
  unfold State.tryComplete
  split
  · exact hs
  · split
    · split
      · exact h.completeClosing hs _ _ _
      · exact hs
    · exact hs

theorem Steady.applyToSession (h : Steady P) (hs : P s) (x : Session) (r : ChargerReport) : P (s.applyToSession x r) := by
  have hfinal : ∀ f : FinalReport, P ((s.transition x.number fun y => y.takeFinal f).tryComplete r.port) := fun f =>
    h.tryComplete (h.transition hs _ fun y hy => by exact hy) _
  unfold State.applyToSession
  cases x.state with
  | plugged =>
    simp only
    split
    · exact hs
    · exact h.abandon hs _ _
  | active | dormant | held =>
    simp only
    split
    · exact hs
    · exact hfinal _
  | closing =>
    simp only
    split
    · exact hfinal _
    · exact hs
  | pricing | waitQueue => exact hs

theorem Steady.applyConnection (h : Steady P) (hs : P s) (r : ChargerReport) : P (s.applyConnection r) := by
  unfold State.applyConnection
  split
  · split
    · exact h.raise (h.setPortState (h.sameTable hs (by rfl)) _ _) _ _
    · exact h.createSession hs _
  · exact h.setPortState (h.sameTable hs (by rfl)) _ _
  · exact h.setPortState hs _ _
  · split
    · exact hs
    · exact h.applyToSession hs _ _
  · exact hs

theorem Steady.takeChargerReport (h : Steady P) (hs : P s) (r : ChargerReport) : P (s.takeChargerReport r) := by
  unfold State.takeChargerReport
  split
  · exact hs
  · exact h.lockoutAlone (h.applyConnection (h.applyDemand (h.applyFault (h.sameTable hs (by rfl)) _ _) _) _) _ _

theorem Steady.noticeUrgent (h : Steady P) (hs : P s) (n : Nat) (a b : SessionClass) : P (s.noticeUrgent n a b) := by
  unfold State.noticeUrgent; split
  · exact h.raise hs _ _
  · exact hs

theorem Steady.takeEntry (h : Steady P) (hs : P s) (e : CandidateEntry) : P (s.takeEntry e) := by
  unfold State.takeEntry
  split
  · exact hs
  · split
    · exact h.noticeUrgent (h.update hs _ fun _ y hy => by exact hy) _ _ _
    · exact hs

/-- What each step of a fold keeps. -/
theorem foldl_keeps {α : Type} {f : State → α → State} (hf : ∀ {s} a, P s → P (f s a)) (xs : List α) (hs : P s) :
    P (xs.foldl f s) := by
  induction xs generalizing s with
  | nil => exact hs
  | cons a xs ih => exact ih (hf a hs)

theorem Steady.takeResult (h : Steady P) (hs : P s) (r : AllocationResult) : P (s.takeResult r) := by
  have hf : P (r.entries.foldl State.takeEntry s) := foldl_keeps (P := P) (fun e hs => h.takeEntry hs e) _ hs
  refine h.events _ (h.sessions _ (fun he y hy => ?_) hf)
  obtain ⟨x, hx, rfl⟩ := List.mem_map.1 hy
  exact Session.energyWf_unnamed _ (he.2 x hx)

theorem Steady.reclassify (h : Steady P) (hs : P s) (high urgent n : Nat) : P (s.reclassify high urgent n) := by
  unfold State.reclassify
  split
  · exact hs
  · exact h.noticeUrgent (h.update hs _ fun _ y hy => by exact hy) _ _ _

theorem Steady.followSite (h : Steady P) (hs : P s) (c : SiteChange) : P (s.followSite c) := by
  unfold State.followSite
  split_ifs
  · exact foldl_keeps (P := P) (fun n hs => h.transition hs n fun x hx => Session.energyWf_addHold _ hx) _ hs
  · exact foldl_keeps (P := P) (fun n hs => h.transition hs n fun x hx => Session.energyWf_removeHold _ hx) _ hs
  · exact hs

/-! ### Pricing and receipts -/

theorem Steady.takeReceipt (h : Steady P) (hs : P s) (r : Receipt) : P (s.takeReceipt r) := by
  have hraise : ∀ {u : State} (c : Prop) [Decidable c] (k : NoticeKind), P u → P (if c then u.raise k r.number else u) :=
    fun c _ k hu => by
      split
      · exact h.raise hu _ _
      · exact hu
  exact hraise _ _ (hraise _ _ (hraise _ _ (h.queue _ hs)))

theorem Steady.leaveTable (h : Steady P) (hs : P s) (n : Nat) : P (s.leaveTable n) :=
  h.serveWaiting (h.raise (h.removeSession hs n) _ _)

theorem Steady.placeReceipt (h : Steady P) (hs : P s) (n : Nat) (r : Receipt) : P (s.placeReceipt n r) := by
  unfold State.placeReceipt
  split
  · exact h.leaveTable (h.takeReceipt hs r) n
  · exact h.transition (h.builder _ hs) n fun x hx => hx

theorem Steady.priceSession (h : Steady P) (hs : P s) (x : Session) : P (s.priceSession x) :=
  h.placeReceipt (h.builder _ (h.store _ hs)) _ _

theorem Steady.takeHandOver (h : Steady P) (hs : P s) (n : Nat) : P (s.takeHandOver n) := by
  unfold State.takeHandOver
  split
  · exact hs
  · split
    · split
      · exact h.priceSession hs _
      · exact h.transition (h.builder _ hs) n fun x hx => hx
    · exact hs

theorem Steady.priceHead (h : Steady P) (hs : P s) (n : Nat) : P (s.priceHead n) := by
  have hb : P (s.setBuilder { s.builder with pricing := s.builder.pricing.drop 1 }) := h.builder _ hs
  simp only [State.priceHead]
  split
  · exact hb
  · split
    · exact h.priceSession hb _
    · exact hb

theorem Steady.drain (h : Steady P) (fuel : Nat) (hs : P s) : P (State.drain fuel s) := by
  induction fuel generalizing s with
  | zero => exact hs
  | succ fuel ih =>
    unfold State.drain
    split
    · exact hs
    · split
      · exact hs
      · exact ih (h.leaveTable (h.takeReceipt (h.builder _ hs) _) _)

theorem Steady.roomIf (h : Steady P) (hs : P s) (removed : Nat) : P (s.roomIf removed) := by
  unfold State.roomIf; split
  · exact hs
  · exact h.events _ hs

/-! ### Readings (R107) -/

theorem Steady.applyReading (h : Steady P) (hs : P s) (r : MeterReading) (reading last since : Nat) :
    P (s.applyReading r reading last since) := by
  have hmid : ∀ (o : Option Session) (k : Checked) (m : MeteringUnit),
      P (match o with
        | none => s.setMetering m
        | some x => (s.setMetering m).setSessions ((s.setMetering m).sessions.update x.number fun y =>
            y.applyDelta k s.balance.record.mix)) := by
    intro o k m
    cases o with
    | none => exact h.metering m hs
    | some x => exact h.update (h.metering m hs) _ fun he y hy => Session.energyWf_applyDelta k he.1 hy
  simp only [State.applyReading]
  split
  · exact hmid _ _ _
  · exact h.raise (h.metering _ (hmid _ _ _)) _ _

theorem Steady.applyFirstReading (h : Steady P) (hs : P s) (r : MeterReading) (reading : Nat) :
    P (s.applyFirstReading r reading) := by
  simp only [State.applyFirstReading]
  split
  · exact h.metering _ hs
  · exact h.update (h.metering _ hs) _ fun _ y hy => hy

theorem Steady.takeReading (h : Steady P) (hs : P s) (r : MeterReading) : P (s.takeReading r) := by
  simp only [State.takeReading]
  refine h.events _ ?_
  split
  · exact hs
  · split
    · exact h.applyFirstReading hs _ _
    · exact h.applyReading hs _ _ _ _

/-! ### The Tariff Store -/

theorem Steady.stopOperation (h : Steady P) (hs : P s) (op : StoreOperation) : P (s.stopOperation op) :=
  h.draws _ (h.store _ hs)

theorem Steady.abortOperation (h : Steady P) (hs : P s) : P s.abortOperation := by
  unfold State.abortOperation; split
  · exact hs
  · exact h.events _ (h.raise (h.stopOperation hs _) _ _)

theorem Steady.completeOperation (h : Steady P) (hs : P s) (op : StoreOperation) (verified : Bool) :
    P (s.completeOperation op verified) :=
  h.events _ (h.raise (h.store _ (h.draws _ hs)) _ _)

end

end Sys2Proof.Machine

namespace Sys2Proof.Machine

/-! ### The unit table: no operation in LIVE makes a unit present or absent (R89, R91, R95, R97) -/

/-- Two unit tables with the same units present. -/
def FieldLinkController.SamePresence (f g : FieldLinkController) : Prop := ∀ u, (g.unit u).present = (f.unit u).present

section
variable {f g k : FieldLinkController}

theorem FieldLinkController.SamePresence.refl (f : FieldLinkController) : f.SamePresence f := fun _ => rfl

theorem FieldLinkController.SamePresence.trans (h : f.SamePresence g) (h' : g.SamePresence k) : f.SamePresence k :=
  fun u => (h' u).trans (h u)

theorem FieldLinkController.samePresence_setUnit (f : FieldLinkController) (u : Nat) {x : FieldUnit}
    (hx : x.present = (f.unit u).present) : f.SamePresence (f.setUnit u x) := by
  intro v
  by_cases hu : u < 1 ∨ 39 < u
  · simp only [FieldLinkController.unit, FieldLinkController.setUnit, put_outside _ _ _ hu]
  · rw [f.unit_setUnit u v x (by omega) (by omega)]
    split
    · rename_i e; rw [e, hx]
    · rfl

theorem FieldLinkController.samePresence_assess (f : FieldLinkController) (u : Nat) : f.SamePresence (f.assess u) := by
  unfold FieldLinkController.assess; split <;> exact .refl f

theorem FieldLinkController.samePresence_reassess (f : FieldLinkController) (u : Nat) : f.SamePresence (f.reassess u) := by
  unfold FieldLinkController.reassess
  split
  · exact .refl f
  · split <;> exact .refl f

theorem FieldLinkController.samePresence_retarget (f : FieldLinkController) (u : Nat) (c : Command) :
    f.SamePresence (f.retarget u c) := (f.samePresence_setUnit u (by rfl)).trans (samePresence_assess _ u)

theorem FieldLinkController.samePresence_nextPoll (f : FieldLinkController) : f.SamePresence f.nextPoll := by
  unfold FieldLinkController.nextPoll
  split
  · exact .refl f
  · split <;> exact .refl f

theorem FieldLinkController.samePresence_foldl {α : Type} {op : FieldLinkController → α → FieldLinkController}
    (hop : ∀ (f : FieldLinkController) (a : α), f.SamePresence (op f a)) (xs : List α) (f : FieldLinkController) : f.SamePresence (xs.foldl op f) := by
  induction xs generalizing f with
  | nil => exact .refl f
  | cons a xs ih => exact (hop f a).trans (ih _)

theorem FieldLinkController.samePresence_recordReply (f : FieldLinkController) (u : Nat) (c : Command) (now : Nat) :
    f.SamePresence (f.recordReply u c now) := by
  have h1 : f.SamePresence ((f.setUnit u { f.unit u with delivered := c }).reassess u) :=
    (f.samePresence_setUnit u (by rfl)).trans (samePresence_reassess _ u)
  have h2 := h1.trans (samePresence_setUnit _ u
    (x := { ((f.setUnit u { f.unit u with delivered := c }).reassess u).unit u with
      lastReport := some now, misses := 0, health := .ok }) (by rfl))
  simp only [FieldLinkController.recordReply]
  split
  · exact h2.trans (samePresence_assess _ u)
  · exact h2

theorem FieldLinkController.samePresence_recordMiss (f : FieldLinkController) (u : Nat) : f.SamePresence (f.recordMiss u) := by
  simp only [FieldLinkController.recordMiss]
  split <;> exact f.samePresence_setUnit u (by rfl)

theorem FieldLinkController.samePresence_takeTargets (f : FieldLinkController) (c : SessionController)
    (ts : List PortTarget) : f.SamePresence (f.takeTargets c ts) := by
  have h1 : f.SamePresence { f with decrease := f.decrease.filter fun u => 32 < u } := fun _ => rfl
  exact h1.trans (samePresence_foldl
    (fun f (t : PortTarget) => f.samePresence_retarget t.port (chargerTargetOf c t)) ts _)

theorem FieldLinkController.samePresence_takeHandover (f : FieldLinkController) (h : Handover) :
    f.SamePresence (f.takeHandover h) := by
  have h1 : f.SamePresence { f with decrease := f.decrease.filter fun u => u ≤ 32 } := fun _ => rfl
  have h2 := h1.trans (samePresence_foldl
    (fun f (x : Nat × Nat) => f.samePresence_retarget (34 + x.1) (.inverter (some x.2))) h.limits _)
  simp only [FieldLinkController.takeHandover]
  split
  · exact h2
  · exact h2.trans (samePresence_retarget _ _ _)

end

section
variable {P : State → Prop} {s : State}

theorem Steady.setField (h : Steady P) (hs : P s) {f : FieldLinkController} (hf : s.field.SamePresence f) :
    P (s.setField f) := h.field f (fun _ => hf) hs

theorem Steady.healthChanged (h : Steady P) (hs : P s) (u : Nat) (before after : Health) :
    P (s.healthChanged u before after) := by
  simp only [State.healthChanged]
  split
  · exact hs
  · split
    · exact h.events _ (h.events _ hs)
    · exact h.events _ hs

theorem Steady.handReport (h : Steady P) (hs : P s) (u : Nat) (p : List Byte) (report : Nat) :
    P (s.handReport u p report) := by
  simp only [State.handReport]
  split
  · exact h.events _ (h.events _ (h.events _ hs))
  · split
    · exact h.events _ (h.events _ hs)
    · exact h.events _ hs

theorem Steady.replyValid (h : Steady P) (hs : P s) (t : Transaction) (p : List Byte) : P (s.replyValid t p) := by
  have hf := h.setField hs (s.field.samePresence_recordReply t.unit t.command s.runTime)
  refine h.setField (h.handReport (h.healthChanged ?_ _ _ _) _ _ _) (FieldLinkController.samePresence_nextPoll _)
  split
  · exact h.raise hf _ _
  · exact hf

theorem Steady.replyMissed (h : Steady P) (hs : P s) (t : Transaction) : P (s.replyMissed t) := by
  have hf := h.setField hs (s.field.samePresence_recordMiss t.unit)
  refine h.setField (h.healthChanged ?_ _ _ _) (FieldLinkController.samePresence_nextPoll _)
  split
  · exact h.raise hf _ _
  · exact hf

end

/-! ### The Battery Dispatch Unit (R75 to R86) -/

/-- A computation is the record it decides and the hand-over of its targets (R78, R86). -/
theorem State.computeCommand_eq (s : State) (t : DispatchTrigger) :
    s.computeCommand t = (s.setDispatch (s.dispatch.commanded (s.dispatchComputed s.dispatch t))).sendHandover
      (s.handoverOf (s.dispatchComputed s.dispatch t) (if t = .result then s.dispatch.basis else none)) := rfl

/-- The allowance evaluated: what the copy, the policy and urgent release give, published when it differs (R76). -/
theorem State.evaluateAllowance_eq (s : State) :
    s.evaluateAllowance = (s.setDispatch { s.dispatch with allowance := allowanceOf s.batteryPresent s.dispatch }).setEvents
      { s.events with allowances := s.events.allowances ++
          if allowanceOf s.batteryPresent s.dispatch = s.dispatch.allowance then []
          else [allowanceOf s.batteryPresent s.dispatch] } := by
  simp only [State.evaluateAllowance]
  split
  · rename_i e
    rw [e, List.append_nil]
    rfl
  · rfl

/-- The standing conditions of R85, by the command, the usable values of the battery and the case of the last
computation. -/
def BatteryCommand.standsWith (d : BatteryDispatchUnit) (v : Option BatteryValues) (case : Option DispatchCase) :
    BatteryCommand → Prop
  | .idle => True
  | .islandSupport => True
  | .discharge w => v.isSome = true ∧ w ≤ d.allowance
  | .charge w => ∃ x, v = some x ∧
    if case = some .topUp then x.soc < d.policy.softReserve ∧ d.urgent = false ∧ w ≤ min d.policy.topUp x.maxCharge
    else x.soc < d.policy.fullLimit ∧ w ≤ min x.maxCharge d.policy.chargeCap

theorem stands_iff (present : Bool) (d : BatteryDispatchUnit) :
    stands present d = true ↔ d.target.standsWith d (usable present d) (d.record.map DispatchRecord.case) := by
  unfold stands
  cases d.target with
  | idle => simp [BatteryCommand.standsWith]
  | islandSupport => simp [BatteryCommand.standsWith]
  | discharge w => cases usable present d <;> simp [BatteryCommand.standsWith]
  | charge w =>
    cases usable present d with
    | none => simp [BatteryCommand.standsWith]
    | some v =>
      simp only [BatteryCommand.standsWith, Option.some.injEq, exists_eq_left']
      split
      · rename_i e; simp [e]
      · rename_i e; rw [if_neg e]; simp

section
variable {d : BatteryDispatchUnit} {v : Option BatteryValues} {case : Option DispatchCase} {w : Nat}

theorem standsWith_dischargeOrIdle (hv : v.isSome = true) (hw : w ≤ d.allowance) :
    (dischargeOrIdle w).standsWith d v case := by
  unfold dischargeOrIdle
  split
  · exact ⟨hv, hw⟩
  · trivial

theorem standsWith_chargeOrIdle (h : 0 < w → (BatteryCommand.charge w).standsWith d v case) :
    (chargeOrIdle w).standsWith d v case := by
  unfold chargeOrIdle
  split
  · exact h ‹_›
  · trivial

/-- A charge of the surplus case respects the full limit and both charge powers (R81). -/
theorem standsWith_surplusCharge (surplus : Nat) :
    (chargeOrIdle (surplusCharge v d.policy surplus)).standsWith d v (some .surplus) := by
  refine standsWith_chargeOrIdle fun hpos => ?_
  unfold surplusCharge at hpos ⊢
  cases v with
  | none => simp at hpos
  | some x =>
    simp only at hpos ⊢
    split at hpos
    · rename_i hfull
      refine ⟨x, rfl, ?_⟩
      rw [if_pos hfull, if_neg (by simp)]
      exact ⟨hfull, Nat.min_le_right _ _⟩
    · simp at hpos

/-- R80 to R84: what a computation decides meets the standing conditions of R85. -/
theorem outcomeOf_stands (site : SiteState) (v : Option BatteryValues) (d : BatteryDispatchUnit) (net limit : Int)
    (exportLimit pvEff : Nat) :
    (outcomeOf site v d net limit exportLimit pvEff).target.standsWith d v
      (some (outcomeOf site v d net limit exportLimit pvEff).case) := by
  have hnormal : (normalOutcome v d net limit exportLimit pvEff).target.standsWith d v
      (some (normalOutcome v d net limit exportLimit pvEff).case) := by
    unfold normalOutcome
    split
    · cases v with
      | none => trivial
      | some x => exact standsWith_dischargeOrIdle rfl (Nat.min_le_right _ _)
    · split
      · exact standsWith_surplusCharge _
      · cases v with
        | none => trivial
        | some x =>
          simp only
          split
          · rename_i hlow
            exact standsWith_chargeOrIdle fun _ => ⟨x, rfl, hlow.1, hlow.2, Nat.min_le_right _ _⟩
          · trivial
  cases site with
  | none | starting | normal => exact hnormal
  | island => trivial
  | restoring => exact standsWith_chargeOrIdle fun h => absurd h (Nat.lt_irrefl 0)

end

/-- What the Battery Dispatch Unit keeps through a computation of the command, and what the computation gives it: the same
policy and allowance, and a target that stands. -/
structure BatteryDispatchUnit.Recommanded (present : Bool) (d e : BatteryDispatchUnit) : Prop where
  policy : e.policy = d.policy
  allowance : e.allowance = d.allowance
  due : allowanceOf present e = allowanceOf present d
  stands : stands present e = true

theorem State.computeCommand_spec (s : State) (t : DispatchTrigger) : ∃ d e,
    s.computeCommand t = (s.setDispatch d).setEvents e ∧ s.dispatch.Recommanded s.batteryPresent d :=
  ⟨_, _, s.computeCommand_eq t, rfl, rfl, rfl, (stands_iff _ _).2 (outcomeOf_stands ..)⟩

theorem State.checkStanding_spec (s : State) : ∃ d e,
    s.checkStanding = (s.setDispatch d).setEvents e ∧ s.dispatch.Recommanded s.batteryPresent d := by
  unfold State.checkStanding
  split
  · exact ⟨s.dispatch, s.events, rfl, rfl, rfl, rfl, ‹_›⟩
  · exact s.computeCommand_spec .battery

/-- The policy stays, and the allowance in force is the one R75 gives. -/
structure BatteryDispatchUnit.Evaluated (present : Bool) (d e : BatteryDispatchUnit) : Prop where
  policy : e.policy = d.policy
  allowance : e.allowance = allowanceOf present e

theorem BatteryDispatchUnit.Evaluated.recommanded {present : Bool} {c d e : BatteryDispatchUnit}
    (h : c.Evaluated present d) (h' : d.Recommanded present e) : c.Evaluated present e :=
  ⟨h'.policy.trans h.policy, h'.allowance.trans (h.allowance.trans h'.due.symm)⟩

/-- The allowance evaluated, then the standing conditions checked, or not (R76, R85). -/
theorem State.evaluateAllowance_spec (s : State) : ∃ d e,
    s.evaluateAllowance = (s.setDispatch d).setEvents e ∧ s.dispatch.Evaluated s.batteryPresent d :=
  ⟨_, _, s.evaluateAllowance_eq, rfl, rfl⟩

theorem State.evaluateAndCheck_spec (s : State) : ∃ d e, s.evaluateAllowance.checkStanding = (s.setDispatch d).setEvents e ∧
    s.dispatch.Evaluated s.batteryPresent d ∧ stands s.batteryPresent d = true := by
  obtain ⟨d, e, h, hd⟩ := s.evaluateAllowance_spec
  obtain ⟨d', e', h', hd'⟩ := s.evaluateAllowance.checkStanding_spec
  rw [h] at h' hd'
  exact ⟨d', e', h ▸ h', hd.recommanded hd', hd'.stands⟩

/-- A change of the policy or of urgent release: the allowance evaluated, the standing conditions checked when it changed
(R73, R77). -/
theorem State.evaluateAndCheckIf_spec (s : State) (c : Prop) [Decidable c] : ∃ d e,
    (if c then s.evaluateAllowance else s.evaluateAllowance.checkStanding) = (s.setDispatch d).setEvents e ∧
      s.dispatch.Evaluated s.batteryPresent d := by
  split
  · exact s.evaluateAllowance_spec
  · obtain ⟨d, e, h, hd, -⟩ := s.evaluateAndCheck_spec
    exact ⟨d, e, h, hd⟩

/-- Urgent release follows the urgent count, and the allowance follows it (R77). -/
theorem State.applyUrgent_spec (s : State) (n : Nat) : ∃ d e, s.applyUrgent n = (s.setDispatch d).setEvents e ∧
    d.policy = s.dispatch.policy ∧
    (s.dispatch.allowance = allowanceOf s.batteryPresent s.dispatch → d.allowance = allowanceOf s.batteryPresent d) := by
  simp only [State.applyUrgent]
  split
  · exact ⟨s.dispatch, s.events, rfl, rfl, id⟩
  · obtain ⟨d, e, h, hd⟩ := (s.setDispatch { s.dispatch with urgent := decide (0 < n) }).evaluateAndCheckIf_spec
      ((s.setDispatch { s.dispatch with urgent := decide (0 < n) }).evaluateAllowance.dispatch.allowance =
        s.dispatch.allowance)
    exact ⟨d, e, h, hd.policy, fun _ => hd.allowance⟩

section
variable {P : State → Prop} {s : State}

/-- The Battery Dispatch Unit changed under the policy in force, with the events that tell of it: the allowance stays, or
becomes, the one due, and the target stands. -/
theorem Steady.dispatched (h : Steady P) (hs : P s) {d : BatteryDispatchUnit} {e : Events}
    (hpolicy : d.policy = s.dispatch.policy)
    (hdue : s.dispatch.allowance = allowanceOf s.batteryPresent s.dispatch → d.allowance = allowanceOf s.batteryPresent d)
    (hst : stands s.batteryPresent d = true) : P ((s.setDispatch d).setEvents e) := by
  refine h.events e (h.dispatch d (fun hp hd hl => ⟨fun _ => ⟨hdue (hd hp).1, hst⟩, fun _ => ?_⟩) hs)
  obtain ⟨hw, h1, h2, hu⟩ := hl hp
  refine ⟨hw, ?_, ?_, hu⟩
  · exact hpolicy ▸ h1
  · exact hpolicy ▸ h2

end

end Sys2Proof.Machine

namespace Sys2Proof.Machine

/-! ### Requests -/

theorem setup_of_setupOnly {s : State} (h : Allowed.setupOnly.refusal s.links.part = none) : s.links.part = .setup := by
  cases e : s.links.part with
  | setup => rfl
  | live => simp [e, Allowed.refusal] at h

theorem live_of_liveOnly {s : State} (h : Allowed.liveOnly.refusal s.links.part = none) : s.links.part = .live := by
  cases e : s.links.part with
  | live => rfl
  | setup => simp [e, Allowed.refusal] at h

section
variable {P : State → Prop}

theorem Steady.handleSetSite (h : Steady P) : Answers P P .always handleSetSite := by
  intro s f _ hs
  have hb : ∀ x, P (s.setBalance { s.balance with settings := x }) := fun x => by exact h.balance _ rfl rfl rfl hs
  have hr : ∀ {u : State} (c : Prop) [Decidable c], P u → P (if c then u.recompute else u) := fun c _ hu => by
    split
    · exact h.recompute hu
    · exact hu
  simp only [Machine.handleSetSite, setBuilder_next_ite]
  split
  · exact hr _ (h.builder _ (hb _))
  · exact hs

theorem Steady.handleSetFeeder (h : Steady P) : Answers P P .setupOnly handleSetFeeder := by
  intro s f _ hs
  unfold Machine.handleSetFeeder
  split
  · exact h.allocator _ (fun _ => id) hs
  · exact hs

/-- R1, R89: units become present or absent in SETUP only. -/
theorem Steady.setFieldInSetup (h : Steady P) {s : State} (hp : s.links.part = .setup) (hs : P s)
    (f : FieldLinkController) : P (s.setField f) := h.field f (fun hl => by simp [hp] at hl) hs

theorem Steady.configurePort (h : Steady P) {s : State} (hp : s.links.part = .setup) (hs : P s) (p : Nat)
    (e : Option PortEntry) : P (s.configurePort p e) := by
  have hb : ∀ u, P ((s.setField (s.field.setUnit p u)).setBalance
      { s.balance with chargers := put s.balance.chargers p 0 }) := fun u => by
    refine h.balance _ ?_ ?_ ?_ (h.setFieldInSetup hp hs _) <;> rfl
  cases e with
  | some e => exact h.sameTable (hb _) (by rfl)
  | none => exact h.sameTable (h.metering _ (hb _)) (by rfl)

theorem Steady.handleSetPort (h : Steady P) : Answers P P .setupOnly handleSetPort := by
  intro s f hal hs
  have hc := h.configurePort (setup_of_setupOnly hal) hs
  unfold Machine.handleSetPort
  split
  · exact hs
  · split
    · split
      · exact hs
      · split
        · exact hc f.port (some _)
        · exact hc f.port none
    · exact hs

theorem SiteBalanceUnit.forget_site (b : SiteBalanceUnit) (u : Nat) : (b.forget u).siteState = b.siteState ∧
    (b.forget u).restoreTimer = b.restoreTimer ∧ (b.forget u).record = b.record := by
  unfold SiteBalanceUnit.forget
  split_ifs <;> exact ⟨rfl, rfl, rfl⟩

theorem Steady.handleSetUnit (h : Steady P) : Answers P P .setupOnly handleSetUnit := by
  intro s f hal hs
  have hp := setup_of_setupOnly hal
  unfold Machine.handleSetUnit
  split
  · exact hs
  · rename_i u _
    split
    · split
      · exact hs
      · obtain ⟨h1, h2, h3⟩ := s.balance.forget_site u
        refine h.dispatch _ (fun hl => ?_) (h.balance _ h1 h2 h3 (h.setFieldInSetup hp hs _))
        exact absurd (hl.symm.trans hp) (by decide)
    · exact hs

/-- R73: in LIVE the thresholds stay in their order, the allowance is evaluated and the command computed. -/
theorem Steady.handleSetBatteryPolicy (h : Steady P) : Answers P P .always handleSetBatteryPolicy := by
  intro s f _ hs
  simp only [Machine.handleSetBatteryPolicy]
  split
  · rename_i hacc
    split
    · rename_i hp
      generalize hd : ({ s.dispatch with policy :=
        { hardFloor := f.hardFloor, softReserve := f.softReserve, fullLimit := f.fullLimit,
          dischargeCap := f.dischargeCap, chargeCap := f.chargeCap, topUp := f.topUp } } : BatteryDispatchUnit) = d
      obtain ⟨d', e', h', hev⟩ := (s.setDispatch d).evaluateAndCheckIf_spec
        ((s.setDispatch d).evaluateAllowance.dispatch.allowance = (s.setDispatch d).dispatch.allowance)
      obtain ⟨d'', e'', h'', hre⟩ := (((s.setDispatch d).setDispatch d').setEvents e').computeCommand_spec .policy
      have hfin := hev.recommanded hre
      simp only [ok, h', h'']
      refine h.events e'' (h.dispatch (s := s.setEvents e') d'' (fun _ _ hl => ⟨fun _ => ⟨hfin.allowance, hre.stands⟩, fun _ => ?_⟩)
        (h.events e' hs))
      obtain ⟨hw, -, -, hu⟩ := hl hp
      simp only [policyAccepted, decide_eq_true_eq] at hacc
      obtain ⟨-, -, -, -, -, -, horder⟩ := hacc
      have hpol : d''.policy = d.policy := hfin.policy
      rw [← hd] at hpol
      refine ⟨hw, ?_, ?_, hu⟩
      · rw [State.setDispatch_dispatch, hpol]; exact (horder hp).1
      · rw [State.setDispatch_dispatch, hpol]; exact (horder hp).2
    · rename_i hp
      exact h.dispatch _ (fun hl => absurd hl hp) hs
  · exact hs

theorem Steady.handleSetTimers (h : Steady P) : Answers P P .always handleSetTimers := by
  intro s f _ hs
  simp only [Machine.handleSetTimers]
  split
  · exact h.setField (h.allocator _ (fun _ => by exact id) (h.balance _ (by rfl) (by rfl) (by rfl)
      (h.sameTable hs (by rfl)))) fun _ => by rfl
  · exact hs

theorem Steady.handleSetWatermarks (h : Steady P) : Answers P P .always handleSetWatermarks := by
  intro s f _ hs
  simp only [Machine.handleSetWatermarks]
  split
  · rename_i hr
    obtain ⟨-, -, -, -, hlt⟩ := hr
    have ha : P (s.setAllocator { s.allocator with high := f.high, urgent := f.urgent }) :=
      h.allocator _ (fun hp _ => hlt hp) hs
    simp only [ok]
    split
    · exact h.events _ ha
    · exact ha
  · exact hs

theorem Steady.handleSetNoticeRoute (h : Steady P) : Answers P P .always handleSetNoticeRoute := by
  intro s f _ hs
  unfold Machine.handleSetNoticeRoute
  split
  · exact hs
  · split
    · exact h.links _ id hs
    · exact hs

theorem Steady.handleSetTillAccess (h : Steady P) : Answers P P .always handleSetTillAccess := by
  intro s f _ hs
  unfold Machine.handleSetTillAccess
  split
  · exact h.links _ id hs
  · exact hs

theorem Steady.handleSetQueueLevels (h : Steady P) : Answers P P .always handleSetQueueLevels := by
  intro s f _ hs
  unfold Machine.handleSetQueueLevels
  split
  · exact h.queue _ hs
  · exact hs

theorem Steady.handleSetTime (h : Steady P) : Answers P P .always handleSetTime := by
  intro s time _ hs
  unfold Machine.handleSetTime
  split
  · exact h.links _ id hs
  · exact hs

/-- R168. -/
theorem Steady.handleGoLive (h : Steady P) : Answers P P .setupOnly handleGoLive := by
  intro s _ _ hs
  unfold Machine.handleGoLive
  split
  · exact hs
  · have hl : P (s.setLinks { s.links with part := .live }) := h.links _ (fun _ => rfl) hs
    have hc := h.sameTable hl (c := s.sessions.freePorts) s.sessions.freePorts_spec.1.1
    have hf := h.setField hc (f := s.field.goLive) (FieldLinkController.samePresence_nextPoll
      { s.field with urgent := [], decrease := [], cycle := pollCycle s.field, position := 0, transaction := none })
    exact h.allocator _ (fun _ => by exact id) (h.moveSite hf (by decide))

theorem Steady.handleAuthorize (h : Steady P) (who : Authorizer) : Answers P P .liveOnly (handleAuthorize who) := by
  intro s f _ hs
  unfold Machine.handleAuthorize
  split
  · split
    · exact hs
    · split
      · exact hs
      · split
        · exact hs
        · exact h.authorizeSession hs _ _ _ _
  · exact hs

theorem Steady.handleHold (h : Steady P) (add : Bool) : Answers P P .liveOnly (handleHold add) := by
  intro s p _ hs
  unfold Machine.handleHold
  split
  · split
    · exact hs
    · split
      · exact h.holdPort hs _ _ _
      · exact hs
  · exact hs

theorem Steady.handleStopSession (h : Steady P) : Answers P P .liveOnly handleStopSession := by
  intro s n _ hs
  unfold Machine.handleStopSession
  split
  · exact hs
  · split
    · exact h.transition hs n fun x hx => by exact hx
    · exact hs

theorem Steady.handleSetDeparture (h : Steady P) : Answers P P .liveOnly handleSetDeparture := by
  intro s f _ hs
  unfold Machine.handleSetDeparture
  split
  · exact hs
  · split
    · exact h.update hs _ fun _ x hx => by exact hx
    · exact hs

theorem Steady.handleLinkPurchase (h : Steady P) : Answers P P .liveOnly handleLinkPurchase := by
  intro s f _ hs
  simp only [Machine.handleLinkPurchase]
  split
  · split
    · exact hs
    · split_ifs
      · exact hs
      · exact hs
      · exact hs
      · exact h.update hs _ fun _ x hx => by exact hx
  · exact hs

theorem Steady.startOperation (h : Steady P) {s : State} (hs : P s) (k : Nat) (o : StoreKind) (im : List Byte) :
    P (startOperation s k o im).state := by
  unfold Machine.startOperation
  split
  · exact hs
  · exact h.store _ hs

theorem Steady.handleProgramTariff (h : Steady P) : Answers P P .always handleProgramTariff := by
  intro s f _ hs
  unfold Machine.handleProgramTariff
  split
  · exact h.startOperation hs _ _ _
  · exact hs

theorem Steady.handleEraseTariff (h : Steady P) : Answers P P .always handleEraseTariff := by
  intro s k _ hs
  unfold Machine.handleEraseTariff
  split
  · exact h.startOperation hs _ _ _
  · exact hs

theorem Steady.handleActivateTariff (h : Steady P) : Answers P P .always handleActivateTariff := by
  intro s k _ hs
  unfold Machine.handleActivateTariff
  split_ifs
  · exact h.events _ (h.store _ hs)
  · exact hs
  · exact hs

theorem Steady.handleReadReceipt (h : Steady P) : Answers P P .liveOnly handleReadReceipt := by
  intro s _ _ hs
  unfold Machine.handleReadReceipt
  split
  · exact hs
  · exact h.roomIf (h.queue _ hs) _

theorem Steady.handleSetMark (h : Steady P) : Answers P P .liveOnly handleSetMark :=
  fun _ _ _ hs => h.roomIf (h.queue _ hs) _

theorem Steady.handleRewind (h : Steady P) : Answers P P .liveOnly handleRewind := by
  intro s _ _ hs
  unfold Machine.handleRewind
  split
  · exact h.queue _ hs
  · exact hs

theorem Steady.handleReleaseMark (h : Steady P) : Answers P P .liveOnly handleReleaseMark := by
  intro s _ _ hs
  unfold Machine.handleReleaseMark
  split
  · exact h.roomIf (h.queue _ hs) _
  · exact hs

theorem Steady.handleFlushQueue (h : Steady P) : Answers P P .liveOnly handleFlushQueue :=
  fun _ _ _ hs => h.roomIf (h.queue _ hs) _

/-! ### The two resets (R121, R169) -/

theorem State.afterReset_restart (s : State) : s.restart.AfterReset := ⟨rfl, rfl, rfl, rfl, rfl, rfl, rfl⟩

theorem handleRestart_answers : Answers P (fun s => P s ∨ s.AfterReset) .always handleRestart := by
  intro s mode _ hs
  unfold handleRestart
  split_ifs
  · exact .inr s.afterReset_restart
  · exact .inl hs
  · exact .inr s.afterReset_restart
  · exact .inl hs

end

end Sys2Proof.Machine

namespace Sys2Proof.Machine

/-! ### Every command -/

section
variable {P : State → Prop} {s : State}

theorem Steady.done (h : Steady P) (hs : P s) : Reaches P (done s) := h.unlinked.reaches_done hs

theorem Steady.pollEnd (h : Steady P) (hs : P s) : Reaches P (execPollEnd s) := by
  unfold execPollEnd; split
  · exact reaches_nothing hs
  · split
    · exact reaches_nothing hs
    · exact h.done (h.setField hs fun _ => by rfl)

theorem Steady.fieldReply (h : Steady P) (hs : P s) (f : FieldFrame) : Reaches P (execFieldReply f s) := by
  unfold execFieldReply; split
  · exact reaches_nothing hs
  · split
    · exact reaches_nothing hs
    · refine h.done ?_
      split
      · exact h.replyValid hs _ _
      · exact h.replyMissed hs _

theorem Steady.replyTimeout (h : Steady P) (hs : P s) : Reaches P (execReplyTimeout s) := by
  unfold execReplyTimeout; split
  · exact reaches_nothing hs
  · split
    · exact reaches_nothing hs
    · exact h.done (h.replyMissed (h.reach hs _) _)

theorem Steady.execChargerReport (h : Steady P) (hs : P s) (p : Nat) : Reaches P (execChargerReport p s) := by
  unfold Machine.execChargerReport; split
  · exact reaches_nothing hs
  · exact h.done (h.takeChargerReport (h.events _ hs) _)

theorem Steady.chargerTarget (h : Steady P) (hs : P s) (p : Nat) : Reaches P (execChargerTarget p s) := by
  unfold execChargerTarget; split
  · exact reaches_nothing hs
  · exact h.done (h.setField (h.events _ hs) (FieldLinkController.samePresence_retarget _ _ _))

theorem Steady.execReadingApplied (h : Steady P) (hs : P s) (p : Nat) : Reaches P (execReadingApplied p s) := by
  unfold Machine.execReadingApplied; split
  · exact reaches_nothing hs
  · exact h.done (h.tryComplete (h.sameTable (h.events _ hs) (by rfl)) _)

theorem Steady.authorizationTimeout (h : Steady P) (hs : P s) (n : Nat) : Reaches P (execAuthorizationTimeout n s) := by
  unfold execAuthorizationTimeout; split
  · exact reaches_nothing hs
  · split
    · exact h.done (h.abandon (h.reach hs _) _ _)
    · exact reaches_nothing hs

theorem Steady.dormantTimeout (h : Steady P) (hs : P s) (n : Nat) : Reaches P (execDormantTimeout n s) := by
  unfold execDormantTimeout; split
  · exact reaches_nothing hs
  · split
    · exact h.done (h.transition (h.reach hs _) n fun x hx => by exact hx)
    · exact reaches_nothing hs

theorem Steady.idleSecondTick (h : Steady P) (hs : P s) (n : Nat) : Reaches P (execIdleSecondTick n s) := by
  unfold execIdleSecondTick; split
  · exact reaches_nothing hs
  · split
    · exact h.done (h.update (h.reach hs _) n fun _ x hx => by exact hx)
    · exact reaches_nothing hs

theorem Steady.closingTimeout (h : Steady P) (hs : P s) (n : Nat) : Reaches P (execClosingTimeout n s) := by
  unfold execClosingTimeout; split
  · exact reaches_nothing hs
  · split
    · exact h.done (h.completeClosing (h.reach hs _) _ _ _)
    · exact reaches_nothing hs

theorem Steady.allocationResultSessions (h : Steady P) (hs : P s) : Reaches P (execAllocationResultSessions s) := by
  unfold execAllocationResultSessions; split
  · exact h.done (h.takeResult (h.events _ hs) _)
  · exact reaches_nothing hs

theorem Steady.reclassification (h : Steady P) (hs : P s) : Reaches P (execReclassification s) := by
  unfold execReclassification; split
  · exact h.done (foldl_keeps (P := P) (fun n hs => h.reclassify hs _ _ n) _ (h.events _ hs))
  · exact reaches_nothing hs

theorem Steady.siteStateChangeSessions (h : Steady P) (hs : P s) : Reaches P (execSiteStateChangeSessions s) := by
  unfold execSiteStateChangeSessions; split
  · exact reaches_nothing hs
  · exact h.done (h.followSite (h.events _ hs) _)

theorem Steady.chargerHealthChange (h : Steady P) (hs : P s) (p : Nat) : Reaches P (execChargerHealthChange p s) := by
  unfold execChargerHealthChange; split
  · exact reaches_nothing hs
  · exact h.done (h.holdPort (h.events _ hs) _ _ _)

theorem Steady.activationEvent (h : Steady P) (hs : P s) : Reaches P (execActivationEvent s) := by
  unfold execActivationEvent; split
  · exact reaches_nothing hs
  · exact h.done (foldl_keeps (P := P) (fun n hs => h.freeVend hs n) _ (h.events _ hs))

theorem Steady.reportArrival (h : Steady P) (hs : P s) (u : Nat) : Reaches P (execReportArrival u s) := by
  unfold execReportArrival; split
  · exact reaches_nothing hs
  · exact h.done (h.takeReport (h.events _ hs) _)

theorem Steady.staleTimerExpiry (h : Steady P) (hs : P s) (u : Nat) : Reaches P (execStaleTimerExpiry u s) := by
  unfold execStaleTimerExpiry; split
  · exact reaches_nothing hs
  · exact h.done (h.makeStale (h.reach hs _) u)

theorem Steady.unitHealthChange (h : Steady P) (hs : P s) (u : Nat) : Reaches P (execUnitHealthChange u s) := by
  unfold execUnitHealthChange; split
  · exact reaches_nothing hs
  · exact h.done (h.takeHealth (h.events _ hs) _)

theorem Steady.fallbackHoldExpiry (h : Steady P) (hs : P s) (p : Nat) : Reaches P (execFallbackHoldExpiry p s) := by
  unfold execFallbackHoldExpiry; split
  · exact reaches_nothing hs
  · split
    · exact reaches_nothing hs
    · exact h.done (h.rebalance (h.reach hs _) ⟨rfl, rfl, rfl⟩)

theorem Steady.restoreTimerExpiry (h : Steady P) (hs : P s) : Reaches P (execRestoreTimerExpiry s) := by
  unfold execRestoreTimerExpiry; split
  · exact h.done (h.moveSite (h.raise (h.reach hs _) _ _) (by decide))
  · exact reaches_nothing hs

theorem Steady.dischargeAllowanceChange (h : Steady P) (hs : P s) : Reaches P (execDischargeAllowanceChange s) := by
  unfold execDischargeAllowanceChange; split
  · exact reaches_nothing hs
  · exact h.done (h.rebalance (h.events _ hs) ⟨rfl, rfl, rfl⟩)

theorem Steady.earlyRequest (h : Steady P) (hs : P s) : Reaches P (execEarlyRequest s) := by
  unfold execEarlyRequest; split
  · exact reaches_nothing hs
  · refine h.done ?_
    split
    · exact h.takeEarly (h.events _ hs)
    · exact h.events _ hs

theorem Steady.roundPeriodExpiry (h : Steady P) (hs : P s) : Reaches P (execRoundPeriodExpiry s) := by
  unfold execRoundPeriodExpiry; split
  · exact reaches_nothing hs
  · exact h.done (h.roundOrPend (h.allocator _ (fun _ => by exact id) (h.reach hs _)))

theorem Steady.spacingTimerExpiry (h : Steady P) (hs : P s) : Reaches P (execSpacingTimerExpiry s) := by
  unfold execSpacingTimerExpiry; split
  · exact reaches_nothing hs
  · exact h.done (h.roundOrPend (h.allocator _ (fun _ => by exact id) (h.reach hs _)))

theorem Steady.resultApplied (h : Steady P) (hs : P s) : Reaches P (execResultApplied s) := by
  unfold execResultApplied; split
  · exact reaches_nothing hs
  · exact h.done (h.takeApplied (h.events _ hs))

theorem Steady.allocationResultField (h : Steady P) (hs : P s) : Reaches P (execAllocationResultField s) := by
  unfold execAllocationResultField; split
  · exact reaches_nothing hs
  · exact h.done (h.setField (h.events _ hs) (FieldLinkController.samePresence_takeTargets _ _ _))

theorem Steady.dispatchHandover (h : Steady P) (hs : P s) : Reaches P (execDispatchHandover s) := by
  unfold execDispatchHandover; split
  · exact reaches_nothing hs
  · split
    · exact h.done (h.setField (h.events _ hs) (FieldLinkController.samePresence_takeHandover _ _))
    · exact reaches_nothing hs

/-- A report or a change of freshness of the battery: the copy changes, then R76 and R85 follow. -/
theorem Steady.evaluateAndCheck (h : Steady P) (hs : P s) {d : BatteryDispatchUnit} (hd : d.policy = s.dispatch.policy) :
    P (s.setDispatch d).evaluateAllowance.checkStanding := by
  obtain ⟨d', e', he, ⟨hpol, hall⟩, hst⟩ := (s.setDispatch d).evaluateAndCheck_spec
  rw [he]
  exact h.dispatched hs (hpol.trans hd) (fun _ => hall) hst

theorem Steady.batteryReport (h : Steady P) (hs : P s) : Reaches P (execBatteryReport s) := by
  unfold execBatteryReport; split
  · exact reaches_nothing hs
  · refine h.done (h.evaluateAndCheck (h.events _ hs) ?_)
    unfold takeBatteryReport
    split <;> rfl

theorem Steady.batteryFreshnessChange (h : Steady P) (hs : P s) : Reaches P (execBatteryFreshnessChange s) := by
  unfold execBatteryFreshnessChange; split
  · exact reaches_nothing hs
  · exact h.done (h.evaluateAndCheck (h.events _ hs) (by rfl))

/-- R77, R78: the last total and the basis, urgent release, then a computation. -/
theorem Steady.allocationResultDispatch (h : Steady P) (hs : P s) : Reaches P (execAllocationResultDispatch s) := by
  unfold execAllocationResultDispatch; split
  · exact reaches_nothing hs
  · rename_i r rest _
    refine h.done ?_
    obtain ⟨d, e, he, hpol, hdue⟩ := ((s.setEvents { s.events with resultsToDispatch := rest }).setDispatch
      { s.dispatch with lastTotal := some r.total, basis := some r.round }).applyUrgent_spec r.urgent
    rw [he]
    obtain ⟨d', e', he', hre⟩ := ((((s.setEvents { s.events with resultsToDispatch := rest }).setDispatch
      { s.dispatch with lastTotal := some r.total, basis := some r.round }).setDispatch d).setEvents e).computeCommand_spec
        .result
    rw [he']
    exact h.dispatched (s := s.setEvents e) (h.events e hs) (hre.policy.trans hpol)
      (fun k => hre.allowance.trans ((hdue k).trans hre.due.symm)) hre.stands

theorem Steady.siteStateChangeDispatch (h : Steady P) (hs : P s) : Reaches P (execSiteStateChangeDispatch s) := by
  unfold execSiteStateChangeDispatch; split
  · exact reaches_nothing hs
  · rename_i rest _
    refine h.done ?_
    obtain ⟨d, e, he, hre⟩ := (s.setEvents { s.events with siteToDispatch := rest }).computeCommand_spec .siteState
    rw [he]
    exact h.dispatched (h.events _ hs) hre.policy (fun k => hre.allowance.trans (k.trans hre.due.symm)) hre.stands

theorem Steady.readingApplication (h : Steady P) (hs : P s) (p : Nat) : Reaches P (execReadingApplication p s) := by
  unfold execReadingApplication; split
  · exact reaches_nothing hs
  · exact h.done (h.takeReading (h.events _ hs) _)

theorem Steady.erasingEnd (h : Steady P) (hs : P s) : Reaches P (execErasingEnd s) := by
  unfold execErasingEnd; split
  · exact reaches_nothing hs
  · split
    · exact h.done (h.store _ hs)
    · exact reaches_nothing hs

theorem Steady.writingEnd (h : Steady P) (hs : P s) : Reaches P (execWritingEnd s) := by
  unfold execWritingEnd; split
  · exact reaches_nothing hs
  · split
    · exact h.done (h.store _ hs)
    · exact reaches_nothing hs

theorem Steady.operationCompletion (h : Steady P) (hs : P s) (verified : Bool) :
    Reaches P (execOperationCompletion verified s) := by
  unfold execOperationCompletion; split
  · exact reaches_nothing hs
  · split
    · exact h.done (h.completeOperation hs _ _)
    · exact reaches_nothing hs

theorem Steady.siteStateChangeStore (h : Steady P) (hs : P s) : Reaches P (execSiteStateChangeStore s) := by
  unfold execSiteStateChangeStore; split
  · exact reaches_nothing hs
  · refine h.done ?_
    split
    · exact h.abortOperation (h.store _ (h.events _ hs))
    · exact h.store _ (h.events _ hs)

theorem Steady.handOver (h : Steady P) (hs : P s) : Reaches P (execHandOver s) := by
  unfold execHandOver; split
  · exact reaches_nothing hs
  · exact h.done (h.takeHandOver (h.events _ hs) _)

theorem Steady.storeFree (h : Steady P) (hs : P s) : Reaches P (execStoreFree s) := by
  unfold execStoreFree; split
  · exact reaches_nothing hs
  · simp only
    split
    · refine h.done (h.priceHead ?_ _)
      split
      · exact h.events _ hs
      · exact hs
    · exact h.done (h.events _ hs)

theorem Steady.roomEvent (h : Steady P) (hs : P s) : Reaches P (execRoomEvent s) := by
  unfold execRoomEvent; split
  · exact reaches_nothing hs
  · exact h.done (h.drain _ (h.events _ hs))

/-- A request whose handler keeps the claim. -/
theorem Steady.request (h : Steady P) (hs : P s) {α : Type} (l : Link) (kind tag : Byte) (till : Bool) {al : Allowed}
    (g : State → α → Bool) {handle : State → α → Handled} (p : Payload α) (hh : Answers P P al handle) :
    Reaches P (serve l kind tag till al g handle p s) := h.unlinked.serve h.unlinked (fun _ => id) l kind tag till g p hh hs

/-- Every command but a received byte and the two resets. -/
theorem Steady.exec_of_ne (h : Steady P) (hs : P s) (i : Instr) (hb : ∀ l b, i ≠ .receivedByte l b)
    (hr : ∀ l t p, i ≠ .restart l t p) (hp : i ≠ .powerOnReset) : Reaches P (exec i s) := by
  have hsame : ∀ {α : Type} {al : Allowed} {handle : State → α → Handled}, (∀ s f, (handle s f).state = s) →
      Answers P P al handle := fun e => answers_same (fun _ => id) e
  cases i with
  | powerOnReset => exact absurd rfl hp
  | interByteTimeout l => exact h.unlinked.interByteTimeout hs l
  | frameDiscard l => exact h.unlinked.frameDiscard hs l
  | busyRefusal l k t => exact h.unlinked.busyRefusal hs l k t
  | unknownKind l k t => exact h.unlinked.unknownKind hs l k t
  | transmitEnd l => exact h.unlinked.transmitEnd hs l
  | siteClockTick => exact h.unlinked.siteClockTick hs
  | setSite l t p => exact h.request hs _ _ _ _ _ _ h.handleSetSite
  | setFeeder l t p => exact h.request hs _ _ _ _ _ _ h.handleSetFeeder
  | setPort l t p => exact h.request hs _ _ _ _ _ _ h.handleSetPort
  | setUnit l t p => exact h.request hs _ _ _ _ _ _ h.handleSetUnit
  | setBatteryPolicy l t p => exact h.request hs _ _ _ _ _ _ h.handleSetBatteryPolicy
  | setTimers l t p => exact h.request hs _ _ _ _ _ _ h.handleSetTimers
  | setWatermarks l t p => exact h.request hs _ _ _ _ _ _ h.handleSetWatermarks
  | setNoticeRoute l t p => exact h.request hs _ _ _ _ _ _ h.handleSetNoticeRoute
  | setTillAccess l t p => exact h.request hs _ _ _ _ _ _ h.handleSetTillAccess
  | setQueueLevels l t p => exact h.request hs _ _ _ _ _ _ h.handleSetQueueLevels
  | setTime l t p => exact h.request hs _ _ _ _ _ _ h.handleSetTime
  | goLive l t p => exact h.request hs _ _ _ _ _ _ h.handleGoLive
  | restart l t p => exact absurd rfl (hr l t p)
  | authorize l t p => exact h.request hs _ _ _ _ _ _ (h.handleAuthorize _)
  | holdPort l t p => exact h.request hs _ _ _ _ _ _ (h.handleHold true)
  | releasePort l t p => exact h.request hs _ _ _ _ _ _ (h.handleHold false)
  | stopSession l t p => exact h.request hs _ _ _ _ _ _ h.handleStopSession
  | setDeparture l t p => exact h.request hs _ _ _ _ _ _ h.handleSetDeparture
  | sessionStatus l t p => exact h.request hs _ _ _ _ _ _ (hsame handleSessionStatus_state)
  | portStatus l t p => exact h.request hs _ _ _ _ _ _ (hsame handlePortStatus_state)
  | linkPurchase l t p => exact h.request hs _ _ _ _ _ _ h.handleLinkPurchase
  | programTariff l t p => exact h.request hs _ _ _ _ _ _ h.handleProgramTariff
  | eraseTariff l t p => exact h.request hs _ _ _ _ _ _ h.handleEraseTariff
  | activateTariff l t p => exact h.request hs _ _ _ _ _ _ h.handleActivateTariff
  | readTariff l t p => exact h.request hs _ _ _ _ _ _ (hsame handleReadTariff_state)
  | readReceipt l t p => exact h.request hs _ _ _ _ _ _ h.handleReadReceipt
  | setMark l t p => exact h.request hs _ _ _ _ _ _ h.handleSetMark
  | rewind l t p => exact h.request hs _ _ _ _ _ _ h.handleRewind
  | releaseMark l t p => exact h.request hs _ _ _ _ _ _ h.handleReleaseMark
  | flushQueue l t p => exact h.request hs _ _ _ _ _ _ h.handleFlushQueue
  | receiptCopy l t p => exact h.request hs _ _ _ _ _ _ (hsame handleReceiptCopy_state)
  | queueStatus l t p => exact h.request hs _ _ _ _ _ _ (hsame handleQueueStatus_state)
  | readDiscrepancy l t p => exact h.request hs _ _ _ _ _ _ (hsame handleReadDiscrepancy_state)
  | clearDiscrepancy l t p => exact h.request hs _ _ _ _ _ _ fun _ _ _ hs => h.metering _ hs
  | siteStatus l t p => exact h.request hs _ _ _ _ _ _ (hsame handleSiteStatus_state)
  | allocStatus l t p => exact h.request hs _ _ _ _ _ _ (hsame handleAllocStatus_state)
  | unitStatus l t p => exact h.request hs _ _ _ _ _ _ (hsame handleUnitStatus_state)
  | pollEnd => exact h.pollEnd hs
  | fieldReply f => exact h.fieldReply hs f
  | replyTimeout => exact h.replyTimeout hs
  | chargerReport p => exact h.execChargerReport hs p
  | chargerTarget p => exact h.chargerTarget hs p
  | readingApplied p => exact h.execReadingApplied hs p
  | authorizationTimeout n => exact h.authorizationTimeout hs n
  | dormantTimeout n => exact h.dormantTimeout hs n
  | idleSecondTick n => exact h.idleSecondTick hs n
  | closingTimeout n => exact h.closingTimeout hs n
  | allocationResultSessions => exact h.allocationResultSessions hs
  | reclassification => exact h.reclassification hs
  | siteStateChangeSessions => exact h.siteStateChangeSessions hs
  | chargerHealthChange p => exact h.chargerHealthChange hs p
  | activationEvent => exact h.activationEvent hs
  | reportArrival u => exact h.reportArrival hs u
  | staleTimerExpiry u => exact h.staleTimerExpiry hs u
  | unitHealthChange u => exact h.unitHealthChange hs u
  | fallbackHoldExpiry p => exact h.fallbackHoldExpiry hs p
  | restoreTimerExpiry => exact h.restoreTimerExpiry hs
  | dischargeAllowanceChange => exact h.dischargeAllowanceChange hs
  | earlyRequest => exact h.earlyRequest hs
  | roundPeriodExpiry => exact h.roundPeriodExpiry hs
  | spacingTimerExpiry => exact h.spacingTimerExpiry hs
  | resultApplied => exact h.resultApplied hs
  | allocationResultField => exact h.allocationResultField hs
  | allocationResultDispatch => exact h.allocationResultDispatch hs
  | batteryReport => exact h.batteryReport hs
  | batteryFreshnessChange => exact h.batteryFreshnessChange hs
  | siteStateChangeDispatch => exact h.siteStateChangeDispatch hs
  | dispatchHandover => exact h.dispatchHandover hs
  | readingApplication p => exact h.readingApplication hs p
  | erasingEnd => exact h.erasingEnd hs
  | writingEnd => exact h.writingEnd hs
  | operationCompletion v => exact h.operationCompletion hs v
  | siteStateChangeStore => exact h.siteStateChangeStore hs
  | handOver => exact h.handOver hs
  | storeFree => exact h.storeFree hs
  | roomEvent => exact h.roomEvent hs
  | receivedByte l b => exact absurd rfl (hb l b)

/-- The two resets, from whatever state, and every other command by the operations of the blocks. -/
theorem Steady.exec (h : Steady P) (hs : P s) (i : Instr) : Reaches (fun t => P t ∨ t.AfterReset) (exec i s) := by
  have hQ : Unlinked fun t => P t ∨ t.AfterReset := h.unlinked.or State.AfterReset.unlinked
  refine h.unlinked.exec hQ (fun _ => .inl) hs (fun i hb => ?_) i
  by_cases hr : ∃ l t p, i = .restart l t p
  · obtain ⟨l, t, p, rfl⟩ := hr
    exact h.unlinked.serve hQ (fun _ => .inl) _ _ _ _ _ _ handleRestart_answers hs
  · by_cases hp : i = .powerOnReset
    · subst hp
      exact hQ.reaches_done (.inr ⟨rfl, rfl, rfl, rfl, rfl, rfl, rfl⟩)
    · exact fun t ht => .inl (h.exec_of_ne hs i hb (fun l t p e => hr ⟨l, t, p, e⟩) hp t ht)

/-- One step keeps a steady claim, or leads to a state right after reset. -/
theorem Steady.step (h : Steady P) {t : State} (hs : P s) (ht : step s = .next t) : P t ∨ t.AfterReset :=
  h.unlinked.step (fun _ => .inl) (fun _ hs i => h.exec hs i) hs ht

end

end Sys2Proof.Machine

namespace Sys2Proof.Machine

/-! ### The balance record (R42 to R44) -/

/-- R44: the shares of canopy and battery never exceed the whole. -/
theorem shares_le (power solar battery : Nat) (h : solar + battery ≤ power) :
    1024 * solar / power + 1024 * battery / power ≤ 1024 := by
  calc 1024 * solar / power + 1024 * battery / power ≤ (1024 * solar + 1024 * battery) / power := Nat.div_add_div_le_add_div ..
    _ ≤ 1024 * power / power := Nat.div_le_div_right (by omega)
    _ ≤ 1024 := Nat.div_le_of_le_mul (by rw [Nat.mul_comm])

theorem mixOf_sum (chargers pv battery : Nat) :
    (mixOf chargers pv battery).solar + (mixOf chargers pv battery).battery + (mixOf chargers pv battery).grid = 1024 := by
  unfold mixOf
  split
  · rfl
  · have h := shares_le chargers (min pv chargers) (min battery (chargers - min pv chargers)) (by omega)
    dsimp only
    omega

theorem budgetOf_le (site : SiteState) (budgetW : Int) (phantomTotal : Nat) : budgetOf site budgetW phantomTotal ≤ 8000 := by
  unfold budgetOf
  split
  · exact Nat.min_le_right _ _
  · exact Nat.zero_le _

theorem budgetOf_eq_zero {site : SiteState} (h : site ≠ .normal) (budgetW : Int) (phantomTotal : Nat) :
    budgetOf site budgetW phantomTotal = 0 := by
  unfold budgetOf
  split
  · exact absurd rfl h
  · rfl

theorem overloadFlag_eq (site : SiteState) (budgetW : Int) :
    overloadFlag site budgetW = (site == .normal && decide (budgetW < 0)) := by
  cases site <;> rfl

theorem balanceOf_wf (f : FieldLinkController) (c : SessionController) (b : SiteBalanceUnit) : (balanceOf f c b).Wf :=
  ⟨mixOf_sum .., budgetOf_le .., fun h => budgetOf_eq_zero h .., fun h => by
    have hflag : overloadFlag b.siteState b.budgetW = true := h
    show b.siteState = .normal ∧ b.budgetW < 0
    simpa [overloadFlag_eq] using hflag⟩

/-! ### A recomputation and a change of site state (R33, R35, R43, R46) -/

/-- R43: STORE_OVERLOAD is raised when its flag changes from clear to set. -/
def LinkController.alarm (c : LinkController) (old new : BalanceRecord) : LinkController :=
  if old.flags.storeOverload = false ∧ new.flags.storeOverload = true then c.raise .storeOverload (-new.budgetW).toNat else c

@[simp] theorem LinkController.alarm_part (c : LinkController) (old new : BalanceRecord) : (c.alarm old new).part = c.part := by
  unfold LinkController.alarm
  split
  · rfl
  · rfl

theorem State.recompute_eq (s : State) :
    s.recompute = (s.setBalance { s.balance with record := balanceOf s.field s.sessions s.balance }).setLinks
      (s.links.alarm s.balance.record (balanceOf s.field s.sessions s.balance)) := by
  simp only [State.recompute, LinkController.alarm]
  split
  · rfl
  · rfl

/-- The Site Balance Unit after a change of site state, before the recomputation. -/
def SiteBalanceUnit.moved (b : SiteBalanceUnit) (new : SiteState) : SiteBalanceUnit :=
  { b with siteState := new, restoreTimer := if new = .restoring then b.restoreTimer else none }

section
variable (s : State) (new : SiteState)

@[simp] theorem State.recompute_balance :
    s.recompute.balance = { s.balance with record := balanceOf s.field s.sessions s.balance } := by
  rw [s.recompute_eq]; rfl

@[simp] theorem State.recompute_sessions : s.recompute.sessions = s.sessions := by rw [s.recompute_eq]; rfl

theorem State.changeSite_eq :
    s.changeSite new = ((s.setBalance (s.balance.moved new)).sendSiteChange { before := s.balance.siteState, after := new }).recompute :=
  rfl

@[simp] theorem State.changeSite_balance : (s.changeSite new).balance =
    { s.balance.moved new with record := balanceOf s.field s.sessions (s.balance.moved new) } := by
  rw [s.changeSite_eq]; exact State.recompute_balance _

@[simp] theorem State.changeSite_sessions : (s.changeSite new).sessions = s.sessions := by
  rw [s.changeSite_eq]; exact State.recompute_sessions _

end

section
variable {s : State}

theorem State.recompute_balanceWf (h : s.balance.Wf) : s.recompute.balance.Wf := by
  rw [State.recompute_balance]
  exact ⟨balanceOf_wf .., rfl, h.2.2⟩

theorem State.changeSite_balanceWf {new : SiteState} (h : new = .restoring → s.balance.restoreTimer.isSome = true) :
    (s.changeSite new).balance.Wf := by
  rw [State.changeSite_balance]
  refine ⟨balanceOf_wf .., rfl, ?_⟩
  by_cases hn : new = .restoring
  · simpa [SiteBalanceUnit.moved, hn] using h hn
  · simp [SiteBalanceUnit.moved, hn]

/-- The balance record and the restore timer keep their invariant through every operation of the blocks. -/
theorem steady_balanceWf : Steady fun s => s.balance.Wf where
  links _ _ hs := hs
  time _ hs := hs
  pending _ hs := hs
  draws _ hs := hs
  metering _ hs := hs
  store _ hs := hs
  builder _ hs := hs
  queue _ hs := hs
  events _ hs := hs
  field _ _ hs := hs
  allocator _ _ hs := hs
  sessions _ _ hs := hs
  dispatch _ _ hs := hs
  balance {s} b hsite htimer hrecord hs := by
    show b.Wf
    unfold SiteBalanceUnit.Wf
    rwa [hsite, htimer, hrecord]
  recompute hs := State.recompute_balanceWf hs
  changeSite _ _ _ htimer _ := State.changeSite_balanceWf htimer

/-- The mix of every balance record sums to 1,024, and each session keeps its energies within bounds. -/
theorem steady_energyWf : Steady State.EnergyWf where
  links _ _ hs := hs
  time _ hs := hs
  pending _ hs := hs
  draws _ hs := hs
  metering _ hs := hs
  store _ hs := hs
  builder _ hs := hs
  queue _ hs := hs
  events _ hs := hs
  field _ _ hs := hs
  allocator _ _ hs := hs
  sessions _ htable hs := ⟨hs.1, htable hs⟩
  dispatch _ _ hs := hs
  balance b _ _ hrecord hs := ⟨(congrArg (fun r : BalanceRecord => r.mix.solar + r.mix.battery + r.mix.grid) hrecord).trans hs.1, hs.2⟩
  recompute {s} hs := by
    unfold State.EnergyWf
    rw [State.recompute_balance, State.recompute_sessions]
    exact ⟨mixOf_sum .., hs.2⟩
  changeSite {s} b new _ _ hs := by
    unfold State.EnergyWf
    rw [State.changeSite_balance, State.changeSite_sessions]
    exact ⟨mixOf_sum .., hs.2⟩

end

theorem SiteBalanceUnit.reset_wf : SiteBalanceUnit.reset.Wf := by decide

theorem State.AfterReset.energyWf {t : State} (h : t.AfterReset) : t.EnergyWf := by
  obtain ⟨-, -, hb, -, hc, -⟩ := h
  unfold State.EnergyWf
  rw [hb, hc]
  exact ⟨rfl, fun x hx => absurd hx List.not_mem_nil⟩

/-- Settles O54: `SiteBalanceUnit.Wf` survives every operation on a block, and holds right after a reset. -/
theorem stepKeepsTheBalance : Obligations.StepKeepsTheBalance := by
  intro s t hs ht
  obtain h | h := steady_balanceWf.step hs ht
  · exact h
  · obtain ⟨-, -, hb, -⟩ := h
    exact hb ▸ SiteBalanceUnit.reset_wf

/-- Settles O57: `State.EnergyWf` survives every operation on a block, and holds right after a reset. -/
theorem stepKeepsTheEnergies : Obligations.StepKeepsTheEnergies := fun _ _ hs ht =>
  (steady_energyWf.step hs ht).elim id State.AfterReset.energyWf

end Sys2Proof.Machine

namespace Sys2Proof.Machine

/-! ### LIVE: the allowance is the one due, and the target stands (R75, R76, R85) -/

/-- The part is LIVE and keeps the invariant of the battery and of the settings in force. -/
structure State.Running (s : State) : Prop where
  live : s.links.part = .live
  dispatchWf : s.DispatchWf
  liveWf : s.LiveWf

/-- What `State.Running` reads: the part state, the allocator's watermarks, which units are present, and the Battery
Dispatch Unit. -/
theorem State.Running.of_eq {s t : State} (hs : s.Running) (hpart : t.links.part = .live)
    (hallocator : s.allocator.high < s.allocator.urgent → t.allocator.high < t.allocator.urgent)
    (hfield : ∀ u, (t.field.unit u).present = (s.field.unit u).present) (hdispatch : t.dispatch = s.dispatch) :
    t.Running := by
  obtain ⟨hw, h1, h2, h33, h34⟩ := hs.liveWf hs.live
  refine ⟨hpart, fun _ => ?_, fun _ => ⟨hallocator hw, ?_⟩⟩
  · rw [State.batteryPresent, hfield 39, hdispatch]
    exact hs.dispatchWf hs.live
  · rw [hfield 33, hfield 34, hdispatch]
    exact ⟨h1, h2, h33, h34⟩

section
variable {s : State}

theorem State.Running.recompute (hs : s.Running) : s.recompute.Running := by
  rw [State.recompute_eq]
  exact hs.of_eq ((LinkController.alarm_part ..).trans hs.live) id (fun _ => rfl) rfl

theorem steady_running : Steady State.Running where
  links _ hlive hs := hs.of_eq (hlive hs.live) id (fun _ => rfl) rfl
  time _ hs := hs.of_eq hs.live id (fun _ => rfl) rfl
  pending _ hs := hs.of_eq hs.live id (fun _ => rfl) rfl
  draws _ hs := hs.of_eq hs.live id (fun _ => rfl) rfl
  metering _ hs := hs.of_eq hs.live id (fun _ => rfl) rfl
  store _ hs := hs.of_eq hs.live id (fun _ => rfl) rfl
  builder _ hs := hs.of_eq hs.live id (fun _ => rfl) rfl
  queue _ hs := hs.of_eq hs.live id (fun _ => rfl) rfl
  events _ hs := hs.of_eq hs.live id (fun _ => rfl) rfl
  sessions _ _ hs := hs.of_eq hs.live id (fun _ => rfl) rfl
  balance _ _ _ _ hs := hs.of_eq hs.live id (fun _ => rfl) rfl
  field _ hpresent hs := hs.of_eq hs.live id (hpresent hs.live) rfl
  allocator _ horder hs := hs.of_eq hs.live (horder hs.live) (fun _ => rfl) rfl
  recompute hs := hs.recompute
  changeSite _ _ _ _ hs := State.Running.recompute (hs.of_eq hs.live id (fun _ => rfl) rfl)
  dispatch _ hd hs :=
    have h := hd hs.live hs.dispatchWf hs.liveWf
    ⟨hs.live, h.1, h.2⟩

end

/-! ### SETUP: nothing is under way (R27, R37, R50, R72, R94) -/

def FieldLinkController.Silent (f : FieldLinkController) : Prop :=
  f.transaction = none ∧ f.urgent = [] ∧ f.decrease = []

def SiteBalanceUnit.Quiet (b : SiteBalanceUnit) : Prop :=
  b.siteState = .none ∧ b.restoreTimer = none ∧ b.battery.fresh = false

def BatteryDispatchUnit.Quiet (d : BatteryDispatchUnit) : Prop := d.fresh = false ∧ d.allowance = 0 ∧ d.target = .idle

def PowerAllocator.Quiet (a : PowerAllocator) : Prop := a.periodTimer = none ∧ a.spacing = none ∧ a.pending = false

def SessionController.Vacant (c : SessionController) : Prop :=
  c.table = [] ∧ c.waiting = [] ∧ ∀ p ∈ portNumbers, (c.record p).state = none

def Events.Quiet (e : Events) : Prop :=
  e.reports = [] ∧ e.unitHealth = [] ∧ e.batteryReports = [] ∧ e.freshness = [] ∧ e.resultsToField = [] ∧
    e.resultsToDispatch = [] ∧ e.siteToDispatch = [] ∧ e.handovers = [] ∧ e.chargerTargets = []

/-- The part is in SETUP and `State.SetupWf` says of it what it says there, block by block. -/
structure State.Quiet (s : State) : Prop where
  part : s.links.part = .setup
  field : s.field.Silent
  balance : s.balance.Quiet
  dispatch : s.dispatch.Quiet
  allocator : s.allocator.Quiet
  sessions : s.sessions.Vacant
  events : s.events.Quiet

theorem State.Quiet.of_setupWf {s : State} (h : s.links.part = .setup) (hs : s.SetupWf) : s.Quiet := by
  obtain ⟨hf, hb, hd, ha, hc, he⟩ := hs h
  exact ⟨h, hf, hb, hd, ha, hc, he⟩

theorem State.Quiet.setupWf {s : State} (hs : s.Quiet) : s.SetupWf := fun _ =>
  ⟨hs.field, hs.balance, hs.dispatch, hs.allocator, hs.sessions, hs.events⟩

section
variable {s : State}

theorem SessionController.reset_vacant : SessionController.reset.Vacant := ⟨rfl, rfl, by decide⟩

theorem State.AfterReset.quiet (h : s.AfterReset) : s.Quiet := by
  obtain ⟨hp, hf, hb, hd, hc, ha, he⟩ := h
  refine ⟨hp, ?_, ?_, ?_, ?_, ?_, ?_⟩
  · rw [hf]; exact ⟨rfl, rfl, rfl⟩
  · rw [hb]; exact ⟨rfl, rfl, rfl⟩
  · rw [hd]; exact ⟨rfl, rfl, rfl⟩
  · rw [ha]; exact ⟨rfl, rfl, rfl⟩
  · rw [hc]; exact SessionController.reset_vacant
  · rw [he]; exact ⟨rfl, rfl, rfl, rfl, rfl, rfl, rfl, rfl, rfl⟩

theorem unlinked_quiet : Unlinked State.Quiet where
  links _ hpart hs := { hs with part := hpart.trans hs.part }
  time _ hs := { hs with }
  pending _ hs := { hs with }

namespace State.Quiet

/-! #### The sessions: there are none -/

theorem find (hs : s.Quiet) (n : Nat) : s.sessions.find n = none := by
  rw [SessionController.find, hs.sessions.1]; rfl

theorem holder (hs : s.Quiet) (p : Nat) : s.sessions.holder p = none := by
  rw [SessionController.holder, hs.sessions.1]; rfl

theorem numbers (hs : s.Quiet) : s.sessions.table.map Session.number = [] := by rw [hs.sessions.1]; rfl

theorem portState (hs : s.Quiet) (p : Nat) (hp : p ∈ portNumbers) : (s.sessions.record p).state = none :=
  hs.sessions.2.2 p hp

theorem holdPort_eq (hs : s.Quiet) (p : Nat) (r : HoldReason) (add : Bool) : s.holdPort p r add = s := by
  unfold State.holdPort; rw [hs.holder p]

theorem serveWaiting_eq (hs : s.Quiet) : s.serveWaiting = s := by
  unfold State.serveWaiting; rw [hs.sessions.2.1]

theorem raise (hs : s.Quiet) (k : NoticeKind) (data : Nat) : (s.raise k data).Quiet := { hs with }

theorem reach (hs : s.Quiet) (expiry : Nat) : (s.reach expiry).Quiet := { hs with }

/-- A port record changed in a field other than its port state. -/
theorem setRecord (hs : s.Quiet) (p : Nat) {x : PortRecord} (hx : x.state = (s.sessions.record p).state) :
    (s.setSessions (s.sessions.setRecord p x)).Quiet := by
  refine { hs with sessions := ⟨hs.sessions.1, hs.sessions.2.1, fun q hq => ?_⟩ }
  rw [State.setSessions_sessions, SessionController.record_setRecord_if]
  split
  · rename_i h
    exact hx.trans (hs.portState p (h.1 ▸ h.2))
  · exact hs.portState q hq

theorem removeSession (hs : s.Quiet) (n : Nat) : (s.removeSession n).Quiet := by
  refine { hs with sessions := ⟨?_, hs.sessions.2⟩ }
  rw [State.removeSession, State.setSessions_sessions, hs.sessions.1]
  rfl

end State.Quiet

end

end Sys2Proof.Machine

namespace Sys2Proof.Machine

section
variable {s : State}

namespace State.Quiet

/-! #### The Site Balance Unit -/

theorem setBalance (hs : s.Quiet) {b : SiteBalanceUnit} (hb : b.Quiet) : (s.setBalance b).Quiet := { hs with balance := hb }

theorem recompute (hs : s.Quiet) : s.recompute.Quiet := by
  rw [State.recompute_eq]
  exact { hs with part := (LinkController.alarm_part ..).trans hs.part }

/-- A change of the Site Balance Unit that leaves it quiet, and the recomputation it leads to. -/
theorem rebalance (hs : s.Quiet) {b : SiteBalanceUnit} (hb : b.Quiet) : (s.setBalance b).recompute.Quiet :=
  (hs.setBalance hb).recompute

theorem makeStale (hs : s.Quiet) (u : Nat) : (s.makeStale u).Quiet := by
  unfold State.makeStale
  split_ifs
  · exact hs.rebalance hs.balance
  · exact hs.rebalance hs.balance
  · exact hs.rebalance hs.balance
  · obtain ⟨h1, h2, hfresh⟩ := hs.balance
    rw [State.freshen, if_pos hfresh]
    exact hs.rebalance ⟨h1, h2, rfl⟩

/-! #### The Session Controller -/

theorem applyFault (hs : s.Quiet) (p : Nat) (fault : Bool) : (s.applyFault p fault).Quiet := by
  have hset : (s.setSessions (s.sessions.setRecord p { s.sessions.record p with fault := fault })).Quiet :=
    hs.setRecord p rfl
  simp only [State.applyFault]
  split_ifs
  · exact hset
  · rw [(hset.raise _ _).holdPort_eq]; exact hset.raise _ _
  · rw [hset.holdPort_eq]; exact hset

theorem applyDemand_eq (hs : s.Quiet) (p : Nat) : s.applyDemand p = s := by
  unfold State.applyDemand; rw [hs.holder p]

/-- R3: a port without a state takes no vehicle connection. -/
theorem applyConnection_eq (hs : s.Quiet) {r : ChargerReport} (hr : r.port ∈ portNumbers) : s.applyConnection r = s := by
  unfold State.applyConnection; rw [hs.portState _ hr]

theorem lockoutAlone (hs : s.Quiet) (sent p : Nat) : (s.lockoutAlone sent p).Quiet := by
  unfold State.lockoutAlone
  split
  · exact hs
  · obtain ⟨h1, h2, h3, h4, h5, h6, h7, h8, htargets⟩ := hs.events
    exact { hs with events := ⟨h1, h2, h3, h4, h5, h6, h7, h8, by simp [htargets]⟩ }

theorem takeChargerReport (hs : s.Quiet) (r : ChargerReport) : (s.takeChargerReport r).Quiet := by
  unfold State.takeChargerReport
  split
  · exact hs
  · rename_i e he
    have hport : r.port ∈ portNumbers := SessionController.port_of_entry he
    have hfault := (hs.setRecord r.port
      (x := { s.sessions.record r.port with acceptance := some r.acceptance }) rfl).applyFault r.port r.fault
    dsimp only
    rw [hfault.applyDemand_eq, hfault.applyConnection_eq hport]
    exact hfault.lockoutAlone _ _

theorem tryComplete (hs : s.Quiet) (p : Nat) : (s.tryComplete p).Quiet := by
  unfold State.tryComplete
  rw [hs.holder p]
  exact hs

theorem takeEntry_eq (hs : s.Quiet) (e : CandidateEntry) : s.takeEntry e = s := by
  unfold State.takeEntry; rw [hs.find]

theorem takeResult (hs : s.Quiet) (r : AllocationResult) : (s.takeResult r).Quiet := by
  have hf : (r.entries.foldl State.takeEntry s).Quiet :=
    foldl_keeps (P := State.Quiet) (fun e h => (h.takeEntry_eq e).symm ▸ h) _ hs
  refine { hf with sessions := ⟨?_, hf.sessions.2⟩ }
  exact congrArg (List.map fun x => x.unnamed r.entries) hf.sessions.1

theorem followSite_eq (hs : s.Quiet) (c : SiteChange) : s.followSite c = s := by
  unfold State.followSite
  rw [hs.numbers]
  split_ifs <;> rfl

/-! #### Receipts and readings -/

theorem takeReceipt (hs : s.Quiet) (r : Receipt) : (s.takeReceipt r).Quiet := by
  have hraise : ∀ {u : State} (c : Prop) [Decidable c] (k : NoticeKind), u.Quiet →
      (if c then u.raise k r.number else u).Quiet := fun c _ k hu => by
    split
    · exact hu.raise _ _
    · exact hu
  exact hraise _ _ (hraise _ _ (hraise _ _ { hs with }))

theorem leaveTable (hs : s.Quiet) (n : Nat) : (s.leaveTable n).Quiet := by
  have h := (hs.removeSession n).raise .sessionChange n
  rw [State.leaveTable, h.serveWaiting_eq]
  exact h

theorem takeHandOver_eq (hs : s.Quiet) (n : Nat) : s.takeHandOver n = s := by
  unfold State.takeHandOver; rw [hs.find]

theorem priceHead (hs : s.Quiet) (n : Nat) : (s.priceHead n).Quiet := by
  have hb : (s.setBuilder { s.builder with pricing := s.builder.pricing.drop 1 }).Quiet := { hs with }
  simp only [State.priceHead]
  rw [hb.find]
  exact hb

theorem drain (fuel : Nat) (hs : s.Quiet) : (State.drain fuel s).Quiet := by
  induction fuel generalizing s with
  | zero => exact hs
  | succ fuel ih =>
    unfold State.drain
    split
    · exact hs
    · split
      · exact hs
      · rename_i rest _ _
        have hb : (s.setBuilder { s.builder with waiting := rest }).Quiet := { hs with }
        exact ih ((hb.takeReceipt _).leaveTable _)

theorem roomIf (hs : s.Quiet) (removed : Nat) : (s.roomIf removed).Quiet := by
  unfold State.roomIf
  split
  · exact hs
  · exact { hs with }

theorem setMetering (hs : s.Quiet) (m : MeteringUnit) : (s.setMetering m).Quiet := { hs with }

theorem applyFirstReading (hs : s.Quiet) (r : MeterReading) (reading : Nat) : (s.applyFirstReading r reading).Quiet := by
  simp only [State.applyFirstReading]
  rw [(hs.setMetering _).holder]
  exact hs.setMetering _

theorem applyReading (hs : s.Quiet) (r : MeterReading) (reading last since : Nat) :
    (s.applyReading r reading last since).Quiet := by
  simp only [State.applyReading]
  rw [hs.holder]
  dsimp only
  split
  · exact hs.setMetering _
  · exact { hs with }

theorem takeReading (hs : s.Quiet) (r : MeterReading) : (s.takeReading r).Quiet := by
  have hsend : ∀ {u : State}, u.Quiet → ∀ e, (u.sendReadingApplied e).Quiet := fun hu e => { hu with }
  simp only [State.takeReading]
  refine hsend ?_ _
  split
  · exact hs
  · split
    · exact hs.applyFirstReading _ _
    · exact hs.applyReading _ _ _ _

/-! #### The Tariff Store -/

theorem abortOperation (hs : s.Quiet) : s.abortOperation.Quiet := by
  unfold State.abortOperation
  split
  · exact hs
  · exact { hs with }

theorem completeOperation (hs : s.Quiet) (op : StoreOperation) (verified : Bool) : (s.completeOperation op verified).Quiet :=
  { hs with }

end State.Quiet

end

end Sys2Proof.Machine

namespace Sys2Proof.Machine

section
variable {s : State}

/-! #### Requests in SETUP -/

/-- A request allowed only in LIVE is refused. -/
theorem answers_liveOnly {α : Type} {P Q : State → Prop} (hP : ∀ s, P s → s.links.part = .setup)
    (handle : State → α → Handled) : Answers P Q .liveOnly handle := fun s _ hal hs =>
  absurd ((live_of_liveOnly hal).symm.trans (hP s hs)) (by decide)

theorem handleSetSite_quiet : Answers State.Quiet State.Quiet .always handleSetSite := by
  intro s f _ hs
  have hb : ∀ x n, ((s.setBalance { s.balance with settings := x }).setBuilder { s.builder with next := n }).Quiet :=
    fun x n => { hs with }
  have hr : ∀ {u : State} (c : Prop) [Decidable c], u.Quiet → (if c then u.recompute else u).Quiet := fun c _ hu => by
    split
    · exact hu.recompute
    · exact hu
  simp only [handleSetSite, setBuilder_next_ite]
  split
  · exact hr _ (hb _ _)
  · exact hs

theorem handleSetFeeder_quiet : Answers State.Quiet State.Quiet .setupOnly handleSetFeeder := by
  intro s f _ hs
  unfold handleSetFeeder
  split
  · exact { hs with }
  · exact hs

theorem State.Quiet.configurePort (hs : s.Quiet) (p : Nat) (e : Option PortEntry) : (s.configurePort p e).Quiet := by
  cases e with
  | some e => exact { hs with }
  | none =>
    have hr := (hs.setRecord p (x := PortRecord.reset)
      (by by_cases hp : p ∈ portNumbers
          · exact (hs.portState p hp).symm
          · by_contra h
            exact hp (SessionController.port_of_state (c := s.sessions) fun e => h e.symm))).sessions
    exact { hs with sessions := hr }

theorem handleSetPort_quiet : Answers State.Quiet State.Quiet .setupOnly handleSetPort := by
  intro s f _ hs
  unfold handleSetPort
  split
  · exact hs
  · split
    · split
      · exact hs
      · split
        · exact hs.configurePort f.port (some _)
        · exact hs.configurePort f.port none
    · exact hs

theorem SiteBalanceUnit.Quiet.forget {b : SiteBalanceUnit} (hb : b.Quiet) (u : Nat) : (b.forget u).Quiet := by
  unfold SiteBalanceUnit.forget
  split_ifs
  · exact hb
  · exact hb
  · exact hb
  · exact ⟨hb.1, hb.2.1, rfl⟩

theorem handleSetUnit_quiet : Answers State.Quiet State.Quiet .setupOnly handleSetUnit := by
  intro s f _ hs
  unfold handleSetUnit
  split
  · exact hs
  · rename_i u _
    split
    · split
      · exact hs
      · exact { hs with balance := hs.balance.forget u }
    · exact hs

theorem handleSetBatteryPolicy_quiet : Answers State.Quiet State.Quiet .always handleSetBatteryPolicy := by
  intro s f _ hs
  simp only [handleSetBatteryPolicy]
  split
  · split
    · rename_i hlive
      exact absurd (hlive.symm.trans hs.part) (by decide)
    · exact { hs with }
  · exact hs

theorem handleSetTimers_quiet : Answers State.Quiet State.Quiet .always handleSetTimers := by
  intro s f _ hs
  simp only [handleSetTimers]
  split
  · exact { hs with }
  · exact hs

theorem handleSetWatermarks_quiet : Answers State.Quiet State.Quiet .always handleSetWatermarks := by
  intro s f _ hs
  simp only [handleSetWatermarks]
  split
  · simp only [ok]
    split
    · exact { hs with }
    · exact { hs with }
  · exact hs

theorem handleSetNoticeRoute_quiet : Answers State.Quiet State.Quiet .always handleSetNoticeRoute := by
  intro s f _ hs
  unfold handleSetNoticeRoute
  split
  · exact hs
  · split
    · exact { hs with }
    · exact hs

theorem handleSetTillAccess_quiet : Answers State.Quiet State.Quiet .always handleSetTillAccess := by
  intro s f _ hs
  unfold handleSetTillAccess
  split
  · exact { hs with }
  · exact hs

theorem handleSetQueueLevels_quiet : Answers State.Quiet State.Quiet .always handleSetQueueLevels := by
  intro s f _ hs
  unfold handleSetQueueLevels
  split
  · exact { hs with }
  · exact hs

theorem handleSetTime_quiet : Answers State.Quiet State.Quiet .always handleSetTime := by
  intro s time _ hs
  unfold handleSetTime
  split
  · exact { hs with }
  · exact hs

theorem State.Quiet.startOperation (hs : s.Quiet) (k : Nat) (o : StoreKind) (im : List Byte) :
    (startOperation s k o im).state.Quiet := by
  unfold Machine.startOperation
  split
  · exact hs
  · exact { hs with }

theorem handleProgramTariff_quiet : Answers State.Quiet State.Quiet .always handleProgramTariff := by
  intro s f _ hs
  unfold handleProgramTariff
  split
  · exact hs.startOperation _ _ _
  · exact hs

theorem handleEraseTariff_quiet : Answers State.Quiet State.Quiet .always handleEraseTariff := by
  intro s k _ hs
  unfold handleEraseTariff
  split
  · exact hs.startOperation _ _ _
  · exact hs

theorem handleActivateTariff_quiet : Answers State.Quiet State.Quiet .always handleActivateTariff := by
  intro s k _ hs
  unfold handleActivateTariff
  split_ifs
  · exact { hs with }
  · exact hs
  · exact hs

theorem handleRestart_quiet : Answers State.Quiet State.Quiet .always handleRestart := by
  intro s mode hal hs
  obtain h | h := handleRestart_answers (P := State.Quiet) s mode hal hs
  · exact h
  · exact h.quiet

/-! #### GO_LIVE (R167, R168) -/

/-- R167: the checks that the settings in force while LIVE rest on. -/
theorem configFault_eq_none (h : configFault s = none) : s.allocator.high < s.allocator.urgent ∧
    s.dispatch.policy.hardFloor < s.dispatch.policy.softReserve ∧
      s.dispatch.policy.softReserve < s.dispatch.policy.fullLimit ∧ (s.field.unit 33).present = true ∧
        (s.field.unit 34).present = true := by
  unfold configFault at h
  split at h
  · cases h
  · split at h
    · cases h
    · split at h
      · cases h
      · split_ifs at h with h4 h5 h6 h7
        obtain ⟨h51, h52⟩ := not_or.1 h5
        exact ⟨Nat.lt_of_not_le h4, Nat.lt_of_not_le h51, Nat.lt_of_not_le h52, by simpa using h6, by simpa using h7⟩

/-- A battery whose copy is not fresh is allowed nothing, and the IDLE it is told stands (R75, R85). -/
theorem BatteryDispatchUnit.Quiet.due {d : BatteryDispatchUnit} (hd : d.Quiet) (present : Bool) :
    d.allowance = allowanceOf present d ∧ stands present d = true := by
  obtain ⟨hfresh, hall, htarget⟩ := hd
  refine ⟨?_, ?_⟩
  · simp [hall, allowanceOf, trusted, hfresh]
  · rw [stands_iff, htarget]
    trivial

theorem State.Quiet.goLive (hs : s.Quiet) (h : configFault s = none) : s.goLive.Running := by
  have hset : ((s.setLinks { s.links with part := .live }).setSessions s.sessions.freePorts).Running :=
    ⟨rfl, fun _ => hs.dispatch.due _, fun _ => configFault_eq_none (s := s) h⟩
  have hfield := steady_running.setField hset (f := s.field.goLive) (FieldLinkController.samePresence_nextPoll
    { s.field with urgent := [], decrease := [], cycle := pollCycle s.field, position := 0, transaction := none })
  exact steady_running.allocator _ (fun _ => by exact id) (steady_running.moveSite hfield (by decide))

theorem handleGoLive_quiet : Answers State.Quiet (fun t => t.Quiet ∨ t.Running) .setupOnly handleGoLive := by
  intro s _ _ hs
  unfold handleGoLive
  split
  · exact .inl hs
  · rename_i h
    exact .inr (hs.goLive h)

end

end Sys2Proof.Machine

namespace Sys2Proof.Machine

section
variable {s : State}

/-! #### Commands in SETUP -/

namespace State.Quiet

theorem done (hs : s.Quiet) : Reaches State.Quiet (Machine.done s) := unlinked_quiet.reaches_done hs

/-- A timer of a session. -/
theorem noSession (hs : s.Quiet) (n : Nat) (f : Session → Host.Outcome State Fault Refusal) :
    Reaches State.Quiet (match s.sessions.find n with
      | none => nothing s
      | some x => f x) := by
  rw [hs.find]
  exact reaches_nothing hs

theorem execReportArrival (hs : s.Quiet) (u : Nat) : Reaches State.Quiet (execReportArrival u s) := by
  unfold Machine.execReportArrival
  rw [hs.events.1]
  exact reaches_nothing hs

theorem execUnitHealthChange (hs : s.Quiet) (u : Nat) : Reaches State.Quiet (execUnitHealthChange u s) := by
  obtain ⟨-, hhealth, -⟩ := hs.events
  unfold Machine.execUnitHealthChange
  rw [hhealth]
  exact reaches_nothing hs

theorem execBatteryReport (hs : s.Quiet) : Reaches State.Quiet (execBatteryReport s) := by
  obtain ⟨-, -, hbattery, -⟩ := hs.events
  unfold Machine.execBatteryReport
  rw [hbattery]
  exact reaches_nothing hs

theorem execBatteryFreshnessChange (hs : s.Quiet) : Reaches State.Quiet (execBatteryFreshnessChange s) := by
  obtain ⟨-, -, -, hfreshness, -⟩ := hs.events
  unfold Machine.execBatteryFreshnessChange
  rw [hfreshness]
  exact reaches_nothing hs

theorem execAllocationResultField (hs : s.Quiet) : Reaches State.Quiet (execAllocationResultField s) := by
  obtain ⟨-, -, -, -, hresults, -⟩ := hs.events
  unfold Machine.execAllocationResultField
  rw [hresults]
  exact reaches_nothing hs

theorem execAllocationResultDispatch (hs : s.Quiet) : Reaches State.Quiet (execAllocationResultDispatch s) := by
  obtain ⟨-, -, -, -, -, hresults, -⟩ := hs.events
  unfold Machine.execAllocationResultDispatch
  rw [hresults]
  exact reaches_nothing hs

theorem execSiteStateChangeDispatch (hs : s.Quiet) : Reaches State.Quiet (execSiteStateChangeDispatch s) := by
  obtain ⟨-, -, -, -, -, -, hsite, -⟩ := hs.events
  unfold Machine.execSiteStateChangeDispatch
  rw [hsite]
  exact reaches_nothing hs

theorem execDispatchHandover (hs : s.Quiet) : Reaches State.Quiet (execDispatchHandover s) := by
  obtain ⟨-, -, -, -, -, -, -, hhandovers, -⟩ := hs.events
  unfold Machine.execDispatchHandover
  rw [hhandovers]
  exact reaches_nothing hs

theorem execChargerTarget (hs : s.Quiet) (p : Nat) : Reaches State.Quiet (execChargerTarget p s) := by
  obtain ⟨-, -, -, -, -, -, -, -, htargets⟩ := hs.events
  unfold Machine.execChargerTarget
  rw [htargets]
  exact reaches_nothing hs

/-- R94: no transaction is under way. -/
theorem execPollEnd (hs : s.Quiet) : Reaches State.Quiet (execPollEnd s) := by
  unfold Machine.execPollEnd
  rw [hs.field.1]
  exact reaches_nothing hs

theorem execFieldReply (hs : s.Quiet) (f : FieldFrame) : Reaches State.Quiet (execFieldReply f s) := by
  unfold Machine.execFieldReply
  rw [hs.field.1]
  exact reaches_nothing hs

theorem execReplyTimeout (hs : s.Quiet) : Reaches State.Quiet (execReplyTimeout s) := by
  unfold Machine.execReplyTimeout
  rw [hs.field.1]
  exact reaches_nothing hs

theorem execRestoreTimerExpiry (hs : s.Quiet) : Reaches State.Quiet (execRestoreTimerExpiry s) := by
  unfold Machine.execRestoreTimerExpiry
  rw [hs.balance.1]
  exact reaches_nothing hs

theorem execRoundPeriodExpiry (hs : s.Quiet) : Reaches State.Quiet (execRoundPeriodExpiry s) := by
  unfold Machine.execRoundPeriodExpiry
  rw [hs.allocator.1]
  exact reaches_nothing hs

theorem execSpacingTimerExpiry (hs : s.Quiet) : Reaches State.Quiet (execSpacingTimerExpiry s) := by
  unfold Machine.execSpacingTimerExpiry
  rw [hs.allocator.2.1]
  exact reaches_nothing hs

theorem execChargerReport (hs : s.Quiet) (p : Nat) : Reaches State.Quiet (execChargerReport p s) := by
  unfold Machine.execChargerReport
  split
  · exact reaches_nothing hs
  · rename_i r rest _
    have he : (s.setEvents { s.events with chargerReports := rest }).Quiet := { hs with }
    exact (he.takeChargerReport r).done

theorem execReadingApplied (hs : s.Quiet) (p : Nat) : Reaches State.Quiet (execReadingApplied p s) := by
  unfold Machine.execReadingApplied
  split
  · exact reaches_nothing hs
  · rename_i r rest _
    have he : (s.setEvents { s.events with readingsApplied := rest }).Quiet := { hs with }
    have hr := he.setRecord r.port (x := { s.sessions.record r.port with applied := some r.report }) rfl
    exact (hr.tryComplete _).done

theorem execAllocationResultSessions (hs : s.Quiet) : Reaches State.Quiet (execAllocationResultSessions s) := by
  unfold Machine.execAllocationResultSessions
  split
  · rename_i r rest _
    have he : (s.setEvents { s.events with allocatorMessages := rest }).Quiet := { hs with }
    exact (he.takeResult r).done
  · exact reaches_nothing hs

theorem execReclassification (hs : s.Quiet) : Reaches State.Quiet (execReclassification s) := by
  unfold Machine.execReclassification
  split
  · rw [hs.numbers]
    exact State.Quiet.done { hs with }
  · exact reaches_nothing hs

theorem execSiteStateChangeSessions (hs : s.Quiet) : Reaches State.Quiet (execSiteStateChangeSessions s) := by
  unfold Machine.execSiteStateChangeSessions
  split
  · exact reaches_nothing hs
  · rename_i c rest _
    have he : (s.setEvents { s.events with siteToSessions := rest }).Quiet := { hs with }
    rw [he.followSite_eq]
    exact he.done

theorem execChargerHealthChange (hs : s.Quiet) (p : Nat) : Reaches State.Quiet (execChargerHealthChange p s) := by
  unfold Machine.execChargerHealthChange
  split
  · exact reaches_nothing hs
  · rename_i c rest _
    have he : (s.setEvents { s.events with chargerHealth := rest }).Quiet := { hs with }
    rw [he.holdPort_eq]
    exact he.done

theorem execActivationEvent (hs : s.Quiet) : Reaches State.Quiet (execActivationEvent s) := by
  unfold Machine.execActivationEvent
  split
  · exact reaches_nothing hs
  · rw [hs.numbers]
    exact State.Quiet.done { hs with }

theorem execStaleTimerExpiry (hs : s.Quiet) (u : Nat) : Reaches State.Quiet (execStaleTimerExpiry u s) := by
  unfold Machine.execStaleTimerExpiry
  split
  · exact reaches_nothing hs
  · exact ((hs.reach _).makeStale u).done

theorem execFallbackHoldExpiry (hs : s.Quiet) (p : Nat) : Reaches State.Quiet (execFallbackHoldExpiry p s) := by
  unfold Machine.execFallbackHoldExpiry
  split
  · exact reaches_nothing hs
  · split
    · exact reaches_nothing hs
    · exact State.Quiet.done ((hs.reach _).rebalance hs.balance)

theorem execDischargeAllowanceChange (hs : s.Quiet) : Reaches State.Quiet (execDischargeAllowanceChange s) := by
  unfold Machine.execDischargeAllowanceChange
  split
  · exact reaches_nothing hs
  · rename_i w rest _
    have he : (s.setEvents { s.events with allowances := rest }).Quiet := { hs with }
    exact State.Quiet.done (he.rebalance hs.balance)

/-- R52: discarded in SETUP. -/
theorem execEarlyRequest (hs : s.Quiet) : Reaches State.Quiet (execEarlyRequest s) := by
  unfold Machine.execEarlyRequest
  split
  · exact reaches_nothing hs
  · rename_i n _
    have he : (s.setEvents { s.events with earlyRequests := n }).Quiet := { hs with }
    dsimp only
    rw [if_neg (by rw [he.part]; decide)]
    exact he.done

theorem execResultApplied (hs : s.Quiet) : Reaches State.Quiet (execResultApplied s) := by
  unfold Machine.execResultApplied
  split
  · exact reaches_nothing hs
  · obtain ⟨-, -, hpending⟩ := hs.allocator
    refine State.Quiet.done ?_
    simp only [State.takeApplied]
    rw [if_neg (by simp [hpending])]
    exact { hs with }

theorem execReadingApplication (hs : s.Quiet) (p : Nat) : Reaches State.Quiet (execReadingApplication p s) := by
  unfold Machine.execReadingApplication
  split
  · exact reaches_nothing hs
  · rename_i r rest _
    have he : (s.setEvents { s.events with readings := rest }).Quiet := { hs with }
    exact (he.takeReading r).done

theorem execErasingEnd (hs : s.Quiet) : Reaches State.Quiet (execErasingEnd s) := by
  unfold Machine.execErasingEnd
  split
  · exact reaches_nothing hs
  · split
    · exact State.Quiet.done { hs with }
    · exact reaches_nothing hs

theorem execWritingEnd (hs : s.Quiet) : Reaches State.Quiet (execWritingEnd s) := by
  unfold Machine.execWritingEnd
  split
  · exact reaches_nothing hs
  · split
    · exact State.Quiet.done { hs with }
    · exact reaches_nothing hs

theorem execOperationCompletion (hs : s.Quiet) (verified : Bool) : Reaches State.Quiet (execOperationCompletion verified s) := by
  unfold Machine.execOperationCompletion
  split
  · exact reaches_nothing hs
  · split
    · exact (hs.completeOperation _ _).done
    · exact reaches_nothing hs

theorem execSiteStateChangeStore (hs : s.Quiet) : Reaches State.Quiet (execSiteStateChangeStore s) := by
  unfold Machine.execSiteStateChangeStore
  split
  · exact reaches_nothing hs
  · rename_i c rest _
    have he : ((s.setEvents { s.events with siteToStore := rest }).setStore { s.store with siteCopy := c.after }).Quiet :=
      { hs with }
    refine State.Quiet.done ?_
    split
    · exact he.abortOperation
    · exact he

theorem execHandOver (hs : s.Quiet) : Reaches State.Quiet (execHandOver s) := by
  unfold Machine.execHandOver
  split
  · exact reaches_nothing hs
  · rename_i n rest _
    have he : (s.setEvents { s.events with handOvers := rest }).Quiet := { hs with }
    rw [he.takeHandOver_eq]
    exact he.done

theorem execStoreFree (hs : s.Quiet) : Reaches State.Quiet (execStoreFree s) := by
  unfold Machine.execStoreFree
  split
  · exact reaches_nothing hs
  · rename_i n _
    have he : (s.setEvents { s.events with storeFree := n }).Quiet := { hs with }
    dsimp only
    split
    · refine (State.Quiet.priceHead ?_ _).done
      split
      · exact he
      · exact hs
    · exact he.done

theorem execRoomEvent (hs : s.Quiet) : Reaches State.Quiet (execRoomEvent s) := by
  unfold Machine.execRoomEvent
  split
  · exact reaches_nothing hs
  · rename_i n _
    have he : (s.setEvents { s.events with rooms := n }).Quiet := { hs with }
    exact (he.drain _).done

/-- A request whose handler keeps SETUP quiet. -/
theorem request (hs : s.Quiet) {α : Type} (l : Link) (kind tag : Byte) (till : Bool) {al : Allowed}
    (g : State → α → Bool) {handle : State → α → Handled} (p : Payload α) (hh : Answers State.Quiet State.Quiet al handle) :
    Reaches State.Quiet (serve l kind tag till al g handle p s) :=
  unlinked_quiet.serve unlinked_quiet (fun _ => id) l kind tag till g p hh hs

theorem refused (hs : s.Quiet) {α : Type} (l : Link) (kind tag : Byte) (till : Bool) (g : State → α → Bool)
    (handle : State → α → Handled) (p : Payload α) : Reaches State.Quiet (serve l kind tag till .liveOnly g handle p s) :=
  hs.request l kind tag till g p (answers_liveOnly (fun _ h => h.part) handle)

/-- Every command but a received byte and GO_LIVE. -/
theorem exec_of_ne (hs : s.Quiet) (i : Instr) (hb : ∀ l b, i ≠ .receivedByte l b) (hg : ∀ l t p, i ≠ .goLive l t p) :
    Reaches State.Quiet (exec i s) := by
  have hsame : ∀ {α : Type} {al : Allowed} {handle : State → α → Handled}, (∀ s f, (handle s f).state = s) →
      Answers State.Quiet State.Quiet al handle := fun e => answers_same (fun _ => id) e
  cases i with
  | powerOnReset => exact State.Quiet.done (State.AfterReset.quiet ⟨rfl, rfl, rfl, rfl, rfl, rfl, rfl⟩)
  | interByteTimeout l => exact unlinked_quiet.interByteTimeout hs l
  | frameDiscard l => exact unlinked_quiet.frameDiscard hs l
  | busyRefusal l k t => exact unlinked_quiet.busyRefusal hs l k t
  | unknownKind l k t => exact unlinked_quiet.unknownKind hs l k t
  | transmitEnd l => exact unlinked_quiet.transmitEnd hs l
  | siteClockTick => exact unlinked_quiet.siteClockTick hs
  | setSite l t p => exact hs.request _ _ _ _ _ _ handleSetSite_quiet
  | setFeeder l t p => exact hs.request _ _ _ _ _ _ handleSetFeeder_quiet
  | setPort l t p => exact hs.request _ _ _ _ _ _ handleSetPort_quiet
  | setUnit l t p => exact hs.request _ _ _ _ _ _ handleSetUnit_quiet
  | setBatteryPolicy l t p => exact hs.request _ _ _ _ _ _ handleSetBatteryPolicy_quiet
  | setTimers l t p => exact hs.request _ _ _ _ _ _ handleSetTimers_quiet
  | setWatermarks l t p => exact hs.request _ _ _ _ _ _ handleSetWatermarks_quiet
  | setNoticeRoute l t p => exact hs.request _ _ _ _ _ _ handleSetNoticeRoute_quiet
  | setTillAccess l t p => exact hs.request _ _ _ _ _ _ handleSetTillAccess_quiet
  | setQueueLevels l t p => exact hs.request _ _ _ _ _ _ handleSetQueueLevels_quiet
  | setTime l t p => exact hs.request _ _ _ _ _ _ handleSetTime_quiet
  | goLive l t p => exact absurd rfl (hg l t p)
  | restart l t p => exact hs.request _ _ _ _ _ _ handleRestart_quiet
  | authorize l t p => exact hs.refused _ _ _ _ _ _ _
  | holdPort l t p => exact hs.refused _ _ _ _ _ _ _
  | releasePort l t p => exact hs.refused _ _ _ _ _ _ _
  | stopSession l t p => exact hs.refused _ _ _ _ _ _ _
  | setDeparture l t p => exact hs.refused _ _ _ _ _ _ _
  | sessionStatus l t p => exact hs.refused _ _ _ _ _ _ _
  | portStatus l t p => exact hs.refused _ _ _ _ _ _ _
  | linkPurchase l t p => exact hs.refused _ _ _ _ _ _ _
  | programTariff l t p => exact hs.request _ _ _ _ _ _ handleProgramTariff_quiet
  | eraseTariff l t p => exact hs.request _ _ _ _ _ _ handleEraseTariff_quiet
  | activateTariff l t p => exact hs.request _ _ _ _ _ _ handleActivateTariff_quiet
  | readTariff l t p => exact hs.request _ _ _ _ _ _ (hsame handleReadTariff_state)
  | readReceipt l t p => exact hs.refused _ _ _ _ _ _ _
  | setMark l t p => exact hs.refused _ _ _ _ _ _ _
  | rewind l t p => exact hs.refused _ _ _ _ _ _ _
  | releaseMark l t p => exact hs.refused _ _ _ _ _ _ _
  | flushQueue l t p => exact hs.refused _ _ _ _ _ _ _
  | receiptCopy l t p => exact hs.request _ _ _ _ _ _ (hsame handleReceiptCopy_state)
  | queueStatus l t p => exact hs.request _ _ _ _ _ _ (hsame handleQueueStatus_state)
  | readDiscrepancy l t p => exact hs.request _ _ _ _ _ _ (hsame handleReadDiscrepancy_state)
  | clearDiscrepancy l t p => exact hs.request _ _ _ _ _ _ fun _ _ _ hs => hs.setMetering _
  | siteStatus l t p => exact hs.request _ _ _ _ _ _ (hsame handleSiteStatus_state)
  | allocStatus l t p => exact hs.refused _ _ _ _ _ _ _
  | unitStatus l t p => exact hs.request _ _ _ _ _ _ (hsame handleUnitStatus_state)
  | pollEnd => exact hs.execPollEnd
  | fieldReply f => exact hs.execFieldReply f
  | replyTimeout => exact hs.execReplyTimeout
  | chargerReport p => exact hs.execChargerReport p
  | chargerTarget p => exact hs.execChargerTarget p
  | readingApplied p => exact hs.execReadingApplied p
  | authorizationTimeout n => exact hs.noSession n _
  | dormantTimeout n => exact hs.noSession n _
  | idleSecondTick n => exact hs.noSession n _
  | closingTimeout n => exact hs.noSession n _
  | allocationResultSessions => exact hs.execAllocationResultSessions
  | reclassification => exact hs.execReclassification
  | siteStateChangeSessions => exact hs.execSiteStateChangeSessions
  | chargerHealthChange p => exact hs.execChargerHealthChange p
  | activationEvent => exact hs.execActivationEvent
  | reportArrival u => exact hs.execReportArrival u
  | staleTimerExpiry u => exact hs.execStaleTimerExpiry u
  | unitHealthChange u => exact hs.execUnitHealthChange u
  | fallbackHoldExpiry p => exact hs.execFallbackHoldExpiry p
  | restoreTimerExpiry => exact hs.execRestoreTimerExpiry
  | dischargeAllowanceChange => exact hs.execDischargeAllowanceChange
  | earlyRequest => exact hs.execEarlyRequest
  | roundPeriodExpiry => exact hs.execRoundPeriodExpiry
  | spacingTimerExpiry => exact hs.execSpacingTimerExpiry
  | resultApplied => exact hs.execResultApplied
  | allocationResultField => exact hs.execAllocationResultField
  | allocationResultDispatch => exact hs.execAllocationResultDispatch
  | batteryReport => exact hs.execBatteryReport
  | batteryFreshnessChange => exact hs.execBatteryFreshnessChange
  | siteStateChangeDispatch => exact hs.execSiteStateChangeDispatch
  | dispatchHandover => exact hs.execDispatchHandover
  | readingApplication p => exact hs.execReadingApplication p
  | erasingEnd => exact hs.execErasingEnd
  | writingEnd => exact hs.execWritingEnd
  | operationCompletion v => exact hs.execOperationCompletion v
  | siteStateChangeStore => exact hs.execSiteStateChangeStore
  | handOver => exact hs.execHandOver
  | storeFree => exact hs.execStoreFree
  | roomEvent => exact hs.execRoomEvent
  | receivedByte l b => exact absurd rfl (hb l b)

end State.Quiet

/-- From SETUP, GO_LIVE leads to LIVE with its invariants; every other command leaves SETUP quiet. -/
theorem State.Quiet.exec (hs : s.Quiet) (i : Instr) : Reaches (fun t => t.Quiet ∨ t.Running) (exec i s) := by
  have hQ : Unlinked fun t => t.Quiet ∨ t.Running := unlinked_quiet.or steady_running.unlinked
  refine unlinked_quiet.exec hQ (fun _ => .inl) hs (fun i hb => ?_) i
  by_cases hg : ∃ l t p, i = .goLive l t p
  · obtain ⟨l, t, p, rfl⟩ := hg
    exact unlinked_quiet.serve hQ (fun _ => .inl) _ _ _ _ _ _ handleGoLive_quiet hs
  · exact fun t ht => .inl (hs.exec_of_ne i hb (fun l t p e => hg ⟨l, t, p, e⟩) t ht)

theorem State.Quiet.step (hs : s.Quiet) {t : State} (ht : Machine.step s = .next t) : t.Quiet ∨ t.Running :=
  unlinked_quiet.step (fun _ => .inl) (fun _ hs i => hs.exec i) hs ht

theorem State.Running.step (hs : s.Running) {t : State} (ht : Machine.step s = .next t) : t.Quiet ∨ t.Running :=
  (steady_running.step hs ht).symm.imp State.AfterReset.quiet id

/-- What is true in either part state is the invariant of O55. -/
theorem dispatchInvariants_of_quiet_or_running (h : s.Quiet ∨ s.Running) : s.SetupWf ∧ s.DispatchWf ∧ s.LiveWf := by
  obtain hq | hr := h
  · have hnot : s.links.part ≠ .live := by rw [hq.part]; decide
    exact ⟨hq.setupWf, fun hl => absurd hl hnot, fun hl => absurd hl hnot⟩
  · exact ⟨fun hp => absurd (hp.symm.trans hr.live) (by decide), hr.dispatchWf, hr.liveWf⟩

end

/-- Settles O55: from SETUP the quiet carries on until GO_LIVE, which starts LIVE with the battery told nothing; in LIVE
`State.Running` survives every operation on a block, and a reset leads back to the quiet. -/
theorem stepKeepsTheDispatch : Obligations.StepKeepsTheDispatch := by
  intro s t hsetup hdispatch hlive ht
  refine dispatchInvariants_of_quiet_or_running ?_
  cases hp : s.links.part with
  | setup => exact (State.Quiet.of_setupWf hp hsetup).step ht
  | live => exact State.Running.step ⟨hp, hdispatch, hlive⟩ ht

end Sys2Proof.Machine

namespace Sys2Proof.Machine

/-! ### Every field of a computed balance record (R31, R40 to R46) -/

section
variable (f : FieldLinkController) (c : SessionController) (b : SiteBalanceUnit)

theorem SiteBalanceUnit.storeEff_eq (b : SiteBalanceUnit) : (b.storeEff : Int) =
    if b.store.fresh then ((b.store.value.getD (b.settings.storePeak * 1000) : Nat) : Int)
    else (b.settings.storePeak : Int) * 1000 := by
  unfold SiteBalanceUnit.storeEff
  cases b.store.fresh with
  | false => simp
  | true => cases b.store.value <;> simp

theorem SiteBalanceUnit.discharge_eq (b : SiteBalanceUnit) : b.discharge =
    match b.battery.fresh, b.battery.value with
      | true, some v => (max 0 v.power).toNat
      | _, _ => 0 := by
  unfold SiteBalanceUnit.discharge
  cases b.battery.fresh with
  | false => rfl
  | true =>
    cases b.battery.value with
    | none => rfl
    | some v => show v.power.toNat = (max 0 v.power).toNat; omega

/-- R44: the ports that are present and whose charger is not LOST. -/
theorem chargerPower_eq : chargerPower f c b =
    ((portNumbers.filter fun p => (c.entry p).isSome && !((f.unit p).health == .lost)).map fun p => nth b.chargers 0 p).sum := by
  unfold chargerPower SessionController.presentPorts
  rw [List.filter_filter]
  congr 3
  funext p
  cases (f.unit p).health <;> simp

theorem balanceOf_phantomFeeder {k : Nat} (h1 : 1 ≤ k) (h4 : k ≤ 4) :
    nth (balanceOf f c b).phantomFeeder 0 k = phantomOn c b k := by
  obtain rfl | rfl | rfl | rfl : k = 1 ∨ k = 2 ∨ k = 3 ∨ k = 4 := by omega
  · rfl
  · rfl
  · rfl
  · rfl

/-- R42: the clamp, in the integers. -/
theorem budgetOf_normal (budgetW : Int) (total : Nat) :
    (budgetOf .normal budgetW total : Int) = max 0 (min 8000 (budgetW / 100 - total)) := by
  show ((min (budgetW / 100 - total).toNat 8000 : Nat) : Int) = _
  omega

/-- R44: the shares of a charger power above 0. -/
theorem mixOf_pos {chargers pv battery : Nat} (h : 0 < chargers) :
    (mixOf chargers pv battery).solar = 1024 * min pv chargers / chargers ∧
      (mixOf chargers pv battery).battery = 1024 * min battery (chargers - min pv chargers) / chargers := by
  unfold mixOf
  rw [if_neg (Nat.ne_of_gt h)]
  exact ⟨rfl, rfl⟩

end

/-- Settles O24, field by field of `balanceOf`. -/
theorem budgetAndMixAreComputed : Obligations.BudgetAndMixAreComputed := by
  intro f c b
  dsimp only
  rw [← chargerPower_eq f c b]
  refine ⟨rfl, b.storeEff_eq, rfl, rfl, rfl, fun k h1 h4 => balanceOf_phantomFeeder f c b h1 h4, ?_, ?_, fun h => ?_,
    fun h => budgetOf_eq_zero h .., fun h => ?_, fun h => ⟨(mixOf_pos h).1, ?_⟩, mixOf_sum ..⟩
  · show balanceFlags f b b.budgetW = _
    rw [balanceFlags, overloadFlag_eq]
    rfl
  · rw [← b.storeEff_eq]; rfl
  · show (budgetOf b.siteState _ _ : Int) = _
    rw [h]
    exact budgetOf_normal ..
  · exact if_pos h
  · exact (mixOf_pos h).2.trans (congrArg (fun dis => 1024 * min dis (chargerPower f c b - min b.pvOutput (chargerPower f c b)) /
      chargerPower f c b) b.discharge_eq)

end Sys2Proof.Machine

namespace Sys2Proof.Machine

/-! ### Right after reset -/

theorem State.reset_afterReset : State.reset.AfterReset := ⟨rfl, rfl, rfl, rfl, rfl, rfl, rfl⟩

theorem LinkController.reset_settled : LinkController.reset.Settled := rfl

theorem ReceiptQueue.reset_wf : ReceiptQueue.reset.Wf := by decide

theorem TariffStore.reset_wf : TariffStore.reset.Wf := by decide

theorem FieldLinkController.reset_wf : FieldLinkController.reset.Wf := by decide

theorem State.reset_countsWf : State.reset.CountsWf := by decide

theorem State.reset_eventsWf : State.reset.EventsWf := by decide

theorem State.reset_tableWf : State.reset.TableWf := by decide

theorem State.reset_portsWf : State.reset.PortsWf := by decide

/-- Settles O60. -/
theorem resetMeetsEveryInvariant : Obligations.ResetMeetsEveryInvariant := by
  have hquiet := State.reset_afterReset.quiet
  obtain ⟨hsetup, hdispatch, hlive⟩ := dispatchInvariants_of_quiet_or_running (.inl hquiet)
  exact ⟨LinkController.reset_settled, ⟨rfl, rfl⟩, ReceiptQueue.reset_wf, by decide, State.reset_countsWf,
    State.reset_eventsWf, TariffStore.reset_wf, SiteBalanceUnit.reset_wf, hsetup, hdispatch, hlive,
    FieldLinkController.reset_wf, State.reset_afterReset.energyWf, State.reset_tableWf, State.reset_portsWf⟩

end Sys2Proof.Machine

namespace Sys2Proof.Machine

/-! ### SET_FEEDER and SET_UNIT (R48, R72, R88, R89) -/

/-- R88: the unit index that a SET_UNIT of a listed kind names. -/
def unitIndex (f : UnitFields) : Nat :=
  if f.kind = 0 then 33 else if f.kind = 1 then 34 else if f.kind = 2 then 34 + f.inverter else 39

section
variable {f : UnitFields}

theorem unitIndex_inverter (h : f.kind = 2) : unitIndex f = 34 + f.inverter := by simp [unitIndex, h]

theorem unitNamed_eq_some {u : Nat} : unitNamed f = some u ↔
    unitIndex f = u ∧ f.kind ≤ 3 ∧ (f.kind = 2 → 1 ≤ f.inverter ∧ f.inverter ≤ 4) := by
  unfold unitNamed unitIndex
  split_ifs with h0 h1 h2 hi h3
  · simp [h0]
  · simp [h1]
  · simp [h2, hi]
  · simp [h2, hi]
  · simp [h3]
  · simp; omega

/-- The units of SET_UNIT, the inverters among them. -/
theorem unitIndex_range (hi : f.kind = 2 → 1 ≤ f.inverter ∧ f.inverter ≤ 4) :
    33 ≤ unitIndex f ∧ unitIndex f ≤ 39 ∧ (35 ≤ unitIndex f ∧ unitIndex f ≤ 38 ↔ f.kind = 2) := by
  unfold unitIndex
  split_ifs <;> omega

/-- Of an inverter and no other unit, by its number. -/
theorem unitIndex_inverter_iff (hi : f.kind = 2 → 1 ≤ f.inverter ∧ f.inverter ≤ 4) (k : Nat) :
    (35 ≤ unitIndex f ∧ unitIndex f ≤ 38) ∧ k = unitIndex f - 34 ↔ f.kind = 2 ∧ k = f.inverter := by
  rw [(unitIndex_range hi).2.2]
  refine and_congr_right fun h => ?_
  rw [unitIndex_inverter h, Nat.add_sub_cancel_left]

end

/-- What an accepted SET_UNIT does. -/
def State.configureUnit (s : State) (u address rated : Nat) (present : Bool) : State :=
  ((s.setField (s.field.setUnit u (configuredUnit (s.field.unit u) u address rated present))).setBalance
    (s.balance.forget u)).setDispatch { s.dispatch with limits := configuredLimits s.dispatch.limits u rated present }

/-- R89's ranges, of the unit named. -/
abbrev unitInRange (f : UnitFields) : Prop :=
  1 ≤ f.address ∧ f.address ≤ 247 ∧ isYesNo f.present = true ∧
    (35 ≤ unitIndex f ∧ unitIndex f ≤ 38 → 100 ≤ f.rated ∧ f.rated ≤ 1000000)

section
variable {f : UnitFields} (s : State) (l : Link)

theorem handleSetUnit_frameEnd (hu : unitNamed f = some (unitIndex f)) (hr : unitInRange f) : handleSetUnit (s.frameEnd l) f =
    if f.present = 1 ∧ addressTaken s.field (unitIndex f) f.address = true then refuse (s.frameEnd l) .duplicate
    else ok ((s.configureUnit (unitIndex f) f.address f.rated (f.present == 1)).frameEnd l) := by
  simp only [handleSetUnit, hu]
  rw [if_pos hr]
  show (if f.present = 1 ∧ addressTaken s.field (unitIndex f) f.address = true then _ else _) = _
  split
  · rfl
  · rfl

theorem handleSetUnit_outOfRange (h : ¬ (unitNamed f = some (unitIndex f) ∧ unitInRange f)) :
    handleSetUnit (s.frameEnd l) f = refuse (s.frameEnd l) .outOfRange := by
  unfold handleSetUnit
  split
  · rfl
  · rename_i u hu
    obtain rfl := (unitNamed_eq_some.1 hu).1
    exact if_neg fun hr => h ⟨hu, hr⟩

end

section
variable (b : SiteBalanceUnit) {u : Nat}

theorem SiteBalanceUnit.forget_of_inverter (h : 35 ≤ u ∧ u ≤ 38) :
    b.forget u = { b with inverters := put b.inverters (u - 34) Measurement.reset } := by
  rw [SiteBalanceUnit.forget, if_neg (by omega), if_neg (by omega), if_pos h.2]

/-- R28: the record of the unit is as at reset, and the overrun ends with the grid record. -/
theorem SiteBalanceUnit.forget_eq (h1 : 33 ≤ u) (h2 : u ≤ 39) : b.forget u = { b with
    grid := if u = 33 then Measurement.reset else b.grid
    overrun := if u = 33 then false else b.overrun
    store := if u = 34 then Measurement.reset else b.store
    inverters := (b.forget u).inverters
    battery := if u = 39 then Measurement.reset else b.battery } := by
  obtain rfl | rfl | h | rfl : u = 33 ∨ u = 34 ∨ (35 ≤ u ∧ u ≤ 38) ∨ u = 39 := by omega
  · rfl
  · rfl
  · rw [b.forget_of_inverter h, if_neg (by omega), if_neg (by omega), if_neg (by omega), if_neg (by omega)]
  · rfl

theorem SiteBalanceUnit.inverter_forget (h1 : 33 ≤ u) (h2 : u ≤ 39) (k : Nat) :
    (b.forget u).inverter k = if (35 ≤ u ∧ u ≤ 38) ∧ k = u - 34 then Measurement.reset else b.inverter k := by
  obtain rfl | rfl | h | rfl : u = 33 ∨ u = 34 ∨ (35 ≤ u ∧ u ≤ 38) ∨ u = 39 := by omega
  · exact (if_neg (by omega)).symm
  · exact (if_neg (by omega)).symm
  · simp only [b.forget_of_inverter h, h, true_and, and_self]
    exact nth_put _ _ _ _ _ (by omega) (by omega)
  · exact (if_neg (by omega)).symm

end

theorem State.configureUnit_eq (s : State) {u : Nat} (address rated : Nat) (present : Bool) (h1 : 33 ≤ u) (h2 : u ≤ 39) :
    s.configureUnit u address rated present = { s with
      field := s.field.setUnit u (configuredUnit (s.field.unit u) u address rated present)
      balance := { s.balance with
        grid := if u = 33 then Measurement.reset else s.balance.grid
        overrun := if u = 33 then false else s.balance.overrun
        store := if u = 34 then Measurement.reset else s.balance.store
        inverters := (s.balance.forget u).inverters
        battery := if u = 39 then Measurement.reset else s.balance.battery }
      dispatch := { s.dispatch with limits := configuredLimits s.dispatch.limits u rated present } } := by
  rw [State.configureUnit, s.balance.forget_eq h1 h2]
  rfl

/-- R72. -/
theorem nth_configuredLimits (v : Vector (Option Nat) 4) (u rated : Nat) (present : Bool) (k : Nat) :
    nth (configuredLimits v u rated present) none k =
      if (35 ≤ u ∧ u ≤ 38) ∧ k = u - 34 then (if present then some rated else none) else nth v none k := by
  unfold configuredLimits
  split
  · rename_i h
    simp only [h, true_and, and_self]
    exact nth_put _ _ _ _ _ (by omega) (by omega)
  · rename_i h
    exact (if_neg fun hk => h hk.1).symm

/-- The entry that SET_UNIT gives a unit (R89). -/
theorem configuredUnit_of_request {f : UnitFields} (hu : 35 ≤ unitIndex f ∧ unitIndex f ≤ 38 ↔ f.kind = 2)
    (hp : f.present ≤ 1) (old : FieldUnit) : configuredUnit old (unitIndex f) f.address f.rated (f.present == 1) =
      if f.present = 0 then FieldUnit.reset (unitIndex f)
      else if f.kind = 2 then { old with
        present := true, address := some f.address, rated := some f.rated, target := .inverter (some f.rated),
        delivered := .inverter (some f.rated) }
      else { old with present := true, address := some f.address } := by
  obtain h | h : f.present = 0 ∨ f.present = 1 := by omega
  · simp [configuredUnit, h]
  · simp only [configuredUnit, h, hu, beq_self_eq_true, if_true, Nat.one_ne_zero, if_false]

/-- Settles O8: an accepted SET_UNIT is one `configureUnit`, and each field it writes is read back. -/
theorem feederAndUnitAreConfigured : Obligations.FeederAndUnitAreConfigured := by
  refine ⟨fun s tag f hl hpart => ?_, fun s tag f hl hpart => ?_⟩
  · have hal : Allowed.setupOnly.refusal s.links.part = none := by rw [hpart]; rfl
    refine ⟨fun h1 h2 h3 h4 => ⟨put s.allocator.feeders f.feeder (some f.cap), ?_, fun k _ _ => nth_put _ _ _ _ _ h1 h2⟩,
      fun hout => ?_⟩
    · refine serve_site_answered _ _ _ hl hal ?_
      rw [handleSetFeeder, if_pos ⟨h1, h2, h3, h4⟩]
      rfl
    · refine serve_site_answered s .outOfRange [] hl hal ?_
      rw [handleSetFeeder, if_neg (by omega)]
      rfl
  · have hal : Allowed.setupOnly.refusal s.links.part = none := by rw [hpart]; rfl
    refine ⟨fun hk hi ha1 ha2 => ?_, fun hout => ?_⟩
    · have hinv : f.kind = 2 → 1 ≤ f.inverter ∧ f.inverter ≤ 4 := fun h => ⟨(hi h).1, (hi h).2.1⟩
      obtain ⟨hu1, hu2, hu⟩ := unitIndex_range hinv
      have hnamed : unitNamed f = some (unitIndex f) := unitNamed_eq_some.2 ⟨rfl, hk, hinv⟩
      have hrange : f.present ≤ 1 → unitInRange f := fun hp =>
        ⟨ha1, ha2, by simp [isYesNo, hp], fun h => (hi (hu.1 h)).2.2⟩
      refine ⟨fun hp ht => ?_, fun hp => ⟨(s.configureUnit (unitIndex f) f.address f.rated (f.present == 1)).replied .site
        0x04#8 tag .ok [], ?_, ?_, ?_, fun v hv => ?_, fun k => ?_, fun k => ?_⟩⟩
      · refine serve_site_answered s .duplicate [] hl hal ?_
        rw [handleSetUnit_frameEnd s _ hnamed (hrange (by omega)), if_pos ⟨hp, ht⟩]
        rfl
      · refine serve_site_answered _ _ _ hl hal ?_
        rw [handleSetUnit_frameEnd s _ hnamed (hrange (by omega)), if_neg]
        · rfl
        · rintro ⟨h1, ht⟩
          obtain h0 | ⟨-, hf⟩ := hp
          · omega
          · exact absurd (ht.symm.trans hf) (by decide)
      · exact congrArg (State.replied · .site 0x04#8 tag .ok []) (s.configureUnit_eq _ _ _ hu1 hu2)
      · refine (s.field.unit_setUnit _ _ _ (by omega) hu2).trans ((if_pos rfl).trans ?_)
        exact configuredUnit_of_request hu (by omega) _
      · exact (s.field.unit_setUnit _ _ _ (by omega) hu2).trans (if_neg hv)
      · refine (s.balance.inverter_forget hu1 hu2 k).trans ?_
        simp only [unitIndex_inverter_iff hinv]
      · refine (nth_configuredLimits _ _ _ _ _).trans ?_
        simp only [unitIndex_inverter_iff hinv, beq_iff_eq]
    · refine serve_site_answered s .outOfRange [] hl hal (handleSetUnit_outOfRange s _ ?_)
      rintro ⟨hn, h1, h2, hp, hr⟩
      obtain ⟨-, hk, hinv⟩ := unitNamed_eq_some.1 hn
      have hp' : f.present ≤ 1 := by simpa [isYesNo] using hp
      have hu := (unitIndex_range hinv).2.2
      rw [hu] at hr
      omega

end Sys2Proof.Machine

namespace Sys2Proof.Machine

/-! ### The events of the Site Balance Unit (R30, R35, R38, R39, R76, R98) -/

/-- A command that ends in a recomputation. -/
theorem done_recompute (s : State) : done s.recompute = .next { s with
    links := (s.links.alarm s.balance.record (balanceOf s.field s.sessions s.balance)).settle
    balance := { s.balance with record := balanceOf s.field s.sessions s.balance } } := by
  rw [s.recompute_eq]
  rfl

/-- R30, R45: the record of a unit stale, its values kept; a stale grid record ends the overrun. -/
def SiteBalanceUnit.staled (b : SiteBalanceUnit) (u : Nat) : SiteBalanceUnit :=
  { b with
    grid := if u = 33 then b.grid.stale else b.grid
    overrun := if u = 33 then false else b.overrun
    store := if u = 34 then b.store.stale else b.store
    inverters := if 35 ≤ u ∧ u ≤ 38 then put b.inverters (u - 34) (b.inverter (u - 34)).stale else b.inverters
    battery := if u = 39 then b.battery.stale else b.battery }

theorem SiteBalanceUnit.staled_of_inverter (b : SiteBalanceUnit) {u : Nat} (h : 35 ≤ u ∧ u ≤ 38) :
    b.staled u = { b with inverters := put b.inverters (u - 34) (b.inverter (u - 34)).stale } := by
  simp only [SiteBalanceUnit.staled, if_pos h, if_neg (show ¬ u = 33 by omega), if_neg (show ¬ u = 34 by omega),
    if_neg (show ¬ u = 39 by omega)]

theorem SiteBalanceUnit.inverter_staled (b : SiteBalanceUnit) (u k : Nat) : (b.staled u).inverter k =
    if 1 ≤ k ∧ k ≤ 4 ∧ u = 34 + k then (b.inverter k).stale else b.inverter k := by
  by_cases h : 35 ≤ u ∧ u ≤ 38
  · rw [b.staled_of_inverter h]
    refine (nth_put _ _ _ _ _ (by omega) (by omega)).trans ?_
    by_cases hk : k = u - 34
    · rw [if_pos hk, if_pos (by omega), hk]
    · rw [if_neg hk, if_neg (by omega)]
      rfl
  · simp only [SiteBalanceUnit.staled, if_neg h]
    exact (if_neg (by omega)).symm

/-- What the Battery Dispatch Unit is sent when the record of a unit becomes stale (R74). -/
def SiteBalanceUnit.staleNews (b : SiteBalanceUnit) (u : Nat) : List Bool :=
  if u = 39 ∧ b.battery.fresh = true then [false] else []

theorem State.makeStale_eq (s : State) {u : Nat} (h1 : 33 ≤ u) (h2 : u ≤ 39) : s.makeStale u =
    ({ s with balance := s.balance.staled u
              events := { s.events with freshness := s.events.freshness ++ s.balance.staleNews u } } : State).recompute := by
  have hquiet : u ≠ 39 → ({ s.events with freshness := s.events.freshness ++ s.balance.staleNews u } : Events) = s.events :=
    fun h => by rw [SiteBalanceUnit.staleNews, if_neg fun h' => h h'.1, List.append_nil]
  obtain rfl | rfl | h | rfl : u = 33 ∨ u = 34 ∨ (35 ≤ u ∧ u ≤ 38) ∨ u = 39 := by omega
  · rw [hquiet (by omega)]; rfl
  · rw [hquiet (by omega)]; rfl
  · rw [hquiet (by omega), State.makeStale, if_neg (by omega), if_neg (by omega), if_pos h.2, s.balance.staled_of_inverter h]
    rfl
  · show ((s.setBalance { s.balance with battery := s.balance.battery.stale }).freshen s.balance.battery.fresh false).recompute = _
    congr 1
    cases hf : s.balance.battery.fresh with
    | false =>
      rw [SiteBalanceUnit.staleNews, if_neg (by simp [hf]), List.append_nil]
      rfl
    | true =>
      rw [SiteBalanceUnit.staleNews, if_pos ⟨rfl, hf⟩]
      rfl

/-- R38, R39: the reservation of a charger that becomes LOST, or is LOST no more. -/
def State.phantomsAfter (s : State) (h : HealthChange) : Vector (Option Phantom) 32 :=
  if h.after = .lost then put s.balance.phantoms h.unit (some
    { start := s.field.deliveredSetpoint h.unit, current := s.field.deliveredSetpoint h.unit,
      timer := some (s.after s.balance.fallbackHold) })
  else if h.before = .lost then put s.balance.phantoms h.unit none
  else s.balance.phantoms

theorem State.takeHealth_charger (s : State) {h : HealthChange} (hu : h.unit ≤ 32) :
    s.takeHealth h = (s.setBalance { s.balance with phantoms := s.phantomsAfter h }).recompute := by
  rw [State.takeHealth, if_pos hu, State.phantomsAfter]
  congr 1
  split_ifs
  · rfl
  · rfl
  · rfl

theorem State.takeHealth_unit (s : State) {h : HealthChange} (hu : 33 ≤ h.unit) :
    s.takeHealth h = if h.after = .lost then s.makeStale h.unit else s.recompute := by
  rw [State.takeHealth, if_neg (by omega)]

theorem State.phantom_after (s : State) {h : HealthChange} (h1 : 1 ≤ h.unit) (h2 : h.unit ≤ 32) (p : Nat) :
    nth (s.phantomsAfter h) none p = if p ≠ h.unit then s.balance.phantom p
      else if h.after = .lost then some { start := s.field.deliveredSetpoint p, current := s.field.deliveredSetpoint p,
                                          timer := some (s.after s.balance.fallbackHold) }
      else if h.before = .lost then none else s.balance.phantom p := by
  have hput : ∀ x, nth (put s.balance.phantoms h.unit x) none p = if p = h.unit then x else s.balance.phantom p := fun x =>
    nth_put _ _ _ _ _ h1 h2
  unfold State.phantomsAfter
  by_cases hp : p = h.unit
  · subst hp
    rw [if_neg (not_not.2 rfl)]
    split_ifs
    · exact (hput _).trans (if_pos rfl)
    · exact (hput _).trans (if_pos rfl)
    · rfl
  · rw [if_pos hp]
    split_ifs
    · exact (hput _).trans (if_neg hp)
    · exact (hput _).trans (if_neg hp)
    · rfl

/-- Settles O27, event by event: each ends in one recomputation. -/
theorem balanceEventsActAndRecompute : Obligations.BalanceEventsActAndRecompute := by
  intro s f c alarm stale
  have hstale : ∀ u now e, 33 ≤ u → u ≤ 39 →
      ∃ t, done (({ s with runTime := now, events := e } : State).makeStale u) = .next t ∧ stale u now e t := by
    intro u now e h1 h2
    rw [State.makeStale_eq _ h1 h2, done_recompute]
    exact ⟨_, rfl, rfl, s.balance.inverter_staled u, rfl⟩
  refine ⟨fun u expiry h => ?_, fun h rest h1 h2 htake => ?_, fun h rest h1 h2 htake => ?_,
    fun p r expiry h1 h2 hp ht => ?_, fun expiry hsite ht => ?_, fun w rest hw => ?_⟩
  · have hu : 33 ≤ u ∧ u ≤ 39 := by omega
    have htimer : s.balance.staleTimer u = some expiry := by
      obtain ⟨rfl, ht⟩ | ⟨rfl, ht⟩ | ⟨h35, h38, ht⟩ | ⟨rfl, ht⟩ := h
      · exact ht
      · exact ht
      · rw [SiteBalanceUnit.staleTimer, if_neg (by omega), if_neg (by omega), if_pos ⟨h35, h38⟩, ht]
      · exact ht
    have hexec : exec (.staleTimerExpiry u) s = done ((s.reach expiry).makeStale u) := by
      simp only [exec, execStaleTimerExpiry, htimer]
    rw [hexec]
    exact hstale u _ s.events hu.1 hu.2
  · have hexec : exec (.unitHealthChange h.unit) s =
        done (({ s with events := { s.events with unitHealth := rest } } : State).takeHealth h) := by
      simp only [exec, execUnitHealthChange, htake]
      rfl
    rw [hexec, State.takeHealth_unit _ h1]
    by_cases hl : h.after = .lost
    · rw [if_pos hl]
      obtain ⟨t, ht, hst⟩ := hstale h.unit s.runTime { s.events with unitHealth := rest } h1 h2
      exact ⟨t, ht, fun _ => hst, fun hn => absurd hl hn⟩
    · rw [if_neg hl, done_recompute]
      exact ⟨_, rfl, fun hl' => absurd hl' hl, fun _ => rfl⟩
  · have hexec : exec (.unitHealthChange h.unit) s =
        done (({ s with events := { s.events with unitHealth := rest } } : State).takeHealth h) := by
      simp only [exec, execUnitHealthChange, htake]
      rfl
    rw [hexec, State.takeHealth_charger _ h2, done_recompute]
    exact ⟨_, rfl, rfl, rfl, s.phantom_after h1 h2⟩
  · have hexec : exec (.fallbackHoldExpiry p) s = done ((s.reach expiry).setBalance { s.balance with
        phantoms := put s.balance.phantoms p
          (some { r with current := min s.balance.settings.fallback r.start, timer := none }) }).recompute := by
      simp only [exec, execFallbackHoldExpiry, hp, ht]
      rfl
    rw [hexec, done_recompute]
    exact ⟨_, rfl, rfl, rfl, fun q => nth_put _ _ _ _ _ h1 h2⟩
  · have hexec : exec .restoreTimerExpiry s =
        done (((s.reach expiry).raise .gridBack s.siteTime).changeSite .normal) := by
      simp only [exec, execRestoreTimerExpiry, hsite, ht]
      rfl
    have hbefore : ((s.reach expiry).raise .gridBack s.siteTime).balance.siteState = .restoring := hsite
    rw [hexec, State.changeSite_eq, hbefore, done_recompute]
    exact ⟨_, rfl, rfl, rfl⟩
  · have hexec : exec .dischargeAllowanceChange s = done
        ((s.setEvents { s.events with allowances := rest }).setBalance { s.balance with allowance := w }).recompute := by
      simp only [exec, execDischargeAllowanceChange, hw]
    rw [hexec, done_recompute]
    exact ⟨_, rfl, rfl, rfl⟩

end Sys2Proof.Machine

namespace Sys2Proof.Machine

/-! ### The site state and the overrun (R33 to R36, R43, R45) -/

/-- R43: STORE_OVERLOAD, with the power that is missing. -/
def LinkController.overload (c : LinkController) (rises : Bool) (w : Int) : LinkController :=
  if rises = true ∧ w < 0 then c.raise .storeOverload (-w).toNat else c

theorem LinkController.overload_false (c : LinkController) (w : Int) : c.overload false w = c := if_neg (by simp)

/-- The record of a recomputation raises STORE_OVERLOAD in NORMAL when the flag was clear. -/
theorem LinkController.alarm_balanceOf (l : LinkController) (old : BalanceRecord) (f : FieldLinkController)
    (c : SessionController) (b : SiteBalanceUnit) :
    l.alarm old (balanceOf f c b) = l.overload (b.siteState == .normal && !old.flags.storeOverload) b.budgetW := by
  have hflag : (balanceOf f c b).flags.storeOverload = (b.siteState == .normal && decide (b.budgetW < 0)) :=
    overloadFlag_eq ..
  unfold LinkController.alarm LinkController.overload
  rw [hflag]
  refine if_congr ?_ rfl rfl
  simp only [Bool.and_eq_true, Bool.not_eq_true', decide_eq_true_eq]
  exact ⟨fun ⟨h1, h2, h3⟩ => ⟨⟨h2, h1⟩, h3⟩, fun ⟨⟨h2, h1⟩, h3⟩ => ⟨h1, h2, h3⟩⟩

/-- Between two computed records with the same B_W the flag rises on an entry to NORMAL and nowhere else. -/
theorem LinkController.alarm_moved (l : LinkController) (f : FieldLinkController) (c : SessionController)
    {b b' : SiteBalanceUnit} (hw : b'.budgetW = b.budgetW) :
    l.alarm (balanceOf f c b) (balanceOf f c b') = l.overload (b.siteState != .normal && b'.siteState == .normal) b.budgetW := by
  have hflag : (balanceOf f c b).flags.storeOverload = (b.siteState == .normal && decide (b.budgetW < 0)) :=
    overloadFlag_eq ..
  rw [LinkController.alarm_balanceOf, hflag, hw]
  unfold LinkController.overload
  refine if_congr (and_congr_left fun hneg => ?_) rfl rfl
  rw [decide_eq_true hneg, Bool.and_true, Bool.and_comm]
  rfl

theorem bne_and_beq_self (x y : SiteState) : (x != y && x == y) = false := Bool.not_and_self _

section
variable (s : State)

/-- The balance record is the one computed from the values as they stand. -/
def State.Computed (s : State) : Prop := s.balance.record = balanceOf s.field s.sessions s.balance

/-- R33 to R35: the site state after a grid report of the presence given, or after a store report. -/
def State.nextSite (s : State) (grid : Option Bool) : SiteState :=
  match s.balance.siteState, grid with
  | .starting, some false => .island
  | .starting, _ => if s.balance.metersReported then .normal else .starting
  | .normal, some false => .island
  | .restoring, some false => .island
  | .island, some true => .restoring
  | x, _ => x

/-- The site state moved to another, with what R34 and R35 say of its entry. -/
def State.enterSite (s : State) (new : SiteState) : State :=
  if new = .island then s.enterIsland else if new = .restoring then s.enterRestoring else s.changeSite new

theorem State.followGrid_cases (grid : Option Bool) : s.followGrid grid =
    if s.nextSite grid = s.balance.siteState then s else s.enterSite (s.nextSite grid) := by
  unfold State.followGrid State.nextSite
  cases hsite : s.balance.siteState with
  | none => cases grid <;> rfl
  | starting =>
    cases hm : s.balance.metersReported <;> rcases grid with _ | _ | _ <;> rfl
  | normal => rcases grid with _ | _ | _ <;> rfl
  | island => rcases grid with _ | _ | _ <;> rfl
  | restoring => rcases grid with _ | _ | _ <;> rfl

/-- The state in which a site state is entered or kept: GRID_LOST on an entry to ISLAND, STORE_OVERLOAD when its flag rises
with NORMAL, the restore timer running in RESTORING, and the three blocks told of a change. -/
def State.entered (s : State) (new : SiteState) : State :=
  let sent : List SiteChange :=
    if new = s.balance.siteState then [] else [{ before := s.balance.siteState, after := new }]
  { s with
    links := (if new = .island ∧ s.balance.siteState ≠ .island then s.links.raise .gridLost s.siteTime else s.links).overload
      (s.balance.siteState != .normal && new == .normal) s.balance.budgetW
    balance := { s.balance with
      siteState := new
      restoreTimer := if new = s.balance.siteState then s.balance.restoreTimer
        else if new = .restoring then some (s.after s.balance.restoreDelay) else none
      record := balanceOf s.field s.sessions { s.balance with siteState := new } }
    events := { s.events with
      siteToSessions := s.events.siteToSessions ++ sent
      siteToDispatch := s.events.siteToDispatch ++ sent
      siteToStore := s.events.siteToStore ++ sent } }

variable {s}

theorem State.recompute_computed : s.recompute.Computed := by
  rw [s.recompute_eq]; rfl

theorem State.entered_computed (new : SiteState) : (s.entered new).Computed := rfl

theorem State.entered_same (h : s.Computed) : s.entered s.balance.siteState = s := by
  have hb : ({ s.balance with record := balanceOf s.field s.sessions s.balance } : SiteBalanceUnit) = s.balance := by
    rw [← show s.balance.record = _ from h]
  simp only [State.entered, if_true, bne_and_beq_self, LinkController.overload_false, List.append_nil]
  rw [if_neg fun hi => hi.2 hi.1]
  exact congrArg (fun b => { s with balance := b }) hb

/-- A change of site state, between two computed records. -/
theorem State.changeSite_computed (h : s.Computed) (new : SiteState) : s.changeSite new = { s with
    links := s.links.overload (s.balance.siteState != .normal && new == .normal) s.balance.budgetW
    balance := { s.balance.moved new with record := balanceOf s.field s.sessions (s.balance.moved new) }
    events := { s.events with
      siteToSessions := s.events.siteToSessions ++ [{ before := s.balance.siteState, after := new }]
      siteToDispatch := s.events.siteToDispatch ++ [{ before := s.balance.siteState, after := new }]
      siteToStore := s.events.siteToStore ++ [{ before := s.balance.siteState, after := new }] } } := by
  have hl : s.links.alarm s.balance.record (balanceOf s.field s.sessions (s.balance.moved new)) =
      s.links.overload (s.balance.siteState != .normal && new == .normal) s.balance.budgetW := by
    rw [show s.balance.record = _ from h]
    exact LinkController.alarm_moved _ _ _ rfl
  rw [s.changeSite_eq, State.recompute_eq, ← hl]
  rfl

theorem State.enterSite_eq (h : s.Computed) {new : SiteState} (hn : new ≠ s.balance.siteState) :
    s.enterSite new = s.entered new := by
  have hraised : (s.raise .gridLost s.siteTime).Computed := h
  have htimed : (s.setBalance { s.balance with restoreTimer := some (s.after s.balance.restoreDelay) }).Computed := h
  unfold State.enterSite State.entered
  simp only [if_neg hn]
  by_cases hi : new = .island
  · have hold : s.balance.siteState ≠ .island := fun e => hn (hi.trans e.symm)
    subst hi
    rw [if_pos rfl, if_pos ⟨rfl, hold⟩, State.enterIsland, State.changeSite_computed hraised]
    rfl
  · rw [if_neg hi, if_neg (show ¬ (new = .island ∧ s.balance.siteState ≠ .island) from fun h => hi h.1)]
    by_cases hr : new = .restoring
    · subst hr
      rw [if_pos rfl, State.enterRestoring, State.changeSite_computed htimed]
      rfl
    · rw [if_neg hr, State.changeSite_computed h, SiteBalanceUnit.moved, if_neg hr, if_neg hr]
      rfl

/-- What a report makes of the site state. -/
theorem State.followGrid_eq (h : s.Computed) (grid : Option Bool) : s.followGrid grid = s.entered (s.nextSite grid) := by
  rw [s.followGrid_cases]
  split
  · rename_i e
    rw [e, State.entered_same h]
  · exact State.enterSite_eq h ‹_›

/-- R45: the state after the overrun check of a grid report. -/
def State.overrunChecked (s : State) (overrun : Bool) (power : Int) : State :=
  { s with
    links := if overrun then s.links.raise .importOverrun power.toNat else s.links
    balance := { s.balance with
      overrun := overrun
      record := balanceOf s.field s.sessions { s.balance with overrun := overrun } }
    events := { s.events with earlyRequests := s.events.earlyRequests + if overrun then 1 else 0 } }

/-- The second recomputation raises nothing: B_W is what it was (log 44). -/
theorem State.recompute_overrun (h : s.Computed) (l : LinkController) (e : Events) (overrun : Bool) :
    ({ s with links := l, events := e, balance := { s.balance with overrun := overrun } } : State).recompute =
      { s with links := l, events := e, balance := { s.balance with
        overrun := overrun
        record := balanceOf s.field s.sessions { s.balance with overrun := overrun } } } := by
  have hl : l.alarm s.balance.record (balanceOf s.field s.sessions { s.balance with overrun := overrun }) = l := by
    refine (congrArg (l.alarm · _) h).trans ((LinkController.alarm_moved l s.field s.sessions
      (b := s.balance) (b' := { s.balance with overrun := overrun }) rfl).trans ?_)
    show l.overload (s.balance.siteState != .normal && s.balance.siteState == .normal) _ = l
    rw [bne_and_beq_self, LinkController.overload_false]
  rw [State.recompute_eq]
  exact congrArg (fun l' => { s with links := l', events := e, balance := { s.balance with
    overrun := overrun
    record := balanceOf s.field s.sessions { s.balance with overrun := overrun } } }) hl

theorem State.checkOverrun_eq (h : s.Computed) (power : Int) (present : Bool) : s.checkOverrun power present =
    s.overrunChecked (decide (present = true ∧ (s.balance.settings.importLimit : Int) * 1000 < power)) power := by
  unfold State.checkOverrun
  split
  · rename_i hov
    rw [decide_eq_true hov]
    exact State.recompute_overrun h (s.links.raise .importOverrun power.toNat)
      { s.events with earlyRequests := s.events.earlyRequests + 1 } true
  · rename_i hov
    rw [decide_eq_false hov]
    exact State.recompute_overrun h s.links s.events false

end

end Sys2Proof.Machine

namespace Sys2Proof.Machine

/-! ### Reports (R29, R33 to R36, R45, R46) -/

@[simp] theorem LinkController.overload_clock (c : LinkController) (rises : Bool) (w : Int) :
    (c.overload rises w).clock = c.clock := by
  unfold LinkController.overload
  split
  · exact LinkController.raise_clock ..
  · rfl

/-- R33 to R35: the site state after a grid report, the store meter having reported or not. -/
def siteAfterGrid (old : SiteState) (present stored : Bool) : SiteState :=
  match old, present with
  | .starting, false => .island
  | .starting, true => if stored then .normal else .starting
  | .normal, false => .island
  | .restoring, false => .island
  | .island, true => .restoring
  | x, _ => x

/-- A change of the Site Balance Unit's values, with the recomputation it leads to. -/
def State.rebalanced (s : State) (b : SiteBalanceUnit) : State :=
  { s with
    links := s.links.overload (b.siteState == .normal && !s.balance.record.flags.storeOverload) b.budgetW
    balance := { b with record := balanceOf s.field s.sessions b } }

section
variable (s : State)

theorem State.setBalance_recompute {b : SiteBalanceUnit} (hb : b.record = s.balance.record) :
    (s.setBalance b).recompute = s.rebalanced b := by
  have hl : s.links.alarm b.record (balanceOf s.field s.sessions b) =
      s.links.overload (b.siteState == .normal && !s.balance.record.flags.storeOverload) b.budgetW := by
    rw [LinkController.alarm_balanceOf, hb]
  rw [State.recompute_eq, State.rebalanced, ← hl]
  rfl

/-- The Site Balance Unit with the values of a grid report. -/
def State.gridReported (s : State) (power : Int) (present : Bool) : SiteBalanceUnit :=
  { s.balance with grid := arrived s { power := power, present := present } }

/-- The Site Balance Unit with the value of a store report. -/
def State.storeReported (s : State) (load : Int) : SiteBalanceUnit := { s.balance with store := arrived s load.toNat }

variable {s}

theorem State.nextSite_grid {power : Int} {present : Bool} (hg : s.balance.grid.value = some { power := power, present := present }) :
    s.nextSite (some present) = siteAfterGrid s.balance.siteState present s.balance.store.value.isSome := by
  unfold State.nextSite SiteBalanceUnit.metersReported siteAfterGrid
  rw [hg]
  cases s.balance.siteState with
  | starting =>
    cases present with
    | false => rfl
    | true => rw [Bool.and_true]
  | none | normal | island | restoring => cases present <;> rfl

theorem State.nextSite_store (hs : s.balance.store.value.isSome = true) : s.nextSite none =
    if s.balance.siteState = .starting ∧ s.balance.grid.value.map GridValues.present = some true then .normal
    else s.balance.siteState := by
  unfold State.nextSite SiteBalanceUnit.metersReported
  rw [hs, Bool.true_and]
  cases hsite : s.balance.siteState with
  | starting =>
    cases s.balance.grid.value with
    | none => rfl
    | some g => cases h : g.present <;> simp [h]
  | none | normal | island | restoring => rfl

variable (s)

theorem State.takeReport_grid (u : Nat) (power : Int) (present : Bool) :
    s.takeReport { unit := u, values := .grid power present } =
      ((s.rebalanced (s.gridReported power present)).entered
        ((s.rebalanced (s.gridReported power present)).nextSite (some present))).overrunChecked
          (decide (present = true ∧ (s.balance.settings.importLimit : Int) * 1000 < power)) power := by
  show ((s.setBalance (s.gridReported power present)).recompute.followGrid (some present)).checkOverrun power present = _
  rw [State.followGrid_eq State.recompute_computed, State.checkOverrun_eq (State.entered_computed _),
    s.setBalance_recompute (by rfl)]
  rfl

theorem State.takeReport_store (u : Nat) (load : Int) : s.takeReport { unit := u, values := .store load } =
    (s.rebalanced (s.storeReported load)).entered ((s.rebalanced (s.storeReported load)).nextSite none) := by
  show (s.setBalance (s.storeReported load)).recompute.followGrid none = _
  rw [State.followGrid_eq State.recompute_computed, s.setBalance_recompute (by rfl)]

theorem exec_reportArrival {u : Nat} {r : Report} {rest : List Report}
    (h : takeFirst (fun q => q.unit == u) s.events.reports = some (r, rest)) :
    exec (.reportArrival u) s = done ((s.setEvents { s.events with reports := rest }).takeReport r) := by
  simp only [exec, execReportArrival, h]

/-- The notices of a change of site state: GRID_LOST carries the site time, which no notice changes. -/
theorem State.entered_rebalanced_links (b : SiteBalanceUnit) (new : SiteState) (hb : b.siteState = s.balance.siteState) :
    ((s.rebalanced b).entered new).links =
      (if new = .island ∧ s.balance.siteState ≠ .island
        then (s.links.overload (s.balance.siteState == .normal && !s.balance.record.flags.storeOverload) b.budgetW).raise
          .gridLost s.siteTime
        else s.links.overload (s.balance.siteState == .normal && !s.balance.record.flags.storeOverload) b.budgetW).overload
          (s.balance.siteState != .normal && new == .normal) b.budgetW := by
  have htime : (s.rebalanced b).siteTime = s.siteTime := congrArg SiteClock.time (LinkController.overload_clock ..)
  simp only [State.entered, htime]
  rw [← hb]
  rfl

end

/-- Settles O26: the report is taken by `entered`, a grid report by `overrunChecked` besides. -/
theorem gridReportDrivesTheSiteState : Obligations.GridReportDrivesTheSiteState := by
  intro s u old overload wasNormal becomesNormal
  refine ⟨fun power present rest htake => ?_, fun load rest htake => ?_⟩
  · intro new sent overrun
    have hnew : ((s.setEvents { s.events with reports := rest }).rebalanced
        (s.gridReported power present)).nextSite (some present) = new := State.nextSite_grid rfl
    have hlinks := (s.setEvents { s.events with reports := rest }).entered_rebalanced_links (s.gridReported power present) new rfl
    have hexec : exec (.reportArrival u) s = .next ((((s.setEvents { s.events with reports := rest }).rebalanced
        (s.gridReported power present)).entered new).overrunChecked overrun power).settle := by
      rw [exec_reportArrival s htake, State.takeReport_grid]
      exact congrArg (fun n => done ((((s.setEvents { s.events with reports := rest }).rebalanced
        (s.gridReported power present)).entered n).overrunChecked overrun power)) hnew
    exact ⟨_, hexec, rfl, rfl, rfl, rfl, rfl,
      congrArg (fun c => (if overrun then c.raise .importOverrun power.toNat else c).settle) hlinks, rfl⟩
  · intro new sent
    have hnew : ((s.setEvents { s.events with reports := rest }).rebalanced
        (s.storeReported load)).nextSite none = new := State.nextSite_store rfl
    have hlinks := (s.setEvents { s.events with reports := rest }).entered_rebalanced_links (s.storeReported load) new rfl
    have hexec : exec (.reportArrival u) s = .next (((s.setEvents { s.events with reports := rest }).rebalanced
        (s.storeReported load)).entered new).settle := by
      rw [exec_reportArrival s htake, State.takeReport_store]
      exact congrArg (fun n => done (((s.setEvents { s.events with reports := rest }).rebalanced
        (s.storeReported load)).entered n)) hnew
    have hmoves : new = old ∨ new = .normal := by
      show (if _ then _ else _) = old ∨ (if _ then _ else _) = SiteState.normal
      split
      · exact .inr rfl
      · exact .inl rfl
    refine ⟨_, hexec, rfl, rfl, ?_, congrArg LinkController.settle (hlinks.trans ?_), rfl⟩
    · show (if new = old then s.balance.restoreTimer else if new = .restoring then _ else none) = _
      by_cases e : new = old
      · rw [if_pos e, if_pos e]
      · have hrestoring : new ≠ .restoring := by rw [hmoves.resolve_left e]; decide
        rw [if_neg e, if_neg hrestoring, if_neg e]
    · have hisland : ¬ (new = .island ∧ old ≠ .island) := fun ⟨hi, ho⟩ => by
        obtain e | e := hmoves
        · exact ho (e.symm.trans hi)
        · exact absurd (e.symm.trans hi) (by decide)
      exact congrArg (LinkController.overload · (becomesNormal new) (s.storeReported load).budgetW) (if_neg hisland)

end Sys2Proof.Machine

namespace Sys2Proof.Machine

/-! ### What a report replaces (R28, R29, R74) -/

section
variable (s : State)

/-- R74: a battery report sends the Battery Dispatch Unit a change to fresh, when there is one. -/
theorem State.takeReport_battery (u soc : Nat) (power maxCharge maxDischarge : Int) (state : BatteryState) :
    s.takeReport { unit := u, values := .battery soc power maxCharge maxDischarge state } =
      ({ s with
        balance := { s.balance with battery := arrived s (batteryValues soc power maxCharge maxDischarge state) }
        events := { s.events with
          freshness := s.events.freshness ++ if s.balance.battery.fresh then [] else [true] } } : State).recompute := by
  show ((s.setBalance { s.balance with
    battery := arrived s (batteryValues soc power maxCharge maxDischarge state) }).freshen s.balance.battery.fresh
      true).recompute = _
  congr 1
  cases hf : s.balance.battery.fresh with
  | false => rfl
  | true =>
    rw [State.freshen, if_pos rfl, if_pos rfl, List.append_nil]
    rfl

end

/-- Settles O25: a charger, an inverter and a battery report end in one recomputation; a grid and a store report go through
`entered` and `overrunChecked`, which leave the settings, the reservations and the allowance. -/
theorem reportReplacesItsRecord : Obligations.ReportReplacesItsRecord := by
  intro s r rest htake fresh quiet
  obtain ⟨u, values⟩ := r
  have hexec := exec_reportArrival s htake
  have hnone : ({ s.events with reports := rest, freshness := s.events.freshness ++ [] } : Events) =
      { s.events with reports := rest } := by rw [List.append_nil]
  cases values with
  | charger power =>
    rw [hexec]
    refine ⟨_, done_recompute _, rfl, rfl, rfl, rfl, rfl, rfl, fun p hp h1 h2 => ?_, nofun, nofun, nofun, nofun⟩
    cases hp
    refine ⟨?_, fun q => nth_put _ _ _ _ _ h1 h2⟩
    show _ = ({ s with links := _, balance := _, events := _ } : State)
    rw [hnone]
    rfl
  | grid power present =>
    rw [hexec, State.takeReport_grid]
    refine ⟨_, rfl, rfl, rfl, rfl, rfl, rfl, rfl, nofun, fun p q hp => ?_, nofun, nofun, nofun⟩
    cases hp
    rfl
  | store load =>
    rw [hexec, State.takeReport_store]
    refine ⟨_, rfl, rfl, rfl, rfl, rfl, rfl, rfl, nofun, nofun, fun l hl => ?_, nofun, nofun⟩
    cases hl
    rfl
  | inverter output available curtailed =>
    rw [hexec]
    refine ⟨_, done_recompute _, rfl, rfl, rfl, rfl, rfl, rfl, nofun, nofun, nofun, fun o a c hv h1 h2 => ?_, nofun⟩
    cases hv
    refine ⟨?_, fun k => nth_put _ _ _ _ _ (by omega) (by omega)⟩
    show _ = ({ s with links := _, balance := _, events := _ } : State)
    rw [hnone]
    rfl
  | battery soc power maxCharge maxDischarge state =>
    rw [hexec, State.takeReport_battery, done_recompute]
    refine ⟨_, rfl, rfl, rfl, rfl, rfl, rfl, rfl, nofun, nofun, nofun, nofun, fun _ _ _ _ _ hv => ?_⟩
    cases hv
    rfl

end Sys2Proof.Machine

namespace Sys2Proof.Machine

/-! ## A round of the Power Allocator (chapter 3)

### The admission order (R56) -/

/-- R56 key 3 as two numbers: a session without a departure time comes after every session with one. -/
def Candidate.departs (x : Candidate) : ℕ × ℕ :=
  match x.departure with
  | some d => (0, d)
  | none => (1, 0)

/-- The keys of R56, each deciding between candidates equal on those before it; a higher count comes first. -/
def Candidate.key (x : Candidate) : ℕ ×ₗ ℕᵒᵈ ×ₗ ℕ ×ₗ ℕ ×ₗ ℕ :=
  toLex (x.cls.rank, toLex (OrderDual.toDual x.count, toLex (x.departs.1, toLex (x.departs.2, x.session))))

theorem Candidate.key_lt_iff {x y : Candidate} : x.key < y.key ↔
    x.cls.rank < y.cls.rank ∨ (x.cls.rank = y.cls.rank ∧ (y.count < x.count ∨ (x.count = y.count ∧
      (x.departs.1 < y.departs.1 ∨ (x.departs.1 = y.departs.1 ∧ (x.departs.2 < y.departs.2 ∨
        (x.departs.2 = y.departs.2 ∧ x.session < y.session))))))) := by
  simp [Candidate.key, Prod.Lex.toLex_lt_toLex]

theorem Candidate.session_eq_of_key_eq {x y : Candidate} (h : x.key = y.key) : x.session = y.session := by
  simp only [Candidate.key, toLex_inj, Prod.mk.injEq] at h
  obtain ⟨-, -, -, -, hs⟩ := h
  exact hs

/-- The comparison of two candidates is that of their keys. -/
theorem comesBefore_iff (x y : Candidate) : comesBefore x y = true ↔ x.key < y.key := by
  rw [Candidate.key_lt_iff]
  unfold comesBefore
  split_ifs with hrank hcount hdep
  · rw [decide_eq_true_iff]; omega
  · rw [decide_eq_true_iff]; omega
  · obtain hx | ⟨d, hx⟩ := Option.eq_none_or_eq_some x.departure
    all_goals obtain hy | ⟨e, hy⟩ := Option.eq_none_or_eq_some y.departure
    all_goals simp_all [departsBefore, Candidate.departs]
  · have : x.departs = y.departs := by rw [Candidate.departs, not_not.1 hdep, ← Candidate.departs]
    rw [decide_eq_true_iff, this]
    omega

theorem insertCandidate_eq (x : Candidate) (xs : List Candidate) :
    insertCandidate x xs = xs.orderedInsert (fun a b => a.key ≤ b.key) x := by
  induction xs with
  | nil => rfl
  | cons y rest ih =>
    simp only [insertCandidate, comesBefore_iff, List.orderedInsert_cons, ih, ← not_lt]
    split_ifs <;> rfl

/-- The admission order is the insertion sort by the keys. -/
theorem admissionOrder_eq (xs : List Candidate) :
    admissionOrder xs = xs.insertionSort fun a b => a.key ≤ b.key := by
  unfold admissionOrder List.insertionSort
  exact congrArg (fun f => xs.foldr f []) (funext fun x => funext fun ys => insertCandidate_eq x ys)

theorem admissionOrder_perm (xs : List Candidate) : (admissionOrder xs).Perm xs := by
  rw [admissionOrder_eq]
  exact List.perm_insertionSort ..

/-- Candidates of different sessions stand strictly in the order of their keys. -/
theorem admissionOrder_pairwise {xs : List Candidate} (h : (xs.map Candidate.session).Nodup) :
    (admissionOrder xs).Pairwise fun x y => x.key < y.key := by
  have hsorted : (admissionOrder xs).Pairwise fun x y => x.key ≤ y.key := by
    have : Std.Total fun x y : Candidate => x.key ≤ y.key := ⟨fun x y => le_total _ _⟩
    have : IsTrans Candidate fun x y => x.key ≤ y.key := ⟨fun _ _ _ => le_trans⟩
    rw [admissionOrder_eq]
    exact List.pairwise_insertionSort _ xs
  have hdistinct : (admissionOrder xs).Pairwise fun x y => x.session ≠ y.session :=
    List.pairwise_map.1 (((admissionOrder_perm xs).map _).nodup_iff.2 h)
  exact (hsorted.and hdistinct).imp fun ⟨hle, hne⟩ =>
    lt_of_le_of_ne hle fun e => hne (Candidate.session_eq_of_key_eq e)

/-- Settles O31: the order is an insertion sort by the keys, which are distinct as the session numbers are. -/
theorem admissionOrderIsSorted : Obligations.AdmissionOrderIsSorted :=
  ⟨fun _ _ _ => ⟨rfl, rfl, rfl, rfl⟩, fun xs hxs =>
    ⟨admissionOrder_perm xs, (admissionOrder_pairwise hxs).imp fun h => Candidate.key_lt_iff.1 h⟩⟩

end Sys2Proof.Machine

namespace Sys2Proof.Machine

/-! ### Sums of allocations -/

@[simp] theorem allocated_nil : allocated [] = 0 := rfl

@[simp] theorem allocated_cons (x : Candidate) (xs : List Candidate) :
    allocated (x :: xs) = x.allocation + allocated xs := by simp [allocated]

@[simp] theorem allocated_append (xs ys : List Candidate) : allocated (xs ++ ys) = allocated xs + allocated ys := by
  simp [allocated]

@[simp] theorem allocatedOn_append (k : ℕ) (xs ys : List Candidate) :
    allocatedOn k (xs ++ ys) = allocatedOn k xs + allocatedOn k ys := by simp [allocatedOn]

@[simp] theorem allocatedOn_cons (k : ℕ) (x : Candidate) (xs : List Candidate) :
    allocatedOn k (x :: xs) = (if x.feeder = k then x.allocation else 0) + allocatedOn k xs := by
  by_cases h : x.feeder = k <;> simp [allocatedOn, h]

@[simp] theorem allocatedOn_nil (k : ℕ) : allocatedOn k [] = 0 := rfl

/-! ### Admission (R57) -/

/-- R57: the minimum of a candidate fits beside what has been allocated before it. -/
abbrev Fits (budget : ℕ) (room : ℕ → ℤ) (walked : List Candidate) (x : Candidate) : Prop :=
  allocated walked + x.minimum ≤ budget ∧ (allocatedOn x.feeder walked : ℤ) + x.minimum ≤ room x.feeder

/-- A candidate once the walk has reached it. -/
def Candidate.decided (x : Candidate) (yes : Bool) : Candidate :=
  { x with admitted := yes, allocation := if yes then x.minimum else 0 }

/-- What a candidate brings into a round. -/
def Candidate.asked (x : Candidate) : Candidate := { x with admitted := false, allocation := 0 }

theorem admitAll_cons (budget : ℕ) (room : ℕ → ℤ) (walked rest : List Candidate) (x : Candidate) :
    admitAll budget room walked (x :: rest) =
      admitAll budget room (walked ++ [x.decided (decide (Fits budget room walked x))]) rest := by
  simp only [admitAll, Candidate.decided, ← Bool.decide_and, decide_eq_true_eq]
  split_ifs with h
  · rw [decide_eq_true h]
  · rw [decide_eq_false h]

/-- What every decision of the walk keeps holds at its end. -/
theorem admitAll_induction {budget : ℕ} {room : ℕ → ℤ} {P : List Candidate → Prop} {walked rest : List Candidate}
    (h : ∀ w, ∀ x ∈ rest, P w → P (w ++ [x.decided (decide (Fits budget room w x))])) (hw : P walked) :
    P (admitAll budget room walked rest) := by
  induction rest generalizing walked with
  | nil => exact hw
  | cons x rest ih =>
    rw [admitAll_cons]
    exact ih (fun w y hy => h w y (List.mem_cons_of_mem _ hy)) (h _ x List.mem_cons_self hw)

theorem admitAll_asked (budget : ℕ) (room : ℕ → ℤ) (walked rest : List Candidate) :
    (admitAll budget room walked rest).map Candidate.asked = (walked ++ rest).map Candidate.asked := by
  induction rest generalizing walked with
  | nil => simp [admitAll]
  | cons x rest ih => rw [admitAll_cons, ih]; simp [Candidate.decided, Candidate.asked]

/-- R57, R59, R60: an allocation is 0, or between the effective minimum and the demand. -/
def Candidate.Served (x : Candidate) : Prop :=
  (x.admitted = false → x.allocation = 0) ∧ (x.admitted = true → x.minimum ≤ x.allocation ∧ x.allocation ≤ x.demand)

/-- R49: no more than the budget in all, and than its room on any feeder. -/
structure Within (budget : ℕ) (room : ℕ → ℤ) (xs : List Candidate) : Prop where
  budget : allocated xs ≤ budget
  room : ∀ k, (allocatedOn k xs : ℤ) ≤ max 0 (room k)
  served : ∀ x ∈ xs, x.Served

theorem Within.extend {budget : ℕ} {room : ℕ → ℤ} {walked : List Candidate} {x : Candidate}
    (h : Within budget room walked) (hx : x.minimum ≤ x.demand) :
    Within budget room (walked ++ [x.decided (decide (Fits budget room walked x))]) := by
  obtain ⟨hb, hr, hs⟩ := h
  by_cases hf : Fits budget room walked x
  · obtain ⟨hfb, hfr⟩ := hf
    refine ⟨?_, fun k => ?_, ?_⟩
    · simp [Candidate.decided, hfb, hfr]
    · have := hr k
      by_cases hk : x.feeder = k
      · subst hk; simp [Candidate.decided, hfb, hfr]
      · simpa [Candidate.decided, hk] using this
    · simpa [or_imp, forall_and, Candidate.decided, hfb, hfr, Candidate.Served, hx] using hs
  · rw [decide_eq_false hf]
    refine ⟨?_, fun k => ?_, ?_⟩
    · simpa [Candidate.decided] using hb
    · simpa [Candidate.decided] using hr k
    · simpa [or_imp, forall_and, Candidate.decided, Candidate.Served] using hs

/-- R57: right after the walk an admitted candidate has its effective minimum, every other nothing. -/
def AtMinimum (xs : List Candidate) : Prop := ∀ x ∈ xs, x.allocation = if x.admitted then x.minimum else 0

theorem AtMinimum.extend {xs : List Candidate} (h : AtMinimum xs) (x : Candidate) (yes : Bool) :
    AtMinimum (xs ++ [x.decided yes]) := by
  intro y hy
  obtain hy | hy := List.mem_append.1 hy
  · exact h y hy
  · rw [List.mem_singleton.1 hy]; rfl

theorem AtMinimum.allocated_eq {xs : List Candidate} (h : AtMinimum xs) :
    allocated xs = ((xs.filter Candidate.admitted).map Candidate.minimum).sum := by
  induction xs with
  | nil => rfl
  | cons x xs ih =>
    have hx := h x List.mem_cons_self
    have := ih fun y hy => h y (List.mem_cons_of_mem _ hy)
    cases hadm : x.admitted <;> simp [hx, hadm, this]

theorem AtMinimum.allocatedOn_eq {xs : List Candidate} (h : AtMinimum xs) (k : ℕ) :
    allocatedOn k xs = (((xs.filter Candidate.admitted).filter fun y => y.feeder == k).map Candidate.minimum).sum := by
  rw [allocatedOn, AtMinimum.allocated_eq fun x hx => h x (List.mem_of_mem_filter hx), List.filter_filter, List.filter_filter]
  simp [Bool.and_comm]

/-- R57 in the minima of those admitted before. -/
abbrev FitsBeside (budget : ℕ) (room : ℕ → ℤ) (before : List Candidate) (x : Candidate) : Prop :=
  ((before.filter Candidate.admitted).map Candidate.minimum).sum + x.minimum ≤ budget ∧
    (((((before.filter Candidate.admitted).filter fun y => y.feeder == x.feeder).map Candidate.minimum).sum +
      x.minimum : ℕ) : ℤ) ≤ room x.feeder

theorem AtMinimum.fits_iff {budget : ℕ} {room : ℕ → ℤ} {before : List Candidate} (h : AtMinimum before) (x : Candidate) :
    Fits budget room before x ↔ FitsBeside budget room before x := by
  rw [Fits, FitsBeside, h.allocated_eq, h.allocatedOn_eq, Nat.cast_add]

/-- R57: one is admitted exactly when its minimum fits beside those admitted before it. -/
def AdmittedInTurn (budget : ℕ) (room : ℕ → ℤ) (xs : List Candidate) : Prop :=
  ∀ before x after, xs = before ++ x :: after → (x.admitted = true ↔ FitsBeside budget room before x)

theorem AdmittedInTurn.extend {budget : ℕ} {room : ℕ → ℤ} {walked : List Candidate} (h : AdmittedInTurn budget room walked)
    (hmin : AtMinimum walked) (x : Candidate) :
    AdmittedInTurn budget room (walked ++ [x.decided (decide (Fits budget room walked x))]) := by
  intro before y after e
  obtain rfl | ⟨after, z, rfl⟩ := List.eq_nil_or_concat' after
  · obtain ⟨rfl, hy⟩ := List.append_inj' e rfl
    rw [← List.head_eq_of_cons_eq hy]
    exact decide_eq_true_iff.trans (hmin.fits_iff x)
  · rw [← List.cons_append, ← List.append_assoc] at e
    exact h before y after (List.append_inj' e rfl).1

/-- Who is admitted depends on no allocation. -/
theorem AdmittedInTurn.map {budget : ℕ} {room : ℕ → ℤ} {xs : List Candidate} (h : AdmittedInTurn budget room xs)
    {f : Candidate → Candidate} (hf : ∀ x, (f x).asked = x.asked) (hadm : ∀ x, (f x).admitted = x.admitted) :
    AdmittedInTurn budget room (xs.map f) := by
  have hmin : ∀ x, (f x).minimum = x.minimum := fun x => by simpa [Candidate.asked] using congrArg Candidate.minimum (hf x)
  have hfeeder : ∀ x, (f x).feeder = x.feeder := fun x => by simpa [Candidate.asked] using congrArg Candidate.feeder (hf x)
  intro before y after e
  obtain ⟨before, tail, rfl, rfl, htail⟩ := List.map_eq_append_iff.1 e
  obtain ⟨x, after, rfl, rfl, rfl⟩ := List.map_eq_cons_iff.1 htail
  have := h before x after rfl
  simpa [FitsBeside, List.filter_map, Function.comp_def, hmin, hfeeder, hadm] using this

/-! ### Dealing (R59) -/

/-- R59: one step of the search for the candidate that takes the next credit. -/
def poorer (room : ℕ → ℤ) (xs : List Candidate) (best : Option Candidate) (x : Candidate) : Option Candidate :=
  if canTake room xs x then
    match best with
    | none => some x
    | some b => if x.allocation < b.allocation then some x else some b
  else best

theorem poorest_eq (room : ℕ → ℤ) (xs : List Candidate) : poorest room xs = xs.foldl (poorer room xs) none := rfl

/-- The search finds one with the smallest allocation among those that can take a credit, if there is one. -/
theorem foldl_poorer (room : ℕ → ℤ) (xs ys : List Candidate) :
    match ys.foldl (poorer room xs) none with
    | none => ∀ y ∈ ys, canTake room xs y = false
    | some b => b ∈ ys ∧ canTake room xs b = true ∧ ∀ y ∈ ys, canTake room xs y = true → b.allocation ≤ y.allocation := by
  induction ys using List.reverseRecOn with
  | nil => simp
  | append_singleton ys y ih =>
    rw [List.foldl_append, List.foldl_cons, List.foldl_nil]
    generalize ys.foldl (poorer room xs) none = best at ih
    by_cases hy : canTake room xs y = true
    · cases best with
      | none =>
        simp only [poorer, hy, if_true, List.mem_append, List.mem_singleton, or_true, true_and]
        rintro z (hz | rfl) hzc
        · exact absurd hzc (by simp [ih z hz])
        · exact le_rfl
      | some b =>
        obtain ⟨hb, hcan, hle⟩ := ih
        by_cases hlt : y.allocation < b.allocation
        · simp only [poorer, hy, hlt, if_true, List.mem_append, List.mem_singleton, or_true, true_and]
          rintro z (hz | rfl) hzc
          · exact (hlt.trans_le (hle z hz hzc)).le
          · exact le_rfl
        · simp only [poorer, hy, hlt, if_true, if_false, List.mem_append, hb, hcan, true_or, true_and, List.mem_singleton]
          rintro z (hz | rfl) hzc
          · exact hle z hz hzc
          · exact not_lt.1 hlt
    · cases best <;> simp_all [poorer, or_imp]

theorem poorest_eq_none {room : ℕ → ℤ} {xs : List Candidate} (h : poorest room xs = none) :
    ∀ x ∈ xs, canTake room xs x = false := by
  have := foldl_poorer room xs xs
  rwa [← poorest_eq, h] at this

theorem poorest_eq_some {room : ℕ → ℤ} {xs : List Candidate} {p : Candidate} (h : poorest room xs = some p) :
    p ∈ xs ∧ canTake room xs p = true ∧ ∀ x ∈ xs, canTake room xs x = true → p.allocation ≤ x.allocation := by
  have := foldl_poorer room xs xs
  rwa [← poorest_eq, h] at this

theorem canTake_iff {room : ℕ → ℤ} {xs : List Candidate} {x : Candidate} : canTake room xs x = true ↔
    x.admitted = true ∧ x.allocation < x.demand ∧ (allocatedOn x.feeder xs : ℤ) < room x.feeder := by
  simp [canTake, and_assoc]

/-- What every credit dealt keeps holds at the end, which comes when the pool is spent or nobody can take a credit. -/
theorem deal_induction {room : ℕ → ℤ} {P : ℕ → List Candidate → Prop}
    (h : ∀ pool xs p, P (pool + 1) xs → poorest room xs = some p → P pool (giveCredit p.session xs)) (pool : ℕ)
    (xs : List Candidate) (hP : P pool xs) :
    ∃ left, P left (deal room pool xs) ∧ (left = 0 ∨ poorest room (deal room pool xs) = none) := by
  induction pool generalizing xs with
  | zero => exact ⟨0, hP, .inl rfl⟩
  | succ pool ih =>
    unfold deal
    split
    · rename_i hnone
      exact ⟨_, hP, .inr hnone⟩
    · rename_i p hp
      exact ih _ (h _ _ _ hP hp)

/-- With distinct images, one element of a list differs from the others. -/
theorem ne_of_nodup_middle {α β : Type} {f : α → β} {a b : List α} {x : α} (h : ((a ++ x :: b).map f).Nodup) :
    ∀ y ∈ a ++ b, f y ≠ f x := by
  rw [List.map_append, List.map_cons, List.nodup_middle, ← List.map_append, List.nodup_cons] at h
  exact fun y hy e => h.1 (e ▸ List.mem_map_of_mem hy)

/-- A change of the elements that meet a test changes the one that does. -/
theorem map_ite_middle {α : Type} {p : α → Prop} [DecidablePred p] {g : α → α} {a b : List α} {x : α} (hx : p x)
    (h : ∀ y ∈ a ++ b, ¬ p y) : ((a ++ x :: b).map fun y => if p y then g y else y) = a ++ g x :: b := by
  have keep : ∀ l : List α, (∀ y ∈ l, ¬ p y) → (l.map fun y => if p y then g y else y) = l := fun l hl =>
    (List.map_congr_left fun y hy => if_neg (hl y hy)).trans (List.map_id _)
  rw [List.map_append, List.map_cons, if_pos hx, keep a fun y hy => h y (List.mem_append_left _ hy),
    keep b fun y hy => h y (List.mem_append_right _ hy)]

/-- A candidate with one credit more. -/
def Candidate.credited (x : Candidate) : Candidate := { x with allocation := x.allocation + 1 }

/-- A credit goes to one candidate, as no two are of one session. -/
theorem giveCredit_split {xs : List Candidate} {x : Candidate} (hx : x ∈ xs) (hn : (xs.map Candidate.session).Nodup) :
    ∃ a b, xs = a ++ x :: b ∧ giveCredit x.session xs = a ++ x.credited :: b := by
  obtain ⟨a, b, rfl⟩ := List.append_of_mem hx
  exact ⟨a, b, rfl, map_ite_middle (g := Candidate.credited) rfl (ne_of_nodup_middle hn)⟩

theorem giveCredit_asked (n : ℕ) (xs : List Candidate) :
    (giveCredit n xs).map Candidate.asked = xs.map Candidate.asked := by
  rw [giveCredit, List.map_map]
  refine List.map_congr_left fun x _ => ?_
  simp only [Function.comp]
  split <;> rfl

theorem sessions_of_asked {xs ys : List Candidate} (h : xs.map Candidate.asked = ys.map Candidate.asked) :
    xs.map Candidate.session = ys.map Candidate.session := by
  simpa [Function.comp_def, Candidate.asked] using congrArg (List.map Candidate.session) h

/-- R59: of two admitted candidates on one feeder, one that was dealt a credit is at most one ahead of one that wants
more. -/
def DealtEvenly (xs : List Candidate) : Prop :=
  ∀ x ∈ xs, ∀ y ∈ xs, x.admitted = true → y.admitted = true → x.feeder = y.feeder → y.minimum < y.allocation →
    x.allocation + 1 < y.allocation → x.allocation = x.demand

/-- What dealing keeps, with the pool that is left. -/
structure Dealing (budget : ℕ) (room : ℕ → ℤ) (order : List Candidate) (pool : ℕ) (xs : List Candidate) : Prop where
  spent : allocated xs + pool = budget
  within : Within budget room xs
  asked : xs.map Candidate.asked = order
  distinct : (xs.map Candidate.session).Nodup
  inTurn : AdmittedInTurn budget room xs
  evenly : DealtEvenly xs

section
variable {budget pool : ℕ} {room : ℕ → ℤ} {order xs : List Candidate} {p : Candidate}

/-- A credit to the poorest leaves the dealing even: one with less on its feeder that wants more could have taken it. -/
theorem evenly_giveCredit (h : DealtEvenly xs) (hs : ∀ x ∈ xs, x.Served) (hn : (xs.map Candidate.session).Nodup)
    (hp : poorest room xs = some p) : DealtEvenly (giveCredit p.session xs) := by
  obtain ⟨hmem, hcan, hpoor⟩ := poorest_eq_some hp
  obtain ⟨hpa, hpd, hpr⟩ := canTake_iff.1 hcan
  obtain ⟨a, b, hab, hgive⟩ := giveCredit_split hmem hn
  have hcases : ∀ z ∈ giveCredit p.session xs, z = p.credited ∨ z ∈ xs := by
    intro z hz
    rw [hgive, List.mem_append, List.mem_cons] at hz
    rw [hab, List.mem_append, List.mem_cons]
    tauto
  intro x hx y hy hxa hya hfeeder hdealt hlt
  obtain rfl | hx := hcases x hx
  · obtain rfl | hy := hcases y hy
    · exact absurd hlt (by omega)
    · have hpy : p.allocation + 1 < y.allocation := (Nat.lt_succ_self _).trans hlt
      exact absurd (h p hmem y hy hpa hya hfeeder hdealt hpy) hpd.ne
  · obtain rfl | hy := hcases y hy
    · by_contra hne
      have hxd : x.allocation < x.demand := lt_of_le_of_ne ((hs x hx).2 hxa).2 hne
      have hxp : x.feeder = p.feeder := hfeeder
      have := hpoor x hx (canTake_iff.2 ⟨hxa, hxd, hxp ▸ hpr⟩)
      exact absurd (Nat.lt_of_succ_lt_succ hlt) (not_lt.2 this)
    · exact h x hx y hy hxa hya hfeeder hdealt hlt

theorem within_giveCredit (h : Within budget room xs) (hb : allocated xs < budget)
    (hn : (xs.map Candidate.session).Nodup) (hp : poorest room xs = some p) :
    Within budget room (giveCredit p.session xs) := by
  obtain ⟨hmem, hcan, -⟩ := poorest_eq_some hp
  obtain ⟨hpa, hpd, hpr⟩ := canTake_iff.1 hcan
  obtain ⟨a, b, rfl, hgive⟩ := giveCredit_split hmem hn
  rw [hgive]
  refine ⟨?_, fun k => ?_, fun z hz => ?_⟩
  · simp only [allocated_append, allocated_cons, Candidate.credited] at hb ⊢
    omega
  · have hk := h.room k
    by_cases e : p.feeder = k
    · subst e
      simp only [allocatedOn_append, allocatedOn_cons, Candidate.credited, if_true] at hpr ⊢
      omega
    · simpa [Candidate.credited, e] using hk
  · have hserved := h.served p hmem
    simp only [List.mem_append, List.mem_cons] at hz
    obtain hz | rfl | hz := hz
    · exact h.served z (by simp [hz])
    · refine ⟨fun e => absurd (hpa.symm.trans e) (by decide), fun _ => ⟨(hserved.2 hpa).1.trans (Nat.le_succ _), hpd⟩⟩
    · exact h.served z (by simp [hz])

theorem dealing_giveCredit (h : Dealing budget room order (pool + 1) xs) (hp : poorest room xs = some p) :
    Dealing budget room order pool (giveCredit p.session xs) := by
  have hspent := h.spent
  refine ⟨?_, within_giveCredit h.within (by omega) h.distinct hp, (giveCredit_asked _ _).trans h.asked, ?_,
    h.inTurn.map (fun x => ?_) (fun x => ?_), evenly_giveCredit h.evenly h.within.served h.distinct hp⟩
  · obtain ⟨a, b, rfl, hgive⟩ := giveCredit_split (poorest_eq_some hp).1 h.distinct
    simp only [hgive, allocated_append, allocated_cons, Candidate.credited] at hspent ⊢
    omega
  · rw [sessions_of_asked (giveCredit_asked _ _)]
    exact h.distinct
  · split <;> rfl
  · split <;> rfl

/-- R57: the walk leaves the whole rest of the budget to the pool. -/
theorem admitAll_dealing (hask : order.map Candidate.asked = order) (hmin : ∀ x ∈ order, x.minimum ≤ x.demand)
    (hn : (order.map Candidate.session).Nodup) : Dealing budget room order
      (budget - allocated (admitAll budget room [] order)) (admitAll budget room [] order) := by
  have hw : Within budget room (admitAll budget room [] order) :=
    admitAll_induction (fun w x hx hw => hw.extend (hmin x hx)) ⟨Nat.zero_le _, fun k => le_max_left _ _, nofun⟩
  have hturn : AdmittedInTurn budget room (admitAll budget room [] order) ∧ AtMinimum (admitAll budget room [] order) :=
    admitAll_induction (P := fun w => AdmittedInTurn budget room w ∧ AtMinimum w)
      (fun w x _ ⟨ht, hm⟩ => ⟨ht.extend hm x, hm.extend x _⟩) ⟨by simp [AdmittedInTurn], nofun⟩
  have hasked := admitAll_asked budget room [] order
  refine ⟨Nat.add_sub_cancel' hw.budget, hw, hasked.trans hask, ?_, hturn.1, fun x _ y hy _ hya _ hlt => ?_⟩
  · rw [sessions_of_asked hasked]
    exact hn
  · have := hturn.2 y hy
    rw [if_pos hya] at this
    omega

end

end Sys2Proof.Machine

namespace Sys2Proof.Machine

/-! ### The candidates of a round and its result (R54, R55, R60, R64, R65) -/

section
variable (c : SessionController) (a : PowerAllocator) (r : BalanceRecord)

/-- R55, R56: the candidates of a round in admission order. -/
def candidatesOf : List Candidate := admissionOrder ((c.table.filter Session.isCandidate).map (candidateOf c a))

@[simp] theorem candidateOf_asked (x : Session) : (candidateOf c a x).asked = candidateOf c a x := rfl

theorem candidateOf_minimum_le (x : Session) : (candidateOf c a x).minimum ≤ (candidateOf c a x).demand := by
  simp only [candidateOf]
  split
  · exact le_rfl
  · exact min_le_right _ _

variable {c a r}

theorem mem_candidatesOf {y : Candidate} :
    y ∈ candidatesOf c a ↔ ∃ x ∈ c.table, x.isCandidate = true ∧ candidateOf c a x = y := by
  rw [candidatesOf, (admissionOrder_perm _).mem_iff]
  simp [and_assoc]

theorem candidatesOf_asked : (candidatesOf c a).map Candidate.asked = candidatesOf c a := by
  refine (List.map_congr_left fun y hy => ?_).trans (List.map_id _)
  obtain ⟨x, -, -, rfl⟩ := mem_candidatesOf.1 hy
  rfl

theorem candidatesOf_sessions (hn : (c.table.map Session.number).Nodup) :
    ((candidatesOf c a).map Candidate.session).Nodup := by
  rw [candidatesOf, ((admissionOrder_perm _).map _).nodup_iff, List.map_map]
  exact hn.sublist (List.filter_sublist.map Session.number)

/-- What holds of the candidates at the end of a round, and why the dealing ended. -/
theorem allocateAll_dealing (hn : (c.table.map Session.number).Nodup) :
    ∃ left, Dealing r.budget (roomOf a r) (candidatesOf c a) left (allocateAll c a r) ∧
      (left = 0 ∨ poorest (roomOf a r) (allocateAll c a r) = none) := by
  refine deal_induction (P := Dealing r.budget (roomOf a r) (candidatesOf c a)) (fun _ _ _ h hp => dealing_giveCredit h hp)
    _ _ (admitAll_dealing candidatesOf_asked (fun y hy => ?_) (candidatesOf_sessions hn))
  obtain ⟨x, -, -, rfl⟩ := mem_candidatesOf.1 hy
  exact candidateOf_minimum_le c a x

/-- Each stands for a session of the table that is a candidate. -/
theorem mem_allocateAll (hn : (c.table.map Session.number).Nodup) {y : Candidate} (hy : y ∈ allocateAll c a r) :
    ∃ x ∈ c.table, x.isCandidate = true ∧ candidateOf c a x = y.asked := by
  obtain ⟨left, hd, -⟩ := allocateAll_dealing (a := a) (r := r) hn
  exact mem_candidatesOf.1 (hd.asked ▸ List.mem_map_of_mem hy)

theorem fields_of_asked {x : Session} {y : Candidate} (h : candidateOf c a x = y.asked) :
    x.number = y.session ∧ x.port = y.port ∧ x.demand = y.demand ∧ (candidateOf c a x).feeder = y.feeder ∧
      (candidateOf c a x).minimum = y.minimum :=
  ⟨(congrArg Candidate.session h :), (congrArg Candidate.port h :), (congrArg Candidate.demand h :),
    (congrArg Candidate.feeder h :), (congrArg Candidate.minimum h :)⟩

/-- R49: a feeder of 1 to 4 is that of the port's entry, if it has one. -/
theorem candidateOf_feeder {x : Session} {k : ℕ} (hk : k ≠ 0) :
    (candidateOf c a x).feeder = k ↔ (c.entry x.port).map PortEntry.feeder = some k := by
  simp only [candidateOf]
  cases c.entry x.port <;> simp [hk.symm]

/-- R64: the sum over a feeder, in the entries of the result. -/
theorem allocatedOn_eq_entries (hn : (c.table.map Session.number).Nodup) {k : ℕ} (hk : k ≠ 0) :
    allocatedOn k (allocateAll c a r) = (((roundResult c a r).entries.filter fun e =>
      (c.entry e.port).map PortEntry.feeder == some k).map CandidateEntry.allocation).sum := by
  have hfilter : (allocateAll c a r).filter (fun y => y.feeder == k) =
      (allocateAll c a r).filter fun y => (c.entry y.port).map PortEntry.feeder == some k := by
    refine List.filter_congr fun y hy => ?_
    obtain ⟨x, -, -, hx⟩ := mem_allocateAll hn hy
    obtain ⟨-, hport, -, hfeeder, -⟩ := fields_of_asked hx
    have := candidateOf_feeder (c := c) (a := a) (x := x) hk
    rw [hfeeder, hport] at this
    rw [Bool.eq_iff_iff]
    simpa using this
  rw [allocatedOn, hfilter]
  simp only [roundResult, List.filter_map, List.map_map, allocated]
  rfl

/-- R65: the setpoint of a target is the allocation of the session's entry, or 0. -/
theorem portTargetOf_eq (p : ℕ) : portTargetOf c (allocateAll c a r) p = match c.holder p with
    | none => { port := p, session := none, setpoint := 0 }
    | some x => { port := p, session := some x.number
                  setpoint := (((roundResult c a r).entries.find? fun e => e.session == x.number).map
                    CandidateEntry.allocation).getD 0 } := by
  unfold portTargetOf
  cases c.holder p with
  | none => rfl
  | some x =>
    have : ((roundResult c a r).entries.find? fun e => e.session == x.number) =
        ((allocateAll c a r).find? fun y => y.session == x.number).map (entryOf r.siteState a) :=
      List.find?_map
    simp only [this]
    cases (allocateAll c a r).find? fun y => y.session == x.number <;> rfl

end

/-- Settles O30: the dealing ends when the pool is spent or nobody can take a credit, and every credit keeps it even. -/
theorem dealingIsMaximalAndEven : Obligations.DealingIsMaximalAndEven := by
  intro c a r hn
  obtain ⟨left, hd, hend⟩ := allocateAll_dealing (a := a) (r := r) hn
  refine ⟨?_, hd.evenly⟩
  obtain rfl | hnone := hend
  · exact .inl hd.spent
  · refine .inr fun x hx hadm => ?_
    have hle := ((hd.within.served x hx).2 hadm).2
    by_contra hne
    obtain ⟨hdem, hroom⟩ := not_or.1 hne
    have hcan : canTake (roomOf a r) (allocateAll c a r) x = true :=
      canTake_iff.2 ⟨hadm, lt_of_le_of_ne hle hdem, not_le.1 hroom⟩
    rw [poorest_eq_none hnone x hx] at hcan
    exact absurd hcan (by decide)

/-- Settles O29: the bounds and the walk hold of the candidates when they have been admitted, and every credit keeps them. -/
theorem roundStaysWithinItsBounds : Obligations.RoundStaysWithinItsBounds := by
  intro c a r hn res xs order room
  obtain ⟨left, hd, -⟩ := allocateAll_dealing (a := a) (r := r) hn
  have horder : order = candidatesOf c a := by rw [candidatesOf, funext Session.isCandidate_eq]
  have hfeeders : ∀ f ∈ res.feeders, ∃ k ∈ [1, 2, 3, 4],
      f = { feeder := k, room := roomOf a r k, allocated := allocatedOn k (allocateAll c a r) } := by
    intro f hf
    obtain ⟨k, hk, rfl⟩ := List.mem_map.1 hf
    exact ⟨k, (List.mem_filter.1 hk).1, rfl⟩
  refine ⟨hd.within.budget, Nat.sub_add_cancel hd.within.budget, ?_, ?_, ?_, fun x hx => ⟨rfl, rfl, rfl, fun p hp => ?_⟩,
    hd.asked.trans horder.symm, rfl, hd.inTurn, rfl, rfl, rfl, rfl, rfl, rfl, ?_, fun e he => ?_⟩
  · show ((allocateAll c a r).map _).sum = (List.map _ (List.map _ _)).sum
    rw [List.map_map]
    rfl
  · show (List.map _ (List.map _ _)) = _
    rw [List.map_map, ← List.filterMap_eq_map, List.filterMap_filter]
    refine List.filterMap_congr fun k _ => ?_
    cases h : nth a.feeders none k <;> simp [roomOf, h]
  · intro f hf
    obtain ⟨k, hk, rfl⟩ := hfeeders f hf
    exact ⟨hd.within.room k, allocatedOn_eq_entries hn (by rintro rfl; simp at hk)⟩
  · simp only [candidateOf, hp, and_self]
  · exact List.map_congr_left fun p _ => portTargetOf_eq p
  · obtain ⟨y, hy, rfl⟩ := List.mem_map.1 he
    obtain ⟨x, hx, hcand, hxy⟩ := mem_allocateAll hn hy
    obtain ⟨hstate, -⟩ := of_decide_eq_true hcand
    obtain ⟨hnumber, hport, hdemand, -, hmin⟩ := fields_of_asked hxy
    have hserved := hd.within.served y hy
    refine ⟨x, hx, hnumber, hport, hstate, hserved.1, fun hadm => ?_⟩
    refine ⟨hdemand ▸ (hserved.2 hadm).2, fun p hp => ?_⟩
    have : (candidateOf c a x).minimum = min p.minimum x.demand := by simp only [candidateOf, hp]
    exact this ▸ hmin ▸ (hserved.2 hadm).1

end Sys2Proof.Machine

namespace Sys2Proof.Machine

/-! ## What stays within its bounds (R61, R64, R118, R147, R149, R159)

The invariant reads a few parts of the state only: `Tally` gathers them, and an operation that leaves the tally leaves the
invariant. -/

/-- The part of the state that the bounds speak of. -/
structure Tally where
  table : List Session
  messages : List AllocatorMessage
  results : List AllocationResult
  handovers : List Handover
  queue : ReceiptQueue
  log : DiscrepancyLog
  ring : ℕ

def State.tally (s : State) : Tally :=
  { table := s.sessions.table, messages := s.events.allocatorMessages, results := s.events.resultsToField,
    handovers := s.events.handovers, queue := s.queue, log := s.metering.log, ring := s.builder.ringPosition }

/-- R64, R65: a result names no port twice, and only ports there are. -/
def AllocationResult.PortsFit (r : AllocationResult) : Prop :=
  (r.targets.map PortTarget.port).Nodup ∧ ∀ g ∈ r.targets, 1 ≤ g.port ∧ g.port ≤ 32

/-- R86: a hand-over names no inverter twice, and only inverters there are. -/
def Handover.LimitsFit (h : Handover) : Prop := (h.limits.map Prod.fst).Nodup ∧ ∀ x ∈ h.limits, 1 ≤ x.1 ∧ x.1 ≤ 4

structure Tally.Wf (y : Tally) : Prop where
  queue : y.queue.Wf
  log : y.log.Wf
  deferrals : ∀ x ∈ y.table, x.deferral ≤ 15
  counts : ∀ m ∈ y.messages, m.countsFit = true
  ring : y.ring < 16
  names : ∀ m ∈ y.messages, m.namesOnce = true
  results : ∀ r ∈ y.results, r.PortsFit
  handovers : ∀ h ∈ y.handovers, h.LimitsFit

/-- The invariant of the receipt queue, the log, the counts and the events on their way. -/
def State.Bounded (s : State) : Prop := s.tally.Wf

theorem State.bounded_iff (s : State) : s.Bounded ↔ s.queue.Wf ∧ s.metering.log.Wf ∧ s.CountsWf ∧ s.EventsWf :=
  ⟨fun ⟨q, g, d, m, k, n, r, h⟩ => ⟨q, g, ⟨d, m, k⟩, n, r, h⟩, fun ⟨q, g, ⟨d, m, k⟩, n, r, h⟩ => ⟨q, g, d, m, k, n, r, h⟩⟩

/-! ### The tally under each operation of the state -/

section
variable (s : State)

@[simp] theorem State.tally_setLinks (x : LinkController) : (s.setLinks x).tally = s.tally := rfl
@[simp] theorem State.tally_setField (x : FieldLinkController) : (s.setField x).tally = s.tally := rfl
@[simp] theorem State.tally_setBalance (x : SiteBalanceUnit) : (s.setBalance x).tally = s.tally := rfl
@[simp] theorem State.tally_setDispatch (x : BatteryDispatchUnit) : (s.setDispatch x).tally = s.tally := rfl
@[simp] theorem State.tally_setAllocator (x : PowerAllocator) : (s.setAllocator x).tally = s.tally := rfl
@[simp] theorem State.tally_setStore (x : TariffStore) : (s.setStore x).tally = s.tally := rfl
@[simp] theorem State.tally_reach (n : ℕ) : (s.reach n).tally = s.tally := rfl
@[simp] theorem State.tally_draws (n : ℕ) : { s with draws := n }.tally = s.tally := rfl
@[simp] theorem State.tally_raise (k : NoticeKind) (d : ℕ) : (s.raise k d).tally = s.tally := rfl

@[simp] theorem State.tally_sendReport (x : Report) : (s.sendReport x).tally = s.tally := rfl
@[simp] theorem State.tally_sendHealth (x : HealthChange) : (s.sendHealth x).tally = s.tally := rfl
@[simp] theorem State.tally_sendChargerHealth (x : HealthChange) : (s.sendChargerHealth x).tally = s.tally := rfl
@[simp] theorem State.tally_sendChargerReport (x : ChargerReport) : (s.sendChargerReport x).tally = s.tally := rfl
@[simp] theorem State.tally_sendReading (x : MeterReading) : (s.sendReading x).tally = s.tally := rfl
@[simp] theorem State.tally_sendReadingApplied (x : ReadingApplied) : (s.sendReadingApplied x).tally = s.tally := rfl
@[simp] theorem State.tally_sendBatteryReport (x : ReportValues) : (s.sendBatteryReport x).tally = s.tally := rfl
@[simp] theorem State.tally_sendFreshness (x : Bool) : (s.sendFreshness x).tally = s.tally := rfl
@[simp] theorem State.tally_sendSiteChange (x : SiteChange) : (s.sendSiteChange x).tally = s.tally := rfl
@[simp] theorem State.tally_sendAllowance (x : ℕ) : (s.sendAllowance x).tally = s.tally := rfl
@[simp] theorem State.tally_sendEarlyRequest : s.sendEarlyRequest.tally = s.tally := rfl
@[simp] theorem State.tally_sendResultApplied : s.sendResultApplied.tally = s.tally := rfl
@[simp] theorem State.tally_sendChargerTarget (x : ChargerTarget) : (s.sendChargerTarget x).tally = s.tally := rfl
@[simp] theorem State.tally_sendActivation (x : ℕ) : (s.sendActivation x).tally = s.tally := rfl
@[simp] theorem State.tally_sendHandOver (x : ℕ) : (s.sendHandOver x).tally = s.tally := rfl
@[simp] theorem State.tally_sendStoreFree : s.sendStoreFree.tally = s.tally := rfl
@[simp] theorem State.tally_sendRoom : s.sendRoom.tally = s.tally := rfl

/-! ### The Site Balance Unit, the field link and the Tariff Store leave the tally -/

@[simp] theorem State.tally_recompute : s.recompute.tally = s.tally := by rw [s.recompute_eq]; rfl

@[simp] theorem State.tally_changeSite (n : SiteState) : (s.changeSite n).tally = s.tally := by simp [State.changeSite]

@[simp] theorem State.tally_followGrid (g : Option Bool) : (s.followGrid g).tally = s.tally := by
  unfold State.followGrid
  split
  case h_2 => split <;> simp
  all_goals simp [State.enterIsland, State.enterRestoring]

@[simp] theorem State.tally_checkOverrun (w : ℤ) (b : Bool) : (s.checkOverrun w b).tally = s.tally := by
  unfold State.checkOverrun; split <;> simp

@[simp] theorem State.tally_freshen (a b : Bool) : (s.freshen a b).tally = s.tally := by
  unfold State.freshen; split <;> simp

@[simp] theorem State.tally_takeReport (r : Report) : (s.takeReport r).tally = s.tally := by
  unfold State.takeReport; split <;> simp

@[simp] theorem State.tally_makeStale (u : ℕ) : (s.makeStale u).tally = s.tally := by
  unfold State.makeStale; split_ifs <;> simp

@[simp] theorem State.tally_takeHealth (h : HealthChange) : (s.takeHealth h).tally = s.tally := by
  unfold State.takeHealth; split_ifs <;> simp [State.startPhantom, State.endPhantom]

@[simp] theorem State.tally_evaluateAllowance : s.evaluateAllowance.tally = s.tally := by
  rw [s.evaluateAllowance_eq]; rfl

@[simp] theorem State.tally_healthChanged (u : ℕ) (a b : Health) : (s.healthChanged u a b).tally = s.tally := by
  simp only [State.healthChanged]; split_ifs <;> simp

@[simp] theorem State.tally_handReport (u : ℕ) (p : List Byte) (n : ℕ) : (s.handReport u p n).tally = s.tally := by
  simp only [State.handReport]; split_ifs <;> simp

@[simp] theorem State.tally_replyValid (t : Transaction) (p : List Byte) : (s.replyValid t p).tally = s.tally := by
  simp only [State.replyValid]; split <;> simp

@[simp] theorem State.tally_replyMissed (t : Transaction) : (s.replyMissed t).tally = s.tally := by
  simp only [State.replyMissed]; split <;> simp

@[simp] theorem State.tally_roomIf (n : ℕ) : (s.roomIf n).tally = s.tally := by
  unfold State.roomIf; split <;> simp

@[simp] theorem State.tally_stopOperation (op : StoreOperation) : (s.stopOperation op).tally = s.tally := rfl

@[simp] theorem State.tally_completeOperation (op : StoreOperation) (v : Bool) :
    (s.completeOperation op v).tally = s.tally := rfl

@[simp] theorem State.tally_abortOperation : s.abortOperation.tally = s.tally := by
  unfold State.abortOperation; split <;> simp

@[simp] theorem State.tally_lockoutAlone (sent p : ℕ) : (s.lockoutAlone sent p).tally = s.tally := by
  obtain ⟨targets, h, -⟩ := s.lockoutAlone_eq sent p
  rw [h]
  rfl

@[simp] theorem State.tally_noticeUrgent (n : ℕ) (a b : SessionClass) : (s.noticeUrgent n a b).tally = s.tally := by
  unfold State.noticeUrgent; split <;> rfl

@[simp] theorem State.tally_setPortState (p : ℕ) (st : PortState) : (s.setPortState p st).tally = s.tally := rfl

end

/-! ### What is within bounds stays there -/

section
variable {s t : State}

theorem State.Bounded.of_tally (hs : s.Bounded) (h : t.tally = s.tally) : t.Bounded := (congrArg Tally.Wf h).mpr hs

theorem bounded_unlinked : Unlinked State.Bounded := ⟨fun _ _ hs => hs, fun _ hs => hs, fun _ hs => hs⟩

namespace State.Bounded

theorem done (hs : s.Bounded) : Reaches State.Bounded (Machine.done s) := bounded_unlinked.reaches_done hs

/-- A command that acts and leaves the tally. -/
theorem done_of_tally (hs : s.Bounded) (h : t.tally = s.tally) : Reaches State.Bounded (Machine.done t) :=
  (hs.of_tally h).done

theorem setStore (hs : s.Bounded) (t : TariffStore) : (s.setStore t).Bounded := hs

theorem setAllocator (hs : s.Bounded) (a : PowerAllocator) : (s.setAllocator a).Bounded := hs

theorem raise (hs : s.Bounded) (k : NoticeKind) (data : ℕ) : (s.raise k data).Bounded := hs

theorem setBuilder (hs : s.Bounded) {b : ReceiptBuilder} (hb : b.ringPosition < 16) : (s.setBuilder b).Bounded :=
  { hs with ring := hb }

theorem setMetering (hs : s.Bounded) {m : MeteringUnit} (hm : m.log.Wf) : (s.setMetering m).Bounded := { hs with log := hm }

theorem setQueue (hs : s.Bounded) {q : ReceiptQueue} (hq : q.Wf) : (s.setQueue q).Bounded := { hs with queue := hq }

theorem sessions (hs : s.Bounded) {c : SessionController} (hc : ∀ x ∈ c.table, x.deferral ≤ 15) :
    (s.setSessions c).Bounded := { hs with deferrals := hc }

/-- Any change of the Session Controller that leaves the table as it is. -/
theorem sameTable (hs : s.Bounded) {c : SessionController} (hc : c.table = s.sessions.table) : (s.setSessions c).Bounded :=
  hs.sessions (by rw [hc]; exact hs.deferrals)

theorem update (hs : s.Bounded) (n : ℕ) {f : Session → Session} (hf : ∀ x, x.deferral ≤ 15 → (f x).deferral ≤ 15) :
    (s.setSessions (s.sessions.update n f)).Bounded := by
  refine hs.sessions fun y hy => ?_
  obtain ⟨x, hx, rfl⟩ := List.mem_map.1 hy
  split
  · exact hf x (hs.deferrals x hx)
  · exact hs.deferrals x hx

/-- R12, R14, R25: no transition changes a deferral count. -/
theorem transition (hs : s.Bounded) (n : ℕ) {f : Session → Session} (hf : ∀ x, (f x).deferral = x.deferral) :
    (s.transition n f).Bounded := by
  unfold State.transition
  split
  · exact hs
  · rename_i x hx
    refine (hs.update n (f := fun _ => carryTimers s.runTime s.sessions.dormantDelay x (f x)) fun _ _ => ?_).of_tally ?_
    · exact (hf x).trans_le (hs.deferrals x (find_spec hx).1)
    · simp only [State.noticeOnChange, State.requestOnChange, State.pauseOnLeaving]
      split_ifs <;> rfl

end State.Bounded

theorem Session.addHold_deferral (x : Session) (r : HoldReason) : (x.addHold r).deferral = x.deferral := by
  rw [Session.addHold_eq]; split_ifs <;> rfl

theorem Session.removeHold_deferral (x : Session) (r : HoldReason) : (x.removeHold r).deferral = x.deferral := by
  rw [Session.removeHold_eq]; split_ifs <;> rfl

theorem Session.authorize_deferral (x : Session) (who : Authorizer) (customer : Text) (departure : Option ℕ) (slot : ℕ)
    (reading : Option ℕ) (clock : SiteClock) :
    (x.authorize who customer departure slot reading clock).deferral = x.deferral := by
  simp only [Session.authorize, Session.afterAuthorization]; split <;> rfl

theorem Session.applyDelta_deferral (x : Session) (k : Checked) (m : Mix) : (x.applyDelta k m).deferral = x.deferral := by
  unfold Session.applyDelta Session.discrepant
  split
  · split <;> rfl
  · rfl

theorem Session.unnamed_deferral (x : Session) (es : List CandidateEntry) : (x.unnamed es).deferral = x.deferral := by
  unfold Session.unnamed; split <;> rfl

namespace State.Bounded

/-! #### The Session Controller -/

theorem setPortState (hs : s.Bounded) (p : ℕ) (st : PortState) : (s.setPortState p st).Bounded := hs

theorem holdPort (hs : s.Bounded) (p : ℕ) (r : HoldReason) (add : Bool) : (s.holdPort p r add).Bounded := by
  unfold State.holdPort
  split
  · exact hs
  · cases add
    · exact hs.transition _ fun x => x.removeHold_deferral r
    · exact hs.transition _ fun x => x.addHold_deferral r

theorem applyFault (hs : s.Bounded) (p : ℕ) (fault : Bool) : (s.applyFault p fault).Bounded := by
  have hset : (s.setSessions (s.sessions.setRecord p { s.sessions.record p with fault := fault })).Bounded :=
    hs.sameTable rfl
  simp only [State.applyFault]
  split_ifs
  · exact hset
  · exact (hset.of_tally (State.tally_raise ..)).holdPort _ _ _
  · exact hset.holdPort _ _ _

theorem applyDemand (hs : s.Bounded) (p : ℕ) : (s.applyDemand p).Bounded := by
  unfold State.applyDemand
  split
  · exact hs
  · exact hs.transition _ fun _ => rfl

theorem authorizeSession (hs : s.Bounded) (n : ℕ) (who : Authorizer) (customer : Text) (departure : Option ℕ) :
    (s.authorizeSession n who customer departure).Bounded := by
  unfold State.authorizeSession
  split
  · exact (hs.setStore _).transition _ fun x => x.authorize_deferral ..
  · exact hs

theorem freeVend (hs : s.Bounded) (n : ℕ) : (s.freeVend n).Bounded := by
  unfold State.freeVend
  split
  · exact hs
  · split
    · exact hs.authorizeSession ..
    · exact hs

/-- R7: a new session has been deferred by no round. -/
theorem createSession (hs : s.Bounded) (p : ℕ) : (s.createSession p).Bounded := by
  rw [State.createSession_eq, State.openSession]
  refine freeVend (raise (setPortState (hs.sessions fun x hx => ?_) _ _) _ _) _
  obtain hx | hx := List.mem_append.1 hx
  · exact hs.deferrals x hx
  · rw [List.mem_singleton.1 hx]
    exact Nat.zero_le _

theorem serveWaiting (hs : s.Bounded) : s.serveWaiting.Bounded := by
  unfold State.serveWaiting
  split
  · exact hs
  · split
    · exact hs
    · exact (hs.sameTable (by rfl)).createSession _

theorem removeSession (hs : s.Bounded) (n : ℕ) : (s.removeSession n).Bounded :=
  hs.sessions fun x hx => hs.deferrals x (List.mem_of_mem_filter hx)

theorem abandon (hs : s.Bounded) (x : Session) (st : PortState) : (s.abandon x st).Bounded :=
  serveWaiting ((hs.removeSession x.number).of_tally rfl)

theorem completeClosing (hs : s.Bounded) (x : Session) (connected estimated : Bool) :
    (s.completeClosing x connected estimated).Bounded :=
  State.Bounded.of_tally (hs.update x.number (f := fun y => y.close s.links.clock estimated) fun _ => id) rfl

theorem tryComplete (hs : s.Bounded) (p : ℕ) : (s.tryComplete p).Bounded := by
  unfold State.tryComplete
  split
  · exact hs
  · split
    · split
      · exact hs.completeClosing _ _ _
      · exact hs
    · exact hs

theorem applyToSession (hs : s.Bounded) (x : Session) (r : ChargerReport) : (s.applyToSession x r).Bounded := by
  have hfinal : ∀ f : FinalReport, ((s.transition x.number fun y => y.takeFinal f).tryComplete r.port).Bounded := fun f =>
    (hs.transition _ fun x => by rfl).tryComplete _
  unfold State.applyToSession
  cases x.state with
  | plugged =>
    simp only
    split
    · exact hs
    · exact hs.abandon _ _
  | active | dormant | held =>
    simp only
    split
    · exact hs
    · exact hfinal _
  | closing =>
    simp only
    split
    · exact hfinal _
    · exact hs
  | pricing | waitQueue => exact hs

theorem applyConnection (hs : s.Bounded) (r : ChargerReport) : (s.applyConnection r).Bounded := by
  unfold State.applyConnection
  split
  · split
    · exact hs.of_tally rfl
    · exact hs.createSession _
  · exact hs.of_tally rfl
  · exact hs.of_tally rfl
  · split
    · exact hs
    · exact hs.applyToSession _ _
  · exact hs

theorem takeChargerReport (hs : s.Bounded) (r : ChargerReport) : (s.takeChargerReport r).Bounded := by
  unfold State.takeChargerReport
  split
  · exact hs
  · refine State.Bounded.of_tally ?_ (State.tally_lockoutAlone ..)
    exact (((hs.sameTable (by rfl)).applyFault _ _).applyDemand _).applyConnection _

theorem noticeUrgent (hs : s.Bounded) (n : ℕ) (a b : SessionClass) : (s.noticeUrgent n a b).Bounded :=
  hs.of_tally (s.tally_noticeUrgent n a b)

/-- R13, R61: the count of an entry is within bounds. -/
theorem takeEntry (hs : s.Bounded) {e : CandidateEntry} (he : e.count ≤ 15) : (s.takeEntry e).Bounded := by
  unfold State.takeEntry
  split
  · exact hs
  · split
    · exact noticeUrgent (hs.update _ fun x _ => by exact he) _ _ _
    · exact hs

theorem takeEntries (hs : s.Bounded) {es : List CandidateEntry} (he : ∀ e ∈ es, e.count ≤ 15) :
    (es.foldl State.takeEntry s).Bounded := by
  induction es generalizing s with
  | nil => exact hs
  | cons e es ih =>
    obtain ⟨he, hes⟩ := List.forall_mem_cons.1 he
    exact ih (hs.takeEntry he) hes

theorem takeResult (hs : s.Bounded) {r : AllocationResult} (hr : (AllocatorMessage.result r).countsFit = true) :
    (s.takeResult r).Bounded := by
  have hcount : ∀ e ∈ r.entries, e.count ≤ 15 := by simpa [AllocatorMessage.countsFit] using hr
  have hf := hs.takeEntries hcount
  refine State.Bounded.of_tally (hf.sessions (c := { (r.entries.foldl State.takeEntry s).sessions with table := _ })
    fun y hy => ?_) (State.tally_sendResultApplied _)
  obtain ⟨x, hx, rfl⟩ := List.mem_map.1 hy
  exact (x.unnamed_deferral r.entries).trans_le (hf.deferrals x hx)

theorem reclassify (hs : s.Bounded) (high urgent n : ℕ) : (s.reclassify high urgent n).Bounded := by
  unfold State.reclassify
  split
  · exact hs
  · exact noticeUrgent (hs.update n fun x hx => by exact hx) _ _ _

theorem followSite (hs : s.Bounded) (c : SiteChange) : (s.followSite c).Bounded := by
  unfold State.followSite
  split_ifs
  · exact foldl_keeps (P := State.Bounded) (fun n hs => hs.transition n fun x => x.addHold_deferral _) _ hs
  · exact foldl_keeps (P := State.Bounded) (fun n hs => hs.transition n fun x => x.removeHold_deferral _) _ hs
  · exact hs

/-! #### Pricing and receipts (R144, R147, R149) -/

/-- R149, R150: a queue that is not full takes one receipt more. -/
theorem takeReceipt (hs : s.Bounded) (hroom : s.queue.isFull = false) (r : Receipt) : (s.takeReceipt r).Bounded := by
  have hlen : s.queue.retained.length < 64 := by simpa [ReceiptQueue.isFull] using hroom
  have hpush : (s.queue.push r).Wf := by
    obtain ⟨-, hread, hmark, hlevels⟩ := hs.queue
    have hgrown : (s.queue.push r).retained.length = s.queue.retained.length + 1 := by simp [ReceiptQueue.push]
    exact ⟨hgrown.trans_le hlen, hread.trans (hgrown ▸ Nat.le_succ _), hmark, hlevels⟩
  refine (hs.setQueue hpush).of_tally ?_
  simp only [State.takeReceipt]
  split_ifs <;> rfl

theorem leaveTable (hs : s.Bounded) (n : ℕ) : (s.leaveTable n).Bounded :=
  serveWaiting ((hs.removeSession n).of_tally rfl)

theorem placeReceipt (hs : s.Bounded) (n : ℕ) (r : Receipt) : (s.placeReceipt n r).Bounded := by
  unfold State.placeReceipt
  split
  · rename_i h
    exact (hs.takeReceipt h.2 r).leaveTable n
  · exact (hs.setBuilder (by exact hs.ring)).transition n fun x => by rfl

theorem priceSession (hs : s.Bounded) (x : Session) : (s.priceSession x).Bounded :=
  ((hs.setStore _).setBuilder (Nat.mod_lt _ (by decide))).placeReceipt _ _

theorem takeHandOver (hs : s.Bounded) (n : ℕ) : (s.takeHandOver n).Bounded := by
  unfold State.takeHandOver
  split
  · exact hs
  · split
    · split
      · exact hs.priceSession _
      · exact (hs.setBuilder (by exact hs.ring)).transition n fun x => by rfl
    · exact hs

theorem priceHead (hs : s.Bounded) (n : ℕ) : (s.priceHead n).Bounded := by
  have hb : (s.setBuilder { s.builder with pricing := s.builder.pricing.drop 1 }).Bounded := hs.setBuilder (by exact hs.ring)
  simp only [State.priceHead]
  split
  · exact hb
  · split
    · exact hb.priceSession _
    · exact hb

theorem drain (fuel : ℕ) (hs : s.Bounded) : (State.drain fuel s).Bounded := by
  induction fuel generalizing s with
  | zero => exact hs
  | succ fuel ih =>
    unfold State.drain
    split
    · exact hs
    · split
      · exact hs
      · rename_i h
        exact ih (leaveTable (takeReceipt (hs.setBuilder (by exact hs.ring)) (by exact Bool.eq_false_iff.2 h) _) _)

/-! #### Readings (R107, R118) -/

end State.Bounded

/-- R118: a discrepancy more in the log. -/
theorem DiscrepancyLog.Wf.add {g : DiscrepancyLog} (h : g.Wf) (d : Discrepancy) : (g.add d).Wf := by
  obtain ⟨hminor, hmajor, hlock⟩ := h
  unfold DiscrepancyLog.add
  split
  · rename_i hk _
    exact ⟨min_le_left _ _, hmajor, by simp [DiscrepancyLog.lockFits, hk]⟩
  · exact ⟨min_le_left _ _, hmajor, hlock⟩
  · exact ⟨hminor, min_le_left _ _, hlock⟩
  · rename_i hk _
    exact ⟨hminor, min_le_left _ _, by simp [DiscrepancyLog.lockFits, hk]⟩

namespace State.Bounded

theorem logDiscrepancy (hs : s.Bounded) (d : Discrepancy) : (s.logDiscrepancy d).Bounded :=
  (hs.setMetering (DiscrepancyLog.Wf.add hs.log d)).raise _ _

theorem applyReading (hs : s.Bounded) (r : MeterReading) (reading last since : ℕ) :
    (s.applyReading r reading last since).Bounded := by
  have hmid : ∀ (o : Option Session) (k : Checked) (m : MeteringUnit), m.log = s.metering.log →
      (match o with
        | none => s.setMetering m
        | some x => (s.setMetering m).setSessions ((s.setMetering m).sessions.update x.number fun y =>
            y.applyDelta k s.balance.record.mix)).Bounded := by
    intro o k m hm
    have hset : (s.setMetering m).Bounded := hs.setMetering (by rw [hm]; exact hs.log)
    cases o with
    | none => exact hset
    | some x => exact hset.update _ fun y hy => (y.applyDelta_deferral k _).trans_le hy
  simp only [State.applyReading]
  split
  · exact hmid _ _ _ rfl
  · exact logDiscrepancy (hmid _ _ _ (by rfl)) _

theorem applyFirstReading (hs : s.Bounded) (r : MeterReading) (reading : ℕ) : (s.applyFirstReading r reading).Bounded := by
  simp only [State.applyFirstReading]
  split
  · exact hs
  · exact (hs.setMetering (by exact hs.log)).update _ fun x hx => by exact hx

theorem takeReading (hs : s.Bounded) (r : MeterReading) : (s.takeReading r).Bounded := by
  simp only [State.takeReading]
  refine State.Bounded.of_tally ?_ (State.tally_sendReadingApplied ..)
  split
  · exact hs
  · split
    · exact hs.applyFirstReading _ _
    · exact hs.applyReading _ _ _ _

/-! #### Commands of the Battery Dispatch Unit (R86) -/

/-- R86: the limits handed over are those of the present inverters, each once. -/
theorem computeCommand (hs : s.Bounded) (t : DispatchTrigger) : (s.computeCommand t).Bounded := by
  have hlimits : ∀ b : ℕ → ℕ × ℕ, (∀ k, (b k).1 = k) → (((presentInverters s.field).map b).map Prod.fst).Nodup ∧
      ∀ x ∈ (presentInverters s.field).map b, 1 ≤ x.1 ∧ x.1 ≤ 4 := by
    intro b hb
    have hid : Prod.fst ∘ b = id := funext hb
    have hsub : (presentInverters s.field).Sublist [1, 2, 3, 4] := List.filter_sublist
    refine ⟨?_, fun x hx => ?_⟩
    · rw [List.map_map, hid, List.map_id]
      exact hsub.nodup (by decide)
    · obtain ⟨k, hk, rfl⟩ := List.mem_map.1 hx
      rw [hb]
      have : ∀ k ∈ [1, 2, 3, 4], 1 ≤ k ∧ k ≤ 4 := by decide
      exact this k (hsub.subset hk)
  rw [s.computeCommand_eq]
  exact { hs with
    handovers := List.forall_mem_append.2 ⟨hs.handovers, List.forall_mem_singleton.2 (hlimits _ fun _ => rfl)⟩ }

theorem checkStanding (hs : s.Bounded) : s.checkStanding.Bounded := by
  unfold State.checkStanding
  split
  · exact hs
  · exact hs.computeCommand _

theorem evaluateAllowance (hs : s.Bounded) : s.evaluateAllowance.Bounded := hs.of_tally s.tally_evaluateAllowance

theorem applyUrgent (hs : s.Bounded) (n : ℕ) : (s.applyUrgent n).Bounded := by
  have he : (s.setDispatch { s.dispatch with urgent := decide (0 < n) }).evaluateAllowance.Bounded :=
    State.Bounded.evaluateAllowance hs
  simp only [State.applyUrgent]
  split_ifs
  · exact hs
  · exact he
  · exact he.checkStanding

/-! #### Rounds (R54, R61, R64, R65) -/

end State.Bounded

theorem newCount_le (site : SiteState) {x : Candidate} (h : x.count ≤ 15) : newCount site x ≤ 15 := by
  unfold newCount
  split
  · split_ifs
    · exact (Nat.sub_le _ _).trans h
    · exact h
    · exact min_le_left _ _
  · exact h

/-- What a round publishes, of sessions within bounds. -/
theorem roundResult_fits {c : SessionController} {a : PowerAllocator} {r : BalanceRecord}
    (hn : (c.table.map Session.number).Nodup) (hc : ∀ x ∈ c.table, x.deferral ≤ 15) :
    (AllocatorMessage.result (roundResult c a r)).countsFit = true ∧
      (AllocatorMessage.result (roundResult c a r)).namesOnce = true ∧ (roundResult c a r).PortsFit := by
  obtain ⟨left, hd, -⟩ := allocateAll_dealing (a := a) (r := r) hn
  have hport : ∀ p, (portTargetOf c (allocateAll c a r) p).port = p := fun p => by
    rw [portTargetOf]
    split <;> rfl
  refine ⟨?_, ?_, ?_, fun g hg => ?_⟩
  · simp only [AllocatorMessage.countsFit, List.all_eq_true, decide_eq_true_eq]
    intro e he
    obtain ⟨y, hy, rfl⟩ := List.mem_map.1 he
    obtain ⟨x, hx, -, hxy⟩ := mem_allocateAll hn hy
    have hcount : x.deferral = y.count := (congrArg Candidate.count hxy :)
    exact newCount_le _ (hcount ▸ hc x hx)
  · rw [AllocatorMessage.namesOnce, decide_eq_true_eq]
    show (((allocateAll c a r).map _).map _).Nodup
    rw [List.map_map]
    exact hd.distinct
  · show ((c.presentPorts.map _).map _).Nodup
    rw [List.map_map, show PortTarget.port ∘ portTargetOf c (allocateAll c a r) = id from funext hport, List.map_id]
    exact (List.nodup_range' (step := 1)).sublist List.filter_sublist
  · obtain ⟨p, hp, rfl⟩ := List.mem_map.1 hg
    have hp := List.mem_range'_1.1 (List.mem_of_mem_filter hp)
    rw [hport]
    omega

namespace State.Bounded

theorem takeRound (hs : s.Bounded) (hn : (s.sessions.table.map Session.number).Nodup) : s.takeRound.Bounded := by
  obtain ⟨hcount, hname, hports⟩ := roundResult_fits (a := s.allocator) (r := s.balance.record) hn hs.deferrals
  exact { hs with
    counts := List.forall_mem_append.2 ⟨hs.counts, List.forall_mem_singleton.2 hcount⟩
    names := List.forall_mem_append.2 ⟨hs.names, List.forall_mem_singleton.2 hname⟩
    results := List.forall_mem_append.2 ⟨hs.results, List.forall_mem_singleton.2 hports⟩ }

theorem roundOrPend (hs : s.Bounded) (hn : (s.sessions.table.map Session.number).Nodup) : s.roundOrPend.Bounded := by
  unfold State.roundOrPend
  split
  · exact hs.takeRound hn
  · exact hs

theorem takeEarly (hs : s.Bounded) (hn : (s.sessions.table.map Session.number).Nodup) : s.takeEarly.Bounded := by
  unfold State.takeEarly
  split_ifs
  · exact hs
  · exact hs
  · exact hs.roundOrPend hn

theorem takeApplied (hs : s.Bounded) (hn : (s.sessions.table.map Session.number).Nodup) : s.takeApplied.Bounded := by
  simp only [State.takeApplied]
  split_ifs
  · exact hs
  · exact State.Bounded.takeRound hs hn
  · exact hs

end State.Bounded

end

end Sys2Proof.Machine

namespace Sys2Proof.Machine

/-! ### Requests -/

section
variable {s : State}

/-- A handler that leaves the tally. -/
theorem answers_of_tally {α : Type} {al : Allowed} {handle : State → α → Handled}
    (h : ∀ s f, (handle s f).state.tally = s.tally) : Answers State.Bounded State.Bounded al handle :=
  fun s f _ hs => hs.of_tally (h s f)

theorem tally_handleSetSite (s : State) (f : SiteFields) : (handleSetSite s f).state.tally = s.tally := by
  have hr : ∀ {u : State} (c : Prop) [Decidable c], u.tally = s.tally → (if c then u.recompute else u).tally = s.tally :=
    fun c _ hu => by
      split
      · exact (State.tally_recompute _).trans hu
      · exact hu
  simp only [handleSetSite, setBuilder_next_ite]
  split
  · exact hr _ rfl
  · rfl

theorem tally_handleSetFeeder (s : State) (f : FeederFields) : (handleSetFeeder s f).state.tally = s.tally := by
  unfold handleSetFeeder; split <;> rfl

theorem State.tally_configurePort (s : State) (p : ℕ) (e : Option PortEntry) : (s.configurePort p e).tally = s.tally := by
  cases e <;> rfl

theorem tally_handleSetPort (s : State) (f : PortFields) : (handleSetPort s f).state.tally = s.tally := by
  unfold handleSetPort
  split
  · rfl
  · split
    · split
      · rfl
      · split
        · exact s.tally_configurePort f.port (some _)
        · exact s.tally_configurePort f.port none
    · rfl

theorem tally_handleSetUnit (s : State) (f : UnitFields) : (handleSetUnit s f).state.tally = s.tally := by
  unfold handleSetUnit
  split
  · rfl
  · split_ifs <;> rfl

theorem tally_handleSetTimers (s : State) (f : TimerFields) : (handleSetTimers s f).state.tally = s.tally := by
  simp only [handleSetTimers]; split <;> rfl

theorem tally_handleSetNoticeRoute (s : State) (f : RouteFields) : (handleSetNoticeRoute s f).state.tally = s.tally := by
  unfold handleSetNoticeRoute
  split
  · rfl
  · split <;> rfl

theorem tally_handleSetTillAccess (s : State) (f : TillFields) : (handleSetTillAccess s f).state.tally = s.tally := by
  unfold handleSetTillAccess; split <;> rfl

theorem tally_handleSetTime (s : State) (time : ℕ) : (handleSetTime s time).state.tally = s.tally := by
  unfold handleSetTime; split <;> rfl

theorem tally_startOperation (s : State) (slot : ℕ) (kind : StoreKind) (image : List Byte) :
    (startOperation s slot kind image).state.tally = s.tally := by
  unfold startOperation; split <;> rfl

theorem tally_handleProgramTariff (s : State) (f : ProgramFields) : (handleProgramTariff s f).state.tally = s.tally := by
  unfold handleProgramTariff
  split
  · exact tally_startOperation ..
  · rfl

theorem tally_handleEraseTariff (s : State) (slot : ℕ) : (handleEraseTariff s slot).state.tally = s.tally := by
  unfold handleEraseTariff
  split
  · exact tally_startOperation ..
  · rfl

theorem tally_handleActivateTariff (s : State) (slot : ℕ) : (handleActivateTariff s slot).state.tally = s.tally := by
  unfold handleActivateTariff; split_ifs <;> rfl

/-- R168: ports and field link are made ready, the site state changes; no session, receipt or result comes of it. -/
theorem tally_handleGoLive (s : State) (f : Unit) : (handleGoLive s f).state.tally = s.tally := by
  have htable : s.sessions.freePorts.table = s.sessions.table := s.sessions.freePorts_spec.1.1
  unfold handleGoLive
  split
  · rfl
  · refine (State.tally_changeSite _ _).trans ?_
    show ({ s.tally with table := s.sessions.freePorts.table } : Tally) = s.tally
    rw [htable]
    rfl

theorem bounded_handleSetBatteryPolicy : Answers State.Bounded State.Bounded .always handleSetBatteryPolicy := by
  intro s f _ hs
  simp only [handleSetBatteryPolicy, ok]
  split
  · split
    · refine State.Bounded.computeCommand ?_ _
      split
      · exact State.Bounded.evaluateAllowance (hs.of_tally (by rfl))
      · exact (State.Bounded.evaluateAllowance (hs.of_tally (by rfl))).checkStanding
    · exact hs
  · exact hs

/-- R63: the new watermarks on their way carry no count. -/
theorem bounded_handleSetWatermarks : Answers State.Bounded State.Bounded .always handleSetWatermarks := by
  intro s f _ hs
  simp only [handleSetWatermarks, ok]
  split_ifs
  · exact { hs with
      counts := List.forall_mem_append.2 ⟨hs.counts, List.forall_mem_singleton.2 rfl⟩
      names := List.forall_mem_append.2 ⟨hs.names, List.forall_mem_singleton.2 rfl⟩ }
  · exact hs
  · exact hs

theorem bounded_handleSetQueueLevels : Answers State.Bounded State.Bounded .always handleSetQueueLevels := by
  intro s f _ hs
  unfold handleSetQueueLevels
  split
  · rename_i hin
    obtain ⟨hlen, hread, hmark, -⟩ := hs.queue
    exact hs.setQueue ⟨hlen, hread, hmark, hin⟩
  · exact hs

theorem State.Bounded.roomIf (hs : s.Bounded) (n : ℕ) : (s.roomIf n).Bounded := hs.of_tally (s.tally_roomIf n)

/-- R153: a read removes one receipt, or moves the read position past one that is there. -/
theorem bounded_handleReadReceipt : Answers State.Bounded State.Bounded .liveOnly handleReadReceipt := by
  intro s _ _ hs
  unfold handleReadReceipt
  split
  · exact hs
  · rename_i r hr
    have hlt : s.queue.read < s.queue.retained.length := (List.getElem?_eq_some_iff.1 hr).1
    refine (hs.setQueue ?_).roomIf _
    obtain ⟨hlen, hread, hmark, hlevels⟩ := hs.queue
    unfold ReceiptQueue.afterRead
    split
    · rename_i hm
      exact ⟨hlen, hlt, fun h => absurd (hm.symm.trans h) (by decide), hlevels⟩
    · rename_i hm
      have h0 : s.queue.read = 0 := hmark (Bool.eq_false_iff.2 hm)
      refine ⟨(List.length_eraseIdx_le ..).trans hlen, ?_, hmark, hlevels⟩
      show s.queue.read ≤ _
      rw [h0]
      exact Nat.zero_le _

/-- R151: the receipts before the read position removed. -/
theorem ReceiptQueue.Wf.dropDelivered {q : ReceiptQueue} (h : q.Wf) (mark : Bool) :
    { q.dropDelivered with mark := mark }.Wf := by
  obtain ⟨hlen, -, -, hlevels⟩ := h
  exact ⟨List.length_drop.trans_le ((Nat.sub_le _ _).trans hlen), Nat.zero_le _, fun _ => rfl, hlevels⟩

theorem bounded_handleSetMark : Answers State.Bounded State.Bounded .liveOnly handleSetMark := by
  intro s _ _ hs
  simp only [handleSetMark]
  refine (hs.setQueue ?_).roomIf _
  split
  · exact ReceiptQueue.Wf.dropDelivered hs.queue true
  · obtain ⟨hlen, hread, -, hlevels⟩ := hs.queue
    exact ⟨hlen, hread, nofun, hlevels⟩

theorem bounded_handleRewind : Answers State.Bounded State.Bounded .liveOnly handleRewind := by
  intro s _ _ hs
  simp only [handleRewind]
  split
  · obtain ⟨hlen, -, -, hlevels⟩ := hs.queue
    exact hs.setQueue ⟨hlen, Nat.zero_le _, fun _ => rfl, hlevels⟩
  · exact hs

theorem bounded_handleReleaseMark : Answers State.Bounded State.Bounded .liveOnly handleReleaseMark := by
  intro s _ _ hs
  unfold handleReleaseMark
  split
  · exact (hs.setQueue (ReceiptQueue.Wf.dropDelivered hs.queue false)).roomIf _
  · exact hs

theorem bounded_handleFlushQueue : Answers State.Bounded State.Bounded .liveOnly handleFlushQueue := by
  intro s _ _ hs
  obtain ⟨-, -, -, hlevels⟩ := hs.queue
  exact (hs.setQueue (q := { s.queue with retained := [], read := 0, mark := false })
    ⟨Nat.zero_le _, Nat.zero_le _, fun _ => rfl, hlevels⟩).roomIf _

theorem bounded_handleClearDiscrepancy : Answers State.Bounded State.Bounded .always handleClearDiscrepancy :=
  fun _ _ _ hs => hs.setMetering ⟨Nat.zero_le _, Nat.zero_le _, rfl⟩

/-- R121, R169: right after a reset nothing is counted and nothing is on its way. -/
theorem bounded_of_reset {t : State} (h : t.tally = State.reset.tally) : t.Bounded := by
  obtain ⟨-, -, hq, hg, hc, he, -⟩ := resetMeetsEveryInvariant
  exact (State.reset.bounded_iff.2 ⟨hq, hg, hc, he⟩).of_tally h

theorem bounded_handleRestart : Answers State.Bounded State.Bounded .always handleRestart := by
  intro s mode _ hs
  have hr : s.restart.Bounded := bounded_of_reset rfl
  unfold handleRestart
  split_ifs
  · exact hr
  · exact hs
  · exact hr
  · exact hs

theorem bounded_handleAuthorize (who : Authorizer) : Answers State.Bounded State.Bounded .liveOnly (handleAuthorize who) := by
  intro s f _ hs
  unfold handleAuthorize
  split
  · split
    · exact hs
    · split
      · exact hs
      · split
        · exact hs
        · exact hs.authorizeSession _ _ _ _
  · exact hs

theorem bounded_handleHold (add : Bool) : Answers State.Bounded State.Bounded .liveOnly (handleHold add) := by
  intro s p _ hs
  unfold handleHold
  split
  · split
    · exact hs
    · split
      · exact hs.holdPort _ _ _
      · exact hs
  · exact hs

theorem bounded_handleStopSession : Answers State.Bounded State.Bounded .liveOnly handleStopSession := by
  intro s n _ hs
  unfold handleStopSession
  split
  · exact hs
  · split
    · exact hs.transition n fun x => by rfl
    · exact hs

theorem bounded_handleSetDeparture : Answers State.Bounded State.Bounded .liveOnly handleSetDeparture := by
  intro s f _ hs
  unfold handleSetDeparture
  split
  · exact hs
  · split
    · exact hs.update _ fun x hx => by exact hx
    · exact hs

theorem bounded_handleLinkPurchase : Answers State.Bounded State.Bounded .liveOnly handleLinkPurchase := by
  intro s f _ hs
  simp only [handleLinkPurchase]
  split
  · split
    · exact hs
    · split_ifs
      · exact hs
      · exact hs
      · exact hs
      · exact hs.update _ fun x hx => by exact hx
  · exact hs

/-! ### Commands -/

namespace State.Bounded

theorem request (hs : s.Bounded) {α : Type} (l : Link) (kind tag : Byte) (till : Bool) {al : Allowed} (g : State → α → Bool)
    {handle : State → α → Handled} (p : Payload α) (hh : Answers State.Bounded State.Bounded al handle) :
    Reaches State.Bounded (serve l kind tag till al g handle p s) :=
  bounded_unlinked.serve bounded_unlinked (fun _ => id) l kind tag till g p hh hs

theorem execPowerOnReset (s : State) : Reaches State.Bounded (execPowerOnReset s) := (bounded_of_reset (by rfl)).done

theorem execPollEnd (hs : s.Bounded) : Reaches State.Bounded (execPollEnd s) := by
  unfold Machine.execPollEnd; split
  · exact reaches_nothing hs
  · split
    · exact reaches_nothing hs
    · exact hs.done_of_tally rfl

theorem execFieldReply (hs : s.Bounded) (f : FieldFrame) : Reaches State.Bounded (execFieldReply f s) := by
  unfold Machine.execFieldReply; split
  · exact reaches_nothing hs
  · split
    · exact reaches_nothing hs
    · split
      · exact hs.done_of_tally (State.tally_replyValid ..)
      · exact hs.done_of_tally (State.tally_replyMissed ..)

theorem execReplyTimeout (hs : s.Bounded) : Reaches State.Bounded (execReplyTimeout s) := by
  unfold Machine.execReplyTimeout; split
  · exact reaches_nothing hs
  · split
    · exact reaches_nothing hs
    · exact hs.done_of_tally (State.tally_replyMissed ..)

theorem execChargerReport (hs : s.Bounded) (p : ℕ) : Reaches State.Bounded (execChargerReport p s) := by
  unfold Machine.execChargerReport; split
  · exact reaches_nothing hs
  · exact (takeChargerReport (hs.of_tally (by rfl)) _).done

theorem execChargerTarget (hs : s.Bounded) (p : ℕ) : Reaches State.Bounded (execChargerTarget p s) := by
  unfold Machine.execChargerTarget; split
  · exact reaches_nothing hs
  · exact hs.done_of_tally rfl

theorem execReadingApplied (hs : s.Bounded) (p : ℕ) : Reaches State.Bounded (execReadingApplied p s) := by
  unfold Machine.execReadingApplied; split
  · exact reaches_nothing hs
  · exact (tryComplete (hs.of_tally (by rfl)) _).done

theorem execAuthorizationTimeout (hs : s.Bounded) (n : ℕ) : Reaches State.Bounded (execAuthorizationTimeout n s) := by
  unfold Machine.execAuthorizationTimeout; split
  · exact reaches_nothing hs
  · split
    · exact (abandon (hs.of_tally (by rfl)) _ _).done
    · exact reaches_nothing hs

theorem execDormantTimeout (hs : s.Bounded) (n : ℕ) : Reaches State.Bounded (execDormantTimeout n s) := by
  unfold Machine.execDormantTimeout; split
  · exact reaches_nothing hs
  · split
    · exact (transition (hs.of_tally (by rfl)) n fun x => by rfl).done
    · exact reaches_nothing hs

theorem execIdleSecondTick (hs : s.Bounded) (n : ℕ) : Reaches State.Bounded (execIdleSecondTick n s) := by
  unfold Machine.execIdleSecondTick; split
  · exact reaches_nothing hs
  · split
    · exact (update (hs.of_tally (by rfl)) n fun x hx => by exact hx).done
    · exact reaches_nothing hs

theorem execClosingTimeout (hs : s.Bounded) (n : ℕ) : Reaches State.Bounded (execClosingTimeout n s) := by
  unfold Machine.execClosingTimeout; split
  · exact reaches_nothing hs
  · split
    · exact (completeClosing (hs.of_tally (by rfl)) _ _ _).done
    · exact reaches_nothing hs

/-- The messages after the first one. -/
theorem tailMessages (hs : s.Bounded) {m : AllocatorMessage} {rest : List AllocatorMessage}
    (hm : s.events.allocatorMessages = m :: rest) : (s.setEvents { s.events with allocatorMessages := rest }).Bounded :=
  { hs with
    counts := fun x hx => hs.counts x (show x ∈ s.events.allocatorMessages from hm ▸ List.mem_cons_of_mem m hx)
    names := fun x hx => hs.names x (show x ∈ s.events.allocatorMessages from hm ▸ List.mem_cons_of_mem m hx) }

theorem execAllocationResultSessions (hs : s.Bounded) : Reaches State.Bounded (execAllocationResultSessions s) := by
  unfold Machine.execAllocationResultSessions; split
  · rename_i r rest hm
    refine ((hs.tailMessages hm).takeResult (hs.counts _ ?_)).done
    exact (show s.tally.messages = _ from hm) ▸ List.mem_cons_self
  · exact reaches_nothing hs

theorem execReclassification (hs : s.Bounded) : Reaches State.Bounded (execReclassification s) := by
  unfold Machine.execReclassification; split
  · rename_i high urgent rest hm
    exact (foldl_keeps (P := State.Bounded) (fun n hs => hs.reclassify high urgent n) _ (hs.tailMessages hm)).done
  · exact reaches_nothing hs

theorem execSiteStateChangeSessions (hs : s.Bounded) : Reaches State.Bounded (execSiteStateChangeSessions s) := by
  unfold Machine.execSiteStateChangeSessions; split
  · exact reaches_nothing hs
  · exact (followSite (hs.of_tally (by rfl)) _).done

theorem execChargerHealthChange (hs : s.Bounded) (p : ℕ) : Reaches State.Bounded (execChargerHealthChange p s) := by
  unfold Machine.execChargerHealthChange; split
  · exact reaches_nothing hs
  · exact (holdPort (hs.of_tally (by rfl)) _ _ _).done

theorem execActivationEvent (hs : s.Bounded) : Reaches State.Bounded (execActivationEvent s) := by
  unfold Machine.execActivationEvent; split
  · exact reaches_nothing hs
  · exact (foldl_keeps (P := State.Bounded) (fun n hs => hs.freeVend n) _ (hs.of_tally (by rfl))).done

theorem execReportArrival (hs : s.Bounded) (u : ℕ) : Reaches State.Bounded (execReportArrival u s) := by
  unfold Machine.execReportArrival; split
  · exact reaches_nothing hs
  · exact hs.done_of_tally (State.tally_takeReport ..)

theorem execStaleTimerExpiry (hs : s.Bounded) (u : ℕ) : Reaches State.Bounded (execStaleTimerExpiry u s) := by
  unfold Machine.execStaleTimerExpiry; split
  · exact reaches_nothing hs
  · exact hs.done_of_tally (State.tally_makeStale ..)

theorem execUnitHealthChange (hs : s.Bounded) (u : ℕ) : Reaches State.Bounded (execUnitHealthChange u s) := by
  unfold Machine.execUnitHealthChange; split
  · exact reaches_nothing hs
  · exact hs.done_of_tally (State.tally_takeHealth ..)

theorem execFallbackHoldExpiry (hs : s.Bounded) (p : ℕ) : Reaches State.Bounded (execFallbackHoldExpiry p s) := by
  unfold Machine.execFallbackHoldExpiry; split
  · exact reaches_nothing hs
  · split
    · exact reaches_nothing hs
    · exact hs.done_of_tally (State.tally_recompute _)

theorem execRestoreTimerExpiry (hs : s.Bounded) : Reaches State.Bounded (execRestoreTimerExpiry s) := by
  unfold Machine.execRestoreTimerExpiry; split
  · exact hs.done_of_tally (State.tally_changeSite ..)
  · exact reaches_nothing hs

theorem execDischargeAllowanceChange (hs : s.Bounded) : Reaches State.Bounded (execDischargeAllowanceChange s) := by
  unfold Machine.execDischargeAllowanceChange; split
  · exact reaches_nothing hs
  · exact hs.done_of_tally (State.tally_recompute _)

/-! #### Rounds: no two sessions have one number -/

theorem execEarlyRequest (hs : s.Bounded) (hn : (s.sessions.table.map Session.number).Nodup) :
    Reaches State.Bounded (execEarlyRequest s) := by
  unfold Machine.execEarlyRequest; split
  · exact reaches_nothing hs
  · rename_i n _
    have he : (s.setEvents { s.events with earlyRequests := n }).Bounded := hs
    refine State.Bounded.done ?_
    split
    · exact he.takeEarly hn
    · exact he

theorem execRoundPeriodExpiry (hs : s.Bounded) (hn : (s.sessions.table.map Session.number).Nodup) :
    Reaches State.Bounded (execRoundPeriodExpiry s) := by
  unfold Machine.execRoundPeriodExpiry; split
  · exact reaches_nothing hs
  · exact (roundOrPend (hs.of_tally (by rfl)) (by exact hn)).done

theorem execSpacingTimerExpiry (hs : s.Bounded) (hn : (s.sessions.table.map Session.number).Nodup) :
    Reaches State.Bounded (execSpacingTimerExpiry s) := by
  unfold Machine.execSpacingTimerExpiry; split
  · exact reaches_nothing hs
  · exact (roundOrPend (hs.of_tally (by rfl)) (by exact hn)).done

theorem execResultApplied (hs : s.Bounded) (hn : (s.sessions.table.map Session.number).Nodup) :
    Reaches State.Bounded (execResultApplied s) := by
  unfold Machine.execResultApplied; split
  · exact reaches_nothing hs
  · exact (takeApplied (hs.of_tally (by rfl)) (by exact hn)).done

/-! #### Results and hand-overs taken -/

theorem execAllocationResultField (hs : s.Bounded) : Reaches State.Bounded (execAllocationResultField s) := by
  unfold Machine.execAllocationResultField; split
  · exact reaches_nothing hs
  · rename_i r rest hr
    have hrest : (s.setEvents { s.events with resultsToField := rest }).Bounded := { hs with
      results := fun x hx => hs.results x (show x ∈ s.events.resultsToField from hr ▸ List.mem_cons_of_mem r hx) }
    exact hrest.done_of_tally rfl

theorem execDispatchHandover (hs : s.Bounded) : Reaches State.Bounded (execDispatchHandover s) := by
  unfold Machine.execDispatchHandover; split
  · exact reaches_nothing hs
  · rename_i h rest hh
    have hrest : (s.setEvents { s.events with handovers := rest }).Bounded := { hs with
      handovers := fun x hx => hs.handovers x (show x ∈ s.events.handovers from hh ▸ List.mem_cons_of_mem h hx) }
    split
    · exact hrest.done_of_tally rfl
    · exact reaches_nothing hs

theorem execAllocationResultDispatch (hs : s.Bounded) : Reaches State.Bounded (execAllocationResultDispatch s) := by
  unfold Machine.execAllocationResultDispatch; split
  · exact reaches_nothing hs
  · exact ((applyUrgent (hs.of_tally (by rfl)) _).computeCommand _).done

theorem execBatteryReport (hs : s.Bounded) : Reaches State.Bounded (execBatteryReport s) := by
  unfold Machine.execBatteryReport; split
  · exact reaches_nothing hs
  · exact (evaluateAllowance (hs.of_tally (by rfl))).checkStanding.done

theorem execBatteryFreshnessChange (hs : s.Bounded) : Reaches State.Bounded (execBatteryFreshnessChange s) := by
  unfold Machine.execBatteryFreshnessChange; split
  · exact reaches_nothing hs
  · exact (evaluateAllowance (hs.of_tally (by rfl))).checkStanding.done

theorem execSiteStateChangeDispatch (hs : s.Bounded) : Reaches State.Bounded (execSiteStateChangeDispatch s) := by
  unfold Machine.execSiteStateChangeDispatch; split
  · exact reaches_nothing hs
  · exact (computeCommand (hs.of_tally (by rfl)) _).done

/-! #### Readings, tariffs and receipts -/

theorem execReadingApplication (hs : s.Bounded) (p : ℕ) : Reaches State.Bounded (execReadingApplication p s) := by
  unfold Machine.execReadingApplication; split
  · exact reaches_nothing hs
  · exact (takeReading (hs.of_tally (by rfl)) _).done

theorem execErasingEnd (hs : s.Bounded) : Reaches State.Bounded (execErasingEnd s) := by
  unfold Machine.execErasingEnd; split
  · exact reaches_nothing hs
  · split
    · exact hs.done_of_tally rfl
    · exact reaches_nothing hs

theorem execWritingEnd (hs : s.Bounded) : Reaches State.Bounded (execWritingEnd s) := by
  unfold Machine.execWritingEnd; split
  · exact reaches_nothing hs
  · split
    · exact hs.done_of_tally rfl
    · exact reaches_nothing hs

theorem execOperationCompletion (hs : s.Bounded) (v : Bool) : Reaches State.Bounded (execOperationCompletion v s) := by
  unfold Machine.execOperationCompletion; split
  · exact reaches_nothing hs
  · split
    · exact hs.done_of_tally rfl
    · exact reaches_nothing hs

theorem execSiteStateChangeStore (hs : s.Bounded) : Reaches State.Bounded (execSiteStateChangeStore s) := by
  unfold Machine.execSiteStateChangeStore; split
  · exact reaches_nothing hs
  · refine hs.done_of_tally ?_
    split
    · exact State.tally_abortOperation _
    · rfl

theorem execHandOver (hs : s.Bounded) : Reaches State.Bounded (execHandOver s) := by
  unfold Machine.execHandOver; split
  · exact reaches_nothing hs
  · exact (takeHandOver (hs.of_tally (by rfl)) _).done

theorem execStoreFree (hs : s.Bounded) : Reaches State.Bounded (execStoreFree s) := by
  unfold Machine.execStoreFree; split
  · exact reaches_nothing hs
  · simp only
    split
    · refine (priceHead ?_ _).done
      split
      · exact hs.of_tally rfl
      · exact hs
    · exact hs.done_of_tally rfl

theorem execRoomEvent (hs : s.Bounded) : Reaches State.Bounded (execRoomEvent s) := by
  unfold Machine.execRoomEvent; split
  · exact reaches_nothing hs
  · exact (drain _ (hs.of_tally (by rfl))).done

/-- Every command but a received byte. -/
theorem exec_of_ne (hs : s.Bounded) (hn : (s.sessions.table.map Session.number).Nodup) (i : Instr)
    (hb : ∀ l b, i ≠ .receivedByte l b) : Reaches State.Bounded (exec i s) := by
  have hsame : ∀ {α : Type} {al : Allowed} {handle : State → α → Handled}, (∀ s f, (handle s f).state = s) →
      Answers State.Bounded State.Bounded al handle := fun e => answers_same (fun _ => id) e
  cases i with
  | powerOnReset => exact execPowerOnReset s
  | interByteTimeout l => exact bounded_unlinked.interByteTimeout hs l
  | frameDiscard l => exact bounded_unlinked.frameDiscard hs l
  | busyRefusal l k t => exact bounded_unlinked.busyRefusal hs l k t
  | unknownKind l k t => exact bounded_unlinked.unknownKind hs l k t
  | transmitEnd l => exact bounded_unlinked.transmitEnd hs l
  | siteClockTick => exact bounded_unlinked.siteClockTick hs
  | setSite l t p => exact hs.request _ _ _ _ _ _ (answers_of_tally tally_handleSetSite)
  | setFeeder l t p => exact hs.request _ _ _ _ _ _ (answers_of_tally tally_handleSetFeeder)
  | setPort l t p => exact hs.request _ _ _ _ _ _ (answers_of_tally tally_handleSetPort)
  | setUnit l t p => exact hs.request _ _ _ _ _ _ (answers_of_tally tally_handleSetUnit)
  | setBatteryPolicy l t p => exact hs.request _ _ _ _ _ _ bounded_handleSetBatteryPolicy
  | setTimers l t p => exact hs.request _ _ _ _ _ _ (answers_of_tally tally_handleSetTimers)
  | setWatermarks l t p => exact hs.request _ _ _ _ _ _ bounded_handleSetWatermarks
  | setNoticeRoute l t p => exact hs.request _ _ _ _ _ _ (answers_of_tally tally_handleSetNoticeRoute)
  | setTillAccess l t p => exact hs.request _ _ _ _ _ _ (answers_of_tally tally_handleSetTillAccess)
  | setQueueLevels l t p => exact hs.request _ _ _ _ _ _ bounded_handleSetQueueLevels
  | setTime l t p => exact hs.request _ _ _ _ _ _ (answers_of_tally tally_handleSetTime)
  | goLive l t p => exact hs.request _ _ _ _ _ _ (answers_of_tally tally_handleGoLive)
  | restart l t p => exact hs.request _ _ _ _ _ _ bounded_handleRestart
  | authorize l t p => exact hs.request _ _ _ _ _ _ (bounded_handleAuthorize _)
  | holdPort l t p => exact hs.request _ _ _ _ _ _ (bounded_handleHold true)
  | releasePort l t p => exact hs.request _ _ _ _ _ _ (bounded_handleHold false)
  | stopSession l t p => exact hs.request _ _ _ _ _ _ bounded_handleStopSession
  | setDeparture l t p => exact hs.request _ _ _ _ _ _ bounded_handleSetDeparture
  | sessionStatus l t p => exact hs.request _ _ _ _ _ _ (hsame handleSessionStatus_state)
  | portStatus l t p => exact hs.request _ _ _ _ _ _ (hsame handlePortStatus_state)
  | linkPurchase l t p => exact hs.request _ _ _ _ _ _ bounded_handleLinkPurchase
  | programTariff l t p => exact hs.request _ _ _ _ _ _ (answers_of_tally tally_handleProgramTariff)
  | eraseTariff l t p => exact hs.request _ _ _ _ _ _ (answers_of_tally tally_handleEraseTariff)
  | activateTariff l t p => exact hs.request _ _ _ _ _ _ (answers_of_tally tally_handleActivateTariff)
  | readTariff l t p => exact hs.request _ _ _ _ _ _ (hsame handleReadTariff_state)
  | readReceipt l t p => exact hs.request _ _ _ _ _ _ bounded_handleReadReceipt
  | setMark l t p => exact hs.request _ _ _ _ _ _ bounded_handleSetMark
  | rewind l t p => exact hs.request _ _ _ _ _ _ bounded_handleRewind
  | releaseMark l t p => exact hs.request _ _ _ _ _ _ bounded_handleReleaseMark
  | flushQueue l t p => exact hs.request _ _ _ _ _ _ bounded_handleFlushQueue
  | receiptCopy l t p => exact hs.request _ _ _ _ _ _ (hsame handleReceiptCopy_state)
  | queueStatus l t p => exact hs.request _ _ _ _ _ _ (hsame handleQueueStatus_state)
  | readDiscrepancy l t p => exact hs.request _ _ _ _ _ _ (hsame handleReadDiscrepancy_state)
  | clearDiscrepancy l t p => exact hs.request _ _ _ _ _ _ bounded_handleClearDiscrepancy
  | siteStatus l t p => exact hs.request _ _ _ _ _ _ (hsame handleSiteStatus_state)
  | allocStatus l t p => exact hs.request _ _ _ _ _ _ (hsame handleAllocStatus_state)
  | unitStatus l t p => exact hs.request _ _ _ _ _ _ (hsame handleUnitStatus_state)
  | pollEnd => exact hs.execPollEnd
  | fieldReply f => exact hs.execFieldReply f
  | replyTimeout => exact hs.execReplyTimeout
  | chargerReport p => exact hs.execChargerReport p
  | chargerTarget p => exact hs.execChargerTarget p
  | readingApplied p => exact hs.execReadingApplied p
  | authorizationTimeout n => exact hs.execAuthorizationTimeout n
  | dormantTimeout n => exact hs.execDormantTimeout n
  | idleSecondTick n => exact hs.execIdleSecondTick n
  | closingTimeout n => exact hs.execClosingTimeout n
  | allocationResultSessions => exact hs.execAllocationResultSessions
  | reclassification => exact hs.execReclassification
  | siteStateChangeSessions => exact hs.execSiteStateChangeSessions
  | chargerHealthChange p => exact hs.execChargerHealthChange p
  | activationEvent => exact hs.execActivationEvent
  | reportArrival u => exact hs.execReportArrival u
  | staleTimerExpiry u => exact hs.execStaleTimerExpiry u
  | unitHealthChange u => exact hs.execUnitHealthChange u
  | fallbackHoldExpiry p => exact hs.execFallbackHoldExpiry p
  | restoreTimerExpiry => exact hs.execRestoreTimerExpiry
  | dischargeAllowanceChange => exact hs.execDischargeAllowanceChange
  | earlyRequest => exact hs.execEarlyRequest hn
  | roundPeriodExpiry => exact hs.execRoundPeriodExpiry hn
  | spacingTimerExpiry => exact hs.execSpacingTimerExpiry hn
  | resultApplied => exact hs.execResultApplied hn
  | allocationResultField => exact hs.execAllocationResultField
  | allocationResultDispatch => exact hs.execAllocationResultDispatch
  | batteryReport => exact hs.execBatteryReport
  | batteryFreshnessChange => exact hs.execBatteryFreshnessChange
  | siteStateChangeDispatch => exact hs.execSiteStateChangeDispatch
  | dispatchHandover => exact hs.execDispatchHandover
  | readingApplication p => exact hs.execReadingApplication p
  | erasingEnd => exact hs.execErasingEnd
  | writingEnd => exact hs.execWritingEnd
  | operationCompletion v => exact hs.execOperationCompletion v
  | siteStateChangeStore => exact hs.execSiteStateChangeStore
  | handOver => exact hs.execHandOver
  | storeFree => exact hs.execStoreFree
  | roomEvent => exact hs.execRoomEvent
  | receivedByte l b => exact absurd rfl (hb l b)

end State.Bounded

/-- The bounds, with the distinct session numbers that a round needs. -/
def State.BoundedUnique (s : State) : Prop := (s.sessions.table.map Session.number).Nodup ∧ s.Bounded

theorem boundedUnique_unlinked : Unlinked State.BoundedUnique := ⟨fun _ _ hs => hs, fun _ hs => hs, fun _ hs => hs⟩

theorem State.BoundedUnique.exec (hs : s.BoundedUnique) (i : Instr) : Reaches State.Bounded (exec i s) :=
  boundedUnique_unlinked.exec bounded_unlinked (fun _ => And.right) hs (fun i hb => hs.2.exec_of_ne hs.1 i hb) i

end

/-- Settles O52: every operation on a block keeps the bounds, and every command is made of these; a round also needs that the
table gives no number twice. -/
theorem stepKeepsQueueLogAndCounts : Obligations.StepKeepsQueueLogAndCounts := by
  intro s t htable hq hg hc he ht
  obtain ⟨-, hnumbers, -⟩ := htable
  exact t.bounded_iff.1 (boundedUnique_unlinked.step (fun _ => And.right) (fun _ hs i => hs.exec i)
    ⟨hnumbers, s.bounded_iff.2 ⟨hq, hg, hc, he⟩⟩ ht)

end Sys2Proof.Machine

namespace Sys2Proof.Machine

/-! ## When a round is taken (R51 to R54) -/

/-- R54: of the allocator a round reads the watermarks, the feeders and the number of the round before. -/
theorem roundResult_congr (c : SessionController) {a b : PowerAllocator} (r : BalanceRecord) (hhigh : b.high = a.high)
    (hurgent : b.urgent = a.urgent) (hfeeders : b.feeders = a.feeders) (hround : b.round = a.round) :
    roundResult c b r = roundResult c a r := by
  have hcand : candidateOf c b = candidateOf c a := by
    funext x
    rw [candidateOf, candidateOf, hhigh, hurgent]
  have hroom : roomOf b r = roomOf a r := by
    funext k
    rw [roomOf, roomOf, hfeeders]
  have hentry : ∀ site, entryOf site b = entryOf site a := by
    intro site
    funext x
    rw [entryOf, entryOf, hhigh, hurgent]
  simp only [roundResult, allocateAll, hcand, hroom, hentry, hfeeders, hround]

section
variable (s : State)

/-- R51 to R54, R64: the state after a round taken at the run time of `s`, the allocator's settings being those of `a`. -/
def State.afterRound (a : PowerAllocator) : State :=
  { s with
    allocator := { a with round := (roundResult s.sessions a s.balance.record).round, lastRun := some s.runTime,
                          periodTimer := some (s.runTime + 1000 * a.period), pending := false, spacing := none,
                          last := some (roundResult s.sessions a s.balance.record), applied := false }
    events := { s.events with
      allocatorMessages := s.events.allocatorMessages ++ [.result (roundResult s.sessions a s.balance.record)]
      resultsToField := s.events.resultsToField ++ [roundResult s.sessions a s.balance.record]
      resultsToDispatch := s.events.resultsToDispatch ++ [roundResult s.sessions a s.balance.record] } }

theorem State.takeRound_eq : s.takeRound = s.afterRound s.allocator := rfl

/-- A round reads neither the timers nor the pending request, and sets them. -/
theorem State.takeRound_setAllocator (a : PowerAllocator) (periodTimer spacing : Option ℕ) (pending applied : Bool) :
    (s.setAllocator { a with
      periodTimer := periodTimer, spacing := spacing, pending := pending, applied := applied }).takeRound =
      s.afterRound a := by
  have hr : roundResult s.sessions { a with
      periodTimer := periodTimer, spacing := spacing, pending := pending, applied := applied } s.balance.record =
      roundResult s.sessions a s.balance.record := roundResult_congr _ _ rfl rfl rfl rfl
  simp only [State.takeRound_eq, State.afterRound, State.setAllocator_sessions, State.setAllocator_balance,
    State.setAllocator_allocator, hr]
  rfl

/-- R53: a round that may start starts. -/
theorem State.roundOrPend_applied (a : PowerAllocator) (periodTimer spacing : Option ℕ) (h : a.applied = true) :
    (s.setAllocator { a with periodTimer := periodTimer, spacing := spacing }).roundOrPend = s.afterRound a :=
  (if_pos h).trans (s.takeRound_setAllocator a periodTimer spacing a.pending a.applied)

theorem State.roundOrPend_waiting (h : s.allocator.applied = false) :
    s.roundOrPend = s.setAllocator { s.allocator with pending := true } := by simp [State.roundOrPend, h]

variable {s}

theorem State.tooSoon_of_early {t : ℕ} (hlast : s.allocator.lastRun = some t) (hearly : s.runTime < t + 250) :
    s.tooSoon = true := by simp [State.tooSoon, hlast, hearly]

theorem State.tooSoon_eq_false (h : ∀ t, ¬ (s.allocator.lastRun = some t ∧ s.runTime < t + 250)) : s.tooSoon = false := by
  unfold State.tooSoon
  split
  · rfl
  · rename_i t ht
    exact decide_eq_false fun hlt => h t ⟨ht, hlt⟩

/-- R52: an early request in LIVE, with one pending, too soon, and otherwise. -/
theorem State.takeEarly_pending (h : s.allocator.pending = true) : s.takeEarly = s := by simp [State.takeEarly, h]

theorem State.takeEarly_early {t : ℕ} (h : s.allocator.pending = false) (hlast : s.allocator.lastRun = some t)
    (hearly : s.runTime < t + 250) :
    s.takeEarly = s.setAllocator { s.allocator with pending := true, spacing := some (t + 250) } := by
  simp [State.takeEarly, h, State.tooSoon_of_early hlast hearly, PowerAllocator.spacingExpiry, hlast]

theorem State.takeEarly_late (h : s.allocator.pending = false)
    (hlate : ∀ t, ¬ (s.allocator.lastRun = some t ∧ s.runTime < t + 250)) : s.takeEarly = s.roundOrPend := by
  simp [State.takeEarly, h, State.tooSoon_eq_false hlate]

/-- R53: the last result reported applied. -/
theorem State.takeApplied_none (h : s.allocator.pending = false) :
    s.takeApplied = s.setAllocator { s.allocator with applied := true } := by simp [State.takeApplied, h]

theorem State.takeApplied_early {t : ℕ} (h : s.allocator.pending = true) (hlast : s.allocator.lastRun = some t)
    (hearly : s.runTime < t + 250) :
    s.takeApplied = s.setAllocator { s.allocator with applied := true, spacing := some (t + 250) } := by
  have hsoon : (s.setAllocator { s.allocator with applied := true }).tooSoon = true := State.tooSoon_of_early hlast hearly
  refine (if_pos h).trans ((if_pos hsoon).trans ?_)
  simp [PowerAllocator.spacingExpiry, hlast]

theorem State.takeApplied_late (h : s.allocator.pending = true)
    (hlate : ∀ t, ¬ (s.allocator.lastRun = some t ∧ s.runTime < t + 250)) :
    s.takeApplied = s.afterRound s.allocator := by
  have hsoon : (s.setAllocator { s.allocator with applied := true }).tooSoon = false := State.tooSoon_eq_false hlate
  refine (if_pos h).trans ((if_neg (Bool.eq_false_iff.1 hsoon)).trans ?_)
  exact s.takeRound_setAllocator s.allocator s.allocator.periodTimer s.allocator.spacing s.allocator.pending true

end

/-- Settles O28: each of the four commands reads its event or timer, and the lemmas above say what it makes of it. -/
theorem roundsAreTakenAndSpaced : Obligations.RoundsAreTakenAndSpaced := by
  intro s a result round waits early
  refine ⟨?_, fun expiry hp => ⟨fun happ => ?_, fun happ => ?_⟩,
    fun expiry hsp => ⟨fun happ => ?_, fun happ => ?_⟩, ?_⟩
  · intro n hn e run
    have hrun : run = done (if s.links.part = .live then (s.setEvents e).takeEarly else s.setEvents e) := by
      show execEarlyRequest s = _
      simp only [execEarlyRequest, hn]
      rfl
    refine ⟨fun h => ?_, fun hlive hnp => ⟨fun t ⟨hlast, hearly⟩ => ?_, fun hlate happ => ?_, fun hlate happ => ?_⟩⟩
    · rw [hrun]
      obtain hset | hpend := h
      · rw [if_neg (by simp [hset])]
        rfl
      · rw [State.takeEarly_pending (s := s.setEvents e) hpend, ite_self]
        rfl
    · rw [hrun, if_pos hlive, State.takeEarly_early (s := s.setEvents e) hnp hlast hearly]
      rfl
    · rw [hrun, if_pos hlive, State.takeEarly_late (s := s.setEvents e) hnp hlate,
        State.roundOrPend_waiting (s.setEvents e) happ]
      rfl
    · rw [hrun, if_pos hlive, State.takeEarly_late (s := s.setEvents e) hnp hlate]
      exact congrArg done ((s.setEvents e).roundOrPend_applied a a.periodTimer a.spacing happ)
  · show execRoundPeriodExpiry s = _
    simp only [execRoundPeriodExpiry, show s.allocator.periodTimer = some expiry from hp]
    exact congrArg done ((s.reach expiry).roundOrPend_applied a none a.spacing happ)
  · show execRoundPeriodExpiry s = _
    simp only [execRoundPeriodExpiry, show s.allocator.periodTimer = some expiry from hp]
    rw [State.roundOrPend_waiting _ (by exact happ)]
    rfl
  · show execSpacingTimerExpiry s = _
    simp only [execSpacingTimerExpiry, show s.allocator.spacing = some expiry from hsp]
    exact congrArg done ((s.reach expiry).roundOrPend_applied a a.periodTimer none happ)
  · show execSpacingTimerExpiry s = _
    simp only [execSpacingTimerExpiry, show s.allocator.spacing = some expiry from hsp]
    rw [State.roundOrPend_waiting _ (by exact happ)]
    rfl
  · intro n hn e
    have hrun : exec .resultApplied s = done (s.setEvents e).takeApplied := by
      show execResultApplied s = _
      simp only [execResultApplied, hn]
      rfl
    refine ⟨fun hnp => ?_, fun hpend => ⟨fun t ⟨hlast, hearly⟩ => ?_, fun hlate => ?_⟩⟩
    · rw [hrun, State.takeApplied_none (s := s.setEvents e) hnp]
      rfl
    · rw [hrun, State.takeApplied_early (s := s.setEvents e) hpend hlast hearly]
      rfl
    · rw [hrun, State.takeApplied_late (s := s.setEvents e) hpend hlate]
      rfl

end Sys2Proof.Machine

namespace Sys2Proof.Machine

/-! ## Deferral counts and classes (R61 to R63) -/

theorem classOf_eq_urgent {high urgent count : ℕ} : classOf high urgent count = .urgent ↔ urgent ≤ count := by
  unfold classOf
  split_ifs <;> simp_all

theorem classOf_eq_high {high urgent count : ℕ} : classOf high urgent count = .high ↔ count < urgent ∧ high ≤ count := by
  unfold classOf
  split_ifs <;> simp_all

/-- R61: outside NORMAL every count stays. -/
theorem newCount_of_ne {site : SiteState} (h : site ≠ .normal) (x : Candidate) : newCount site x = x.count := by
  cases site with
  | normal => exact absurd rfl h
  | _ => rfl

/-- R63: a session classified again from its count. -/
def Session.reclassified (high urgent : ℕ) (x : Session) : Session := { x with cls := classOf high urgent x.deferral }

/-- R63: whether classifying a session again raises URGENT_SESSION. -/
def Session.becomesUrgent (urgent : ℕ) (x : Session) : Bool := x.cls != .urgent && decide (urgent ≤ x.deferral)

/-- One session of the table classified again: it alone changes. -/
theorem State.reclassify_eq {s : State} {before after : List Session} {x : Session} (high urgent : ℕ)
    (ht : s.sessions.table = before ++ x :: after) (hn : (s.sessions.table.map Session.number).Nodup) :
    s.reclassify high urgent x.number = { s with
      links := if x.becomesUrgent urgent then s.links.raise .urgentSession x.number else s.links
      sessions := { s.sessions with table := before ++ x.reclassified high urgent :: after } } := by
  have hfind : s.sessions.find x.number = some x := find_of_mem hn (by simp [ht])
  have htable : (s.sessions.update x.number fun y => { y with cls := classOf high urgent x.deferral }).table =
      before ++ x.reclassified high urgent :: after := by
    rw [ht] at hn
    rw [SessionController.update, ht]
    exact map_ite_middle rfl (ne_of_nodup_middle hn)
  have hurgent : (x.cls ≠ .urgent ∧ classOf high urgent x.deferral = .urgent) ↔ x.becomesUrgent urgent = true := by
    simp [Session.becomesUrgent, classOf_eq_urgent]
  simp only [State.reclassify, hfind, State.noticeUrgent, hurgent]
  rw [← htable]
  split <;> rfl

/-- The sessions of the table from one on, classified again one after the other. -/
theorem State.foldl_reclassify {s : State} (high urgent : ℕ) (before xs : List Session)
    (ht : s.sessions.table = before ++ xs) (hn : (s.sessions.table.map Session.number).Nodup) :
    (xs.map Session.number).foldl (State.reclassify high urgent) s = { s with
      links := (xs.filter (Session.becomesUrgent urgent)).foldl (fun c x => c.raise .urgentSession x.number) s.links
      sessions := { s.sessions with table := before ++ xs.map (Session.reclassified high urgent) } } := by
  induction xs generalizing s before with
  | nil => rw [show before ++ [].map (Session.reclassified high urgent) = s.sessions.table from ht.symm]; rfl
  | cons x xs ih =>
    have hnumbers : ((before ++ x.reclassified high urgent :: xs).map Session.number) = s.sessions.table.map Session.number := by
      rw [ht, List.map_append, List.map_append]
      rfl
    rw [List.map_cons, List.foldl_cons, State.reclassify_eq high urgent ht hn,
      ih (before ++ [x.reclassified high urgent]) (by simp) (hnumbers ▸ hn)]
    simp only [List.filter_cons, List.map_cons, List.append_assoc, List.singleton_append]
    split <;> rfl

/-- Settles O32: the count by the cases of `newCount`, the class from it; the reclassification session by session. -/
theorem deferralCountsAndClassesFollow : Obligations.DeferralCountsAndClassesFollow := by
  refine ⟨fun site a x => ⟨rfl, rfl, rfl, rfl, fun h => newCount_of_ne h x, ?_, ?_, ?_, classOf_eq_urgent, classOf_eq_high⟩,
    fun s high urgent rest hm hn => ?_⟩
  · rintro rfl hadm
    simp [entryOf, newCount, hadm, Nat.min_comm]
  · rintro rfl hadm hfull
    simp [entryOf, newCount, hadm, hfull]
  · rintro rfl hadm hpart
    simp [entryOf, newCount, hadm, hpart]
  · have hfold := State.foldl_reclassify (s := s.setEvents { s.events with allocatorMessages := rest }) high urgent []
      s.sessions.table rfl hn
    refine ⟨((s.sessions.table.map Session.number).foldl (State.reclassify high urgent)
      (s.setEvents { s.events with allocatorMessages := rest })).settle, ?_, ?_, ?_⟩
    · show execReclassification s = _
      simp only [execReclassification, hm]
      rfl
    · rw [hfold]
      rfl
    · rw [hfold]
      rfl

end Sys2Proof.Machine

namespace Sys2Proof.Machine

/-! ## New targets at the Field Link Controller (R90 to R92, R100 to R102)

### The urgent queue (R100) -/

/-- R100: the largest figure first, among equal figures the lower unit index. -/
abbrev UrgentEntry.Precedes (a b : UrgentEntry) : Prop := b.figure < a.figure ∨ (a.figure = b.figure ∧ a.unit < b.unit)

theorem UrgentEntry.before_iff {a b : UrgentEntry} : a.before b = true ↔ a.Precedes b := by simp [UrgentEntry.before]

theorem insertUrgent_perm (e : UrgentEntry) (q : List UrgentEntry) : (insertUrgent e q).Perm (e :: q) := by
  induction q with
  | nil => exact .refl _
  | cons x rest ih =>
    unfold insertUrgent
    split
    · exact (ih.cons x).trans (.swap ..)
    · exact .refl _

/-- An entry put into the queue leaves those that differ from it in the test. -/
theorem filter_insertUrgent {p : UrgentEntry → Bool} {e : UrgentEntry} (he : p e = false) (q : List UrgentEntry) :
    (insertUrgent e q).filter p = q.filter p := by
  induction q with
  | nil => simp [insertUrgent, he]
  | cons x rest ih =>
    unfold insertUrgent
    split
    · rw [List.filter_cons, List.filter_cons, ih]
    · rw [List.filter_cons, he]
      rfl

theorem pairwise_insertUrgent {e : UrgentEntry} {q : List UrgentEntry} (hq : q.Pairwise UrgentEntry.Precedes)
    (he : ∀ x ∈ q, x.unit ≠ e.unit) : (insertUrgent e q).Pairwise UrgentEntry.Precedes := by
  induction q with
  | nil => exact List.pairwise_singleton ..
  | cons x rest ih =>
    obtain ⟨hx, hrest⟩ := List.pairwise_cons.1 hq
    obtain ⟨hxe, hre⟩ := List.forall_mem_cons.1 he
    unfold insertUrgent
    split
    · rename_i hb
      refine List.pairwise_cons.2 ⟨fun y hy => ?_, ih hrest hre⟩
      obtain rfl | hy := List.mem_cons.1 ((insertUrgent_perm e rest).mem_iff.1 hy)
      · exact UrgentEntry.before_iff.1 hb
      · exact hx y hy
    · rename_i hb
      have hex : e.Precedes x := by
        have := mt UrgentEntry.before_iff.2 hb
        simp only [UrgentEntry.Precedes] at this ⊢
        omega
      refine List.pairwise_cons.2 ⟨fun y hy => ?_, hq⟩
      obtain rfl | hy := List.mem_cons.1 hy
      · exact hex
      · have := hx y hy
        simp only [UrgentEntry.Precedes] at this hex ⊢
        omega

/-! ### The decrease set (R101) -/

theorem mem_insertMember {u v : ℕ} {xs : List ℕ} : v ∈ insertMember u xs ↔ v = u ∨ v ∈ xs := by
  induction xs with
  | nil => simp [insertMember]
  | cons x rest ih =>
    unfold insertMember
    split
    · simp only [List.mem_cons, ih]
      tauto
    · simp

theorem mem_addMember {u v : ℕ} {xs : List ℕ} : v ∈ addMember u xs ↔ v = u ∨ v ∈ xs := by
  by_cases h : v = u <;> simp [addMember, removeMember, mem_insertMember, h]

theorem mem_removeMember {u v : ℕ} {xs : List ℕ} : v ∈ removeMember u xs ↔ v ≠ u ∧ v ∈ xs := by
  simp [removeMember, and_comm]

theorem pairwise_insertMember {u : ℕ} {xs : List ℕ} (h : xs.Pairwise (· < ·)) (hu : u ∉ xs) :
    (insertMember u xs).Pairwise (· < ·) := by
  induction xs with
  | nil => exact List.pairwise_singleton ..
  | cons x rest ih =>
    obtain ⟨hx, hrest⟩ := List.pairwise_cons.1 h
    unfold insertMember
    split
    · rename_i hlt
      refine List.pairwise_cons.2 ⟨fun y hy => ?_, ih hrest fun hm => hu (List.mem_cons_of_mem _ hm)⟩
      obtain rfl | hy := mem_insertMember.1 hy
      · exact hlt
      · exact hx y hy
    · rename_i hge
      have hux : u < x := lt_of_le_of_ne (not_lt.1 hge) fun e => hu (e ▸ List.mem_cons_self)
      refine List.pairwise_cons.2 ⟨fun y hy => ?_, h⟩
      obtain rfl | hy := List.mem_cons.1 hy
      · exact hux
      · exact hux.trans (hx y hy)

theorem pairwise_removeMember {u : ℕ} {xs : List ℕ} (h : xs.Pairwise (· < ·)) : (removeMember u xs).Pairwise (· < ·) :=
  h.filter _

theorem pairwise_addMember {u : ℕ} {xs : List ℕ} (h : xs.Pairwise (· < ·)) : (addMember u xs).Pairwise (· < ·) :=
  pairwise_insertMember (pairwise_removeMember h) fun hm => (mem_removeMember.1 hm).1 rfl

/-! ### One unit given a target (R91, R92) -/

/-- R100: a unit's entry in the urgent queue by the removal figure of its target. -/
def urgentEntries (u : ℕ) : Option ℕ → List UrgentEntry
  | none => []
  | some w => [{ unit := u, figure := w }]

section
variable (f : FieldLinkController) (u v : ℕ) (c : Command)

theorem FieldLinkController.assess_frame : f.assess u =
    { f with urgent := (f.assess u).urgent, decrease := (f.assess u).decrease } := by
  unfold FieldLinkController.assess
  split <;> rfl

@[simp] theorem FieldLinkController.assess_unit : (f.assess u).unit v = f.unit v := by
  rw [f.assess_frame u]
  rfl

/-- R100, R102: queue and set after an assessment. -/
theorem FieldLinkController.assess_queue_same :
    (f.assess u).urgent.filter (fun e => e.unit == u) = urgentEntries u (f.unit u).figure := by
  have hgone : (removeUrgent u f.urgent).filter (fun e => e.unit == u) = [] := by
    simp [removeUrgent, List.filter_eq_nil_iff]
  unfold FieldLinkController.assess
  cases (f.unit u).figure with
  | none => exact hgone
  | some w =>
    refine List.perm_singleton.1 (((insertUrgent_perm _ _).filter _).trans ?_)
    rw [List.filter_cons, hgone]
    simp

theorem FieldLinkController.assess_queue_other (h : v ≠ u) :
    (f.assess u).urgent.filter (fun e => e.unit == v) = f.urgent.filter fun e => e.unit == v := by
  have hkept : (removeUrgent u f.urgent).filter (fun e => e.unit == v) = f.urgent.filter fun e => e.unit == v := by
    rw [removeUrgent, List.filter_filter]
    refine List.filter_congr fun e _ => ?_
    by_cases he : e.unit = v <;> simp [he, h]
  unfold FieldLinkController.assess
  cases (f.unit u).figure with
  | none => exact hkept
  | some w => exact (filter_insertUrgent (by simpa using h.symm) _).trans hkept

theorem FieldLinkController.assess_members : v ∈ (f.assess u).decrease ↔
    if v = u then (f.unit u).figure.isSome = true ∧ (f.unit u).health ≠ .lost else v ∈ f.decrease := by
  unfold FieldLinkController.assess
  cases (f.unit u).figure with
  | none =>
    rw [mem_removeMember]
    split <;> simp_all
  | some w =>
    by_cases hl : (f.unit u).health = .lost
    · simp only [hl, if_true, mem_removeMember]
      split <;> simp_all
    · simp only [hl, if_false, mem_addMember]
      split <;> simp_all

variable {f}

theorem FieldLinkController.assess_queue_ordered (h : f.urgent.Pairwise UrgentEntry.Precedes) :
    (f.assess u).urgent.Pairwise UrgentEntry.Precedes := by
  have hrem : (removeUrgent u f.urgent).Pairwise UrgentEntry.Precedes := h.filter _
  unfold FieldLinkController.assess
  cases (f.unit u).figure with
  | none => exact hrem
  | some w => exact pairwise_insertUrgent hrem fun x hx => by simpa using (List.mem_filter.1 hx).2

theorem FieldLinkController.assess_members_ordered (h : f.decrease.Pairwise (· < ·)) :
    (f.assess u).decrease.Pairwise (· < ·) := by
  unfold FieldLinkController.assess
  cases (f.unit u).figure with
  | none => exact pairwise_removeMember h
  | some w =>
    simp only
    split
    · exact pairwise_removeMember h
    · exact pairwise_addMember h

end

/-! ### An event that gives targets to the units it names (R65, R86, R102) -/

/-- What an event makes of the controller: it covers some units, and gives a target to each unit it names. -/
structure Retargeted (f : FieldLinkController) (covers : ℕ → Bool) (target : ℕ → Option Command)
    (g : FieldLinkController) : Prop where
  frame : g = { f with units := g.units, urgent := g.urgent, decrease := g.decrease }
  named : ∀ u c, target u = some c → g.unit u = { f.unit u with target := c } ∧
    g.urgent.filter (fun e => e.unit == u) = urgentEntries u (removalFigure (f.unit u).delivered c) ∧
    (u ∈ g.decrease ↔ (removalFigure (f.unit u).delivered c).isSome = true ∧ (f.unit u).health ≠ .lost)
  unnamed : ∀ u, target u = none → g.unit u = f.unit u ∧
    g.urgent.filter (fun e => e.unit == u) = f.urgent.filter (fun e => e.unit == u) ∧
    (u ∈ g.decrease ↔ covers u = false ∧ u ∈ f.decrease)
  queue : f.urgent.Pairwise UrgentEntry.Precedes → g.urgent.Pairwise UrgentEntry.Precedes
  members : f.decrease.Pairwise (· < ·) → g.decrease.Pairwise (· < ·)

section
variable {f g : FieldLinkController} {covers : ℕ → Bool} {target : ℕ → Option Command}

/-- Before any target is taken the members that the event covers are removed. -/
theorem retargeted_start (f : FieldLinkController) (covers : ℕ → Bool) :
    Retargeted f covers (fun _ => none) { f with decrease := f.decrease.filter fun u => !covers u } where
  frame := rfl
  named := nofun
  unnamed := fun u _ => ⟨rfl, rfl, by simp [and_comm]⟩
  queue := id
  members := fun h => h.filter _

/-- One unit more, not named before. -/
theorem Retargeted.retarget (h : Retargeted f covers target g) {u : ℕ} (c : Command) (hu : target u = none) (h1 : 1 ≤ u)
    (h2 : u ≤ 39) : Retargeted f covers (fun v => if v = u then some c else target v) (g.retarget u c) := by
  obtain ⟨hframe, hnamed, hunnamed, hqueue, hmembers⟩ := h
  have hset : ∀ v, (g.setUnit u { g.unit u with target := c }).unit v =
      if v = u then { g.unit u with target := c } else g.unit v := fun v => g.unit_setUnit u v _ h1 h2
  have hgu : g.unit u = f.unit u := (hunnamed u hu).1
  have hsame : (g.setUnit u { g.unit u with target := c }).unit u = { f.unit u with target := c } := by
    rw [hset, if_pos rfl, hgu]
  have hother : ∀ v, v ≠ u → (g.retarget u c).unit v = g.unit v ∧
      (g.retarget u c).urgent.filter (fun e => e.unit == v) = g.urgent.filter (fun e => e.unit == v) ∧
      (v ∈ (g.retarget u c).decrease ↔ v ∈ g.decrease) := fun v hv =>
    ⟨(FieldLinkController.assess_unit ..).trans ((hset v).trans (if_neg hv)),
      FieldLinkController.assess_queue_other _ _ _ hv,
      (FieldLinkController.assess_members ..).trans (iff_of_eq (if_neg hv))⟩
  refine ⟨?_, fun v d hv => ?_, fun v hv => ?_, fun hq => ?_, fun hm => ?_⟩
  · refine (FieldLinkController.assess_frame _ u).trans ?_
    rw [hframe]
    simp only [FieldLinkController.setUnit, FieldLinkController.retarget]
    rw [FieldLinkController.assess_frame]
  · by_cases e : v = u
    · subst e
      obtain rfl : c = d := by simpa using hv
      refine ⟨(FieldLinkController.assess_unit ..).trans hsame,
        (FieldLinkController.assess_queue_same _ v).trans ?_, (FieldLinkController.assess_members _ v v).trans ?_⟩
      · rw [hsame]
        rfl
      · rw [if_pos rfl, hsame]
        rfl
    · obtain ⟨hunit, hfilter, hmem⟩ := hother v e
      obtain ⟨hunit', hfilter', hmem'⟩ := hnamed v d ((if_neg e).symm.trans hv)
      exact ⟨hunit.trans hunit', hfilter.trans hfilter', hmem.trans hmem'⟩
  · have e : v ≠ u := by
      rintro rfl
      simp at hv
    obtain ⟨hunit, hfilter, hmem⟩ := hother v e
    obtain ⟨hunit', hfilter', hmem'⟩ := hunnamed v ((if_neg e).symm.trans hv)
    exact ⟨hunit.trans hunit', hfilter.trans hfilter', hmem.trans hmem'⟩
  · exact FieldLinkController.assess_queue_ordered u (hqueue hq)
  · exact FieldLinkController.assess_members_ordered u (hmembers hm)

/-- A list of units, none named twice. -/
theorem Retargeted.foldl {α : Type} {key : α → ℕ} {cmd : α → Command} (h : Retargeted f covers (fun _ => none) g)
    (xs : List α) (hn : (xs.map key).Nodup) (hrange : ∀ x ∈ xs, 1 ≤ key x ∧ key x ≤ 39) :
    Retargeted f covers (fun u => (xs.find? fun x => key x == u).map cmd)
      (xs.foldl (fun f x => f.retarget (key x) (cmd x)) g) := by
  induction xs using List.reverseRecOn with
  | nil => exact h
  | append_singleton xs x ih =>
    rw [List.map_append, List.map_singleton, List.nodup_append] at hn
    obtain ⟨hxs, -, hx⟩ := hn
    have hnew : xs.find? (fun y => key y == key x) = none := List.find?_eq_none.2 fun y hy e =>
      hx _ (List.mem_map_of_mem hy) _ (List.mem_singleton_self _) (by simpa using e)
    obtain ⟨h1, h2⟩ := hrange x (by simp)
    have hstep := (ih hxs fun y hy => hrange y (List.mem_append_left _ hy)).retarget (cmd x) (by simp [hnew]) h1 h2
    have htarget : (fun u => ((xs ++ [x]).find? fun y => key y == u).map cmd) =
        fun u => if u = key x then some (cmd x) else (xs.find? fun y => key y == u).map cmd := by
      funext u
      rw [List.find?_append]
      by_cases e : u = key x
      · subst e; simp [hnew]
      · have : ¬ key x = u := fun h => e h.symm
        simp [e, this]
    rw [htarget, List.foldl_append]
    exact hstep

end

end Sys2Proof.Machine

namespace Sys2Proof.Machine

/-! ### Results and hand-overs (R65, R86, R102) -/

/-- R65, R102: a result covers every charger. -/
theorem retargeted_takeTargets (f : FieldLinkController) (c : SessionController) (ts : List PortTarget)
    (hn : (ts.map PortTarget.port).Nodup) (hrange : ∀ t ∈ ts, 1 ≤ t.port ∧ t.port ≤ 32) :
    Retargeted f (fun u => decide (u ≤ 32)) (fun u => (ts.find? fun t => t.port == u).map (chargerTargetOf c))
      (f.takeTargets c ts) := by
  have hcovered : (fun u => decide (32 < u)) = fun u => !decide (u ≤ 32) := funext fun u =>
    Bool.eq_iff_iff.2 (by simp)
  have hstart := retargeted_start f fun u => decide (u ≤ 32)
  rw [← hcovered] at hstart
  refine hstart.foldl ts hn fun t ht => ?_
  obtain ⟨h1, h2⟩ := hrange t ht
  exact ⟨h1, by omega⟩

/-- R86, R102: a hand-over covers the battery and every inverter, and names the battery if it has a target for it. -/
theorem retargeted_takeHandover (f : FieldLinkController) (h : Handover) (hn : (h.limits.map Prod.fst).Nodup)
    (hrange : ∀ x ∈ h.limits, 1 ≤ x.1 ∧ x.1 ≤ 4) :
    Retargeted f (fun u => decide (32 < u)) (fun u => if u = 39 then h.battery.map .battery
      else (h.limits.find? fun x => 34 + x.1 == u).map fun x => .inverter (some x.2)) (f.takeHandover h) := by
  have hcovered : (fun u => decide (u ≤ 32)) = fun u => !decide (32 < u) := funext fun u =>
    Bool.eq_iff_iff.2 (by simp)
  have hstart := retargeted_start f fun u => decide (32 < u)
  rw [← hcovered] at hstart
  have hkeys : (h.limits.map fun x => 34 + x.1).Nodup := by
    rw [show (fun x : ℕ × ℕ => 34 + x.1) = (34 + ·) ∘ Prod.fst from rfl, ← List.map_map]
    exact hn.map (add_right_injective 34)
  have hlimits := hstart.foldl (cmd := fun x => .inverter (some x.2)) h.limits hkeys fun x hx => by
    have := hrange x hx
    omega
  have hbattery : h.limits.find? (fun x => 34 + x.1 == 39) = none := List.find?_eq_none.2 fun x hx e => by
    have := hrange x hx
    have : 34 + x.1 = 39 := by simpa using e
    omega
  unfold FieldLinkController.takeHandover
  cases hb : h.battery with
  | none =>
    convert hlimits using 2 with u
    split
    · rename_i e
      rw [e, hbattery]
      rfl
    · rfl
  | some b =>
    exact hlimits.retarget (.battery b) (by simp [hbattery]) (by decide) (by decide)

/-- R86: a hand-over waits for the result it follows. -/
theorem mayReach_iff {ws : List AllocationResult} {h : Handover} :
    mayReach ws h = true ↔ ¬ ∃ n, h.follows = some n ∧ ∃ r ∈ ws, r.round = n := by
  unfold mayReach
  cases h.follows with
  | none => simp
  | some n => simp only [List.all_eq_true, bne_iff_ne, Option.some.injEq, exists_eq_left', not_exists, not_and, ne_eq]

/-- Settles O39: each event gives its targets unit by unit, and each unit is assessed by R92. -/
theorem resultsAndHandoversSetTheTargets : Obligations.ResultsAndHandoversSetTheTargets := by
  intro s credits importValue figure assessed
  have himport : importValue = BatteryCommand.importValue := funext fun c => by cases c <;> rfl
  have hfigure : figure = removalFigure := by
    funext d t
    cases d with
    | battery d =>
      cases t with
      | battery t => simp only [figure, removalFigure, himport]
      | _ => rfl
    | inverter limit =>
      cases limit with
      | none => cases t <;> rfl
      | some w =>
        cases t with
        | inverter limit => cases limit <;> rfl
        | _ => rfl
    | _ => cases t <;> rfl
  have hassessed : ∀ {events : Events} {covers : ℕ → Bool} {target : ℕ → Option Command} {g : FieldLinkController},
      Retargeted s.field covers target g → assessed (((s.setEvents events).setField g).settle) events covers target := by
    intro events covers target g ⟨hframe, hnamed, hunnamed, hqueue, hmembers⟩
    refine ⟨?_, fun u c hu => ?_, hunnamed, hqueue, hmembers⟩
    · show ({ s with links := s.links.settle, field := g, events := events } : State) = _
      rw [hframe]
      rfl
    · rw [hfigure]
      obtain ⟨hunit, hentry, hmem⟩ := hnamed u c hu
      refine ⟨hunit, hentry.trans ?_, hmem⟩
      cases removalFigure (s.field.unit u).delivered c <;> rfl
  refine ⟨fun h => ?_, fun r rest h hn hrange => ⟨_, ?_, hassessed (retargeted_takeTargets _ s.sessions _ hn hrange)⟩,
    fun h => ?_, fun h rest hh => ⟨fun hwaits => ?_, fun hfree hn hrange =>
      ⟨_, ?_, hassessed (retargeted_takeHandover _ _ hn hrange)⟩⟩⟩
  · show execAllocationResultField s = _
    simp only [execAllocationResultField, h]
    rfl
  · show execAllocationResultField s = _
    simp only [execAllocationResultField, h]
    rfl
  · show execDispatchHandover s = _
    simp only [execDispatchHandover, h]
    rfl
  · show execDispatchHandover s = _
    simp only [execDispatchHandover, hh]
    exact if_neg fun hm => mayReach_iff.1 hm hwaits
  · show execDispatchHandover s = _
    simp only [execDispatchHandover, hh]
    exact if_pos (mayReach_iff.2 hfree)

end Sys2Proof.Machine

namespace Sys2Proof.Machine

/-! ### The Battery Dispatch Unit: the state after each of its operations (R76, R78, R85, R86) -/

/-- The limits of a computation name present inverters, each once. -/
theorem limitsOf_numbers (f : FieldLinkController) (b : SiteBalanceUnit) (pvEff : Nat) (curtail : Option Nat) :
    (limitsOf f b pvEff curtail).map Prod.fst = presentInverters f := by
  simp only [limitsOf, List.map_map]
  exact List.map_id _

theorem presentInverters_sublist (f : FieldLinkController) : (presentInverters f).Sublist [1, 2, 3, 4] :=
  List.filter_sublist

/-- R78: an inverter named has its limit stored, another keeps the one in force. -/
theorem nth_storeLimits {limits : List (Nat × Nat)} (hs : (limits.map Prod.fst).Sublist [1, 2, 3, 4])
    (v : Vector (Option Nat) 4) (k : Nat) : nth (storeLimits v limits) none k =
      match limits.find? fun x => x.1 == k with
      | some x => some x.2
      | none => nth v none k := by
  have hin : ∀ j ∈ limits.map Prod.fst, 1 ≤ j ∧ j ≤ 4 := fun j hj =>
    (by decide : ∀ j ∈ [1, 2, 3, 4], 1 ≤ j ∧ j ≤ 4) j (hs.subset hj)
  have hnodup : (limits.map Prod.fst).Nodup := hs.nodup (by decide)
  clear hs
  induction limits generalizing v with
  | nil => rfl
  | cons x rest ih =>
    obtain ⟨hx, hrest⟩ := List.nodup_cons.1 hnodup
    obtain ⟨h1, h4⟩ := hin x.1 List.mem_cons_self
    refine (ih (put v x.1 (some x.2)) (fun j hj => hin j (List.mem_cons_of_mem _ hj)) hrest).trans ?_
    rw [nth_put _ _ _ _ _ h1 h4]
    by_cases hk : x.1 = k
    · have hnone : rest.find? (fun y => y.1 == k) = none := List.find?_eq_none.2 fun y hy e =>
        hx (List.mem_map.2 ⟨y, hy, (beq_iff_eq.1 e).trans hk.symm⟩)
      rw [hnone, List.find?_cons_of_pos (by simp [hk])]
      exact if_pos hk.symm
    · rw [List.find?_cons_of_neg (by simp [hk]), if_neg fun e => hk e.symm]

/-- Tables with the same entry at every number are equal. -/
theorem eq_of_nth {α : Type} {n : Nat} {v w : Vector α n} (d : α) (h : ∀ k, nth v d k = nth w d k) : v = w :=
  Vector.ext fun i hi => by simpa [nth, hi] using h (i + 1)

/-- The same limits stored once more change nothing. -/
theorem storeLimits_storeLimits {limits : List (Nat × Nat)} (hs : (limits.map Prod.fst).Sublist [1, 2, 3, 4])
    (v : Vector (Option Nat) 4) : storeLimits (storeLimits v limits) limits = storeLimits v limits :=
  eq_of_nth none fun k => by
    simp only [nth_storeLimits hs]
    cases limits.find? fun x => x.1 == k with
    | none => rfl
    | some x => rfl

theorem State.dispatchComputed_limits_sublist (s : State) (d : BatteryDispatchUnit) (t : DispatchTrigger) :
    ((s.dispatchComputed d t).limits.map Prod.fst).Sublist [1, 2, 3, 4] := by
  rw [show (s.dispatchComputed d t).limits.map Prod.fst = presentInverters s.field from limitsOf_numbers ..]
  exact presentInverters_sublist _

/-- Of two computations in a row, from the same settings, the second alone is left. -/
theorem BatteryDispatchUnit.commanded_commanded (s : State) (d : BatteryDispatchUnit) (t t' : DispatchTrigger) :
    (d.commanded (s.dispatchComputed d t)).commanded (s.dispatchComputed d t') = d.commanded (s.dispatchComputed d t') :=
  congrArg (fun v => ({ d with
    record := some (s.dispatchComputed d t'), target := (s.dispatchComputed d t').target, limits := v } : BatteryDispatchUnit))
    (storeLimits_storeLimits (s.dispatchComputed_limits_sublist d t') d.limits)

/-- The whole effect of the Battery Dispatch Unit's operations: the unit replaced, allowances published, commands handed
over. -/
def State.dispatched (s : State) (d : BatteryDispatchUnit) (published : List Nat) (handed : List Handover) : State :=
  { s with
    dispatch := d
    events := { s.events with
      allowances := s.events.allowances ++ published, handovers := s.events.handovers ++ handed } }

/-- The allowance that R75 gives, in force. -/
def BatteryDispatchUnit.reallowed (present : Bool) (d : BatteryDispatchUnit) : BatteryDispatchUnit :=
  { d with allowance := allowanceOf present d }

section
variable (s : State) (d : BatteryDispatchUnit) (published : List Nat) (handed : List Handover)

theorem State.computeCommand_dispatched (t : DispatchTrigger) : (s.dispatched d published handed).computeCommand t =
    s.dispatched (d.commanded (s.dispatchComputed d t)) published
      (handed ++ [s.handoverOf (s.dispatchComputed d t) (if t = .result then d.basis else none)]) := by
  refine (State.computeCommand_eq ..).trans ?_
  simp only [State.dispatched, ← List.append_assoc]
  rfl

theorem State.checkStanding_dispatched : (s.dispatched d published handed).checkStanding =
    s.dispatched (if stands s.batteryPresent d then d else d.commanded (s.dispatchComputed d .battery)) published
      (handed ++ if stands s.batteryPresent d then [] else [s.handoverOf (s.dispatchComputed d .battery) none]) := by
  show (if stands s.batteryPresent d = true then _ else _) = _
  split
  · rw [List.append_nil]
  · exact s.computeCommand_dispatched d published handed .battery

theorem State.evaluateAllowance_setDispatch : (s.setDispatch d).evaluateAllowance =
    s.dispatched (d.reallowed s.batteryPresent)
      (if allowanceOf s.batteryPresent d = d.allowance then [] else [allowanceOf s.batteryPresent d]) [] := by
  rw [State.evaluateAllowance_eq, State.dispatched, List.append_nil]
  rfl

/-- R76, R77, R73: the allowance evaluated, the target checked when the allowance changed, and then a computation: the
check adds no more than a hand-over. -/
theorem State.reevaluate_computeCommand (t : DispatchTrigger) :
    (if (s.setDispatch d).evaluateAllowance.dispatch.allowance = d.allowance then (s.setDispatch d).evaluateAllowance
      else (s.setDispatch d).evaluateAllowance.checkStanding).computeCommand t =
    s.dispatched ((d.reallowed s.batteryPresent).commanded (s.dispatchComputed (d.reallowed s.batteryPresent) t))
      (if allowanceOf s.batteryPresent d = d.allowance then [] else [allowanceOf s.batteryPresent d])
      ((if allowanceOf s.batteryPresent d != d.allowance && !stands s.batteryPresent (d.reallowed s.batteryPresent)
          then [s.handoverOf (s.dispatchComputed (d.reallowed s.batteryPresent) .battery) none] else []) ++
        [s.handoverOf (s.dispatchComputed (d.reallowed s.batteryPresent) t) (if t = .result then d.basis else none)]) := by
  rw [s.evaluateAllowance_setDispatch d]
  show (if allowanceOf s.batteryPresent d = d.allowance then _ else _ : State).computeCommand t = _
  by_cases hw : allowanceOf s.batteryPresent d = d.allowance
  · rw [if_pos hw, State.computeCommand_dispatched]
    simp only [hw, bne_self_eq_false, Bool.false_and, Bool.false_eq_true, if_false]
    rfl
  · rw [if_neg hw, State.checkStanding_dispatched,
      State.computeCommand_dispatched]
    cases hst : stands s.batteryPresent (d.reallowed s.batteryPresent) with
    | true =>
      simp only [Bool.not_true, Bool.and_false, Bool.false_eq_true, if_true, if_false]
      rfl
    | false =>
      simp only [bne_iff_ne.2 hw, Bool.not_false, Bool.and_true, Bool.false_eq_true, if_true, if_false, if_neg hw]
      exact congrArg (State.dispatched s · _ _) (BatteryDispatchUnit.commanded_commanded ..)

end

/-- A battery report or a change of freshness, taken by the unit. -/
theorem State.evaluateAndCheck_setDispatch (s : State) (d : BatteryDispatchUnit) :
    (s.setDispatch d).evaluateAllowance.checkStanding =
    s.dispatched (if stands s.batteryPresent (d.reallowed s.batteryPresent) then d.reallowed s.batteryPresent
        else (d.reallowed s.batteryPresent).commanded (s.dispatchComputed (d.reallowed s.batteryPresent) .battery))
      (if allowanceOf s.batteryPresent d = d.allowance then [] else [allowanceOf s.batteryPresent d])
      (if stands s.batteryPresent (d.reallowed s.batteryPresent) then []
        else [s.handoverOf (s.dispatchComputed (d.reallowed s.batteryPresent) .battery) none]) := by
  rw [State.evaluateAllowance_setDispatch, State.checkStanding_dispatched, List.nil_append]

/-! ### The events of the Battery Dispatch Unit (R74, R77, R78, R84) -/

/-- The unit with a result's total, round and urgent release, before the allowance is looked at (R64, R77, R78). -/
def BatteryDispatchUnit.taken (d : BatteryDispatchUnit) (r : AllocationResult) : BatteryDispatchUnit :=
  { d with lastTotal := some r.total, basis := some r.round, urgent := decide (0 < r.urgent) }

section
variable (s : State) (d : BatteryDispatchUnit) (r : AllocationResult)

/-- R77: a result that leaves urgent release as it is does not evaluate the allowance. -/
theorem State.applyUrgent_same (h : decide (0 < r.urgent) = d.urgent) :
    (s.setDispatch { d with lastTotal := some r.total, basis := some r.round }).applyUrgent r.urgent =
      s.dispatched (d.taken r) [] [] := by
  refine (if_pos h).trans ?_
  simp only [BatteryDispatchUnit.taken, h, State.dispatched, List.append_nil]
  rfl

/-- R77: a result that changes urgent release. -/
theorem State.applyUrgent_changed (h : decide (0 < r.urgent) ≠ d.urgent) :
    (s.setDispatch { d with lastTotal := some r.total, basis := some r.round }).applyUrgent r.urgent =
      if (s.setDispatch (d.taken r)).evaluateAllowance.dispatch.allowance = (d.taken r).allowance
      then (s.setDispatch (d.taken r)).evaluateAllowance
      else (s.setDispatch (d.taken r)).evaluateAllowance.checkStanding :=
  if_neg h

end

/-- Settles O35, event by event: each is one replacement of the unit with what it publishes and hands over. -/
theorem dispatchEventsComputeAndHandOver : Obligations.DispatchEventsComputeAndHandOver := by
  intro s old published checked
  refine ⟨fun r rest h => ?_, fun c rest h => ?_, fun soc power maxCharge maxDischarge state rest h => ?_,
    fun fresh rest h => ?_, fun d t k => nth_storeLimits (s.dispatchComputed_limits_sublist d t) d.limits k⟩
  · intro urgent taken w d falls
    have hexec : exec .allocationResultDispatch s =
        done ((((s.setEvents { s.events with resultsToDispatch := rest }).setDispatch { s.dispatch with
          lastTotal := some r.total, basis := some r.round }).applyUrgent r.urgent).computeCommand .result) := by
      show execAllocationResultDispatch s = _
      simp only [execAllocationResultDispatch, h]
    rw [hexec, List.append_assoc]
    by_cases hu : urgent = s.dispatch.urgent
    · have hw : w = old := if_pos hu
      rw [State.applyUrgent_same _ s.dispatch r hu, State.computeCommand_dispatched]
      have hd : d = s.dispatch.taken r := congrArg (fun a => ({ taken with allowance := a } : BatteryDispatchUnit)) hw
      have hfalls : falls = false := by simp only [falls, hw, bne_self_eq_false, Bool.false_and]
      have hpublished : published w = s.events.allowances ++ [] := congrArg (s.events.allowances ++ ·) (if_pos hw)
      rw [hd, hfalls, hpublished]
      rfl
    · have hw : w = allowanceOf s.batteryPresent taken := if_neg hu
      rw [State.applyUrgent_changed _ s.dispatch r hu, State.reevaluate_computeCommand]
      have hd : d = (s.dispatch.taken r).reallowed s.batteryPresent :=
        congrArg (fun a => ({ taken with allowance := a } : BatteryDispatchUnit)) hw
      have hfalls : falls = (allowanceOf s.batteryPresent taken != old &&
        !stands s.batteryPresent ((s.dispatch.taken r).reallowed s.batteryPresent)) := by rw [← hd, ← hw]
      rw [hd, hfalls, hw]
      rfl
  · show execSiteStateChangeDispatch s = _
    simp only [execSiteStateChangeDispatch, h, State.computeCommand_eq]
    rfl
  · show execBatteryReport s = _
    simp only [execBatteryReport, h, State.evaluateAndCheck_setDispatch]
    rfl
  · show execBatteryFreshnessChange s = _
    simp only [execBatteryFreshnessChange, h, State.evaluateAndCheck_setDispatch]
    rfl

/-! ### SET_BATTERY_POLICY (R73) -/

/-- The settings that a request carries. -/
def requestedPolicy (f : PolicyFields) : BatteryPolicy :=
  { hardFloor := f.hardFloor, softReserve := f.softReserve, fullLimit := f.fullLimit
    dischargeCap := f.dischargeCap, chargeCap := f.chargeCap, topUp := f.topUp }

theorem policyAccepted_iff {part : PartState} {f : PolicyFields} : policyAccepted part f = true ↔
    f.hardFloor ≤ 1000 ∧ f.softReserve ≤ 1000 ∧ f.fullLimit ≤ 1000 ∧ f.dischargeCap ≤ 1000000 ∧ f.chargeCap ≤ 1000000 ∧
      f.topUp ≤ 1000000 ∧ (part = .live → f.hardFloor < f.softReserve ∧ f.softReserve < f.fullLimit) :=
  decide_eq_true_iff

section
variable {s : State} {f : PolicyFields} {l : Link}

theorem handleSetBatteryPolicy_refused (h : policyAccepted s.links.part f ≠ true) :
    handleSetBatteryPolicy (s.frameEnd l) f = refuse (s.frameEnd l) .outOfRange := by
  rw [handleSetBatteryPolicy, State.frameEnd_part]
  exact if_neg h

theorem handleSetBatteryPolicy_setup (h : policyAccepted s.links.part f = true) (hp : s.links.part = .setup) :
    handleSetBatteryPolicy (s.frameEnd l) f = ok ((s.setDispatch { s.dispatch with policy := requestedPolicy f }).frameEnd l) := by
  rw [handleSetBatteryPolicy, State.frameEnd_part, if_pos h]
  exact if_neg fun e : s.links.part = .live => absurd (hp.symm.trans e) (by decide)

theorem handleSetBatteryPolicy_live (h : policyAccepted s.links.part f = true) (hp : s.links.part = .live) :
    handleSetBatteryPolicy (s.frameEnd l) f =
      let set : BatteryDispatchUnit := { s.dispatch with policy := requestedPolicy f }
      let d := set.reallowed s.batteryPresent
      ok ((s.dispatched (d.commanded (s.dispatchComputed d .policy)) (if d.allowance = set.allowance then [] else [d.allowance])
        ((if d.allowance != set.allowance && !stands s.batteryPresent d
            then [s.handoverOf (s.dispatchComputed d .battery) none] else []) ++
          [s.handoverOf (s.dispatchComputed d .policy) none])).frameEnd l) := by
  rw [handleSetBatteryPolicy, State.frameEnd_part, if_pos h]
  refine (if_pos hp).trans ?_
  exact congrArg ok ((s.frameEnd l).reevaluate_computeCommand { s.dispatch with policy := requestedPolicy f } .policy)

end

/-- Settles O11 by the three answers of `handleSetBatteryPolicy`. -/
theorem setBatteryPolicyIsCheckedInLive : Obligations.SetBatteryPolicyIsCheckedInLive := by
  intro s tag f hl policy run set d changed record
  have hrefused (h : policyAccepted s.links.part f ≠ true) : run = .next (s.replied .site 0x05#8 tag .outOfRange []) :=
    serve_site_answered s .outOfRange [] hl rfl (handleSetBatteryPolicy_refused h)
  refine ⟨fun h1 h2 h3 h4 h5 h6 => ⟨fun hp => ?_, fun hp hr hf => ?_, fun hp hn => ?_⟩, fun hout => ?_⟩
  · have hacc := policyAccepted_iff.2 ⟨h1, h2, h3, h4, h5, h6, fun e => absurd (hp.symm.trans e) (by decide)⟩
    exact serve_site_answered _ .ok [] hl rfl (handleSetBatteryPolicy_setup hacc hp)
  · have hacc := policyAccepted_iff.2 ⟨h1, h2, h3, h4, h5, h6, fun _ : s.links.part = .live => ⟨hr, hf⟩⟩
    refine (serve_site_answered _ .ok [] hl rfl (handleSetBatteryPolicy_live hacc hp)).trans ?_
    have hpub : (if changed then [d.allowance] else []) = if d.allowance = set.allowance then [] else [d.allowance] := by
      by_cases e : d.allowance = set.allowance
      · rw [if_pos e, if_neg (by simpa [changed] using e)]
      · rw [if_neg e, if_pos (by simpa [changed] using e)]
    rw [hpub, List.append_assoc]
    rfl
  · refine hrefused fun hacc => ?_
    obtain ⟨-, -, -, -, -, -, horder⟩ := policyAccepted_iff.1 hacc
    exact hn (horder hp)
  · refine hrefused fun hacc => ?_
    obtain ⟨h1, h2, h3, h4, h5, h6, -⟩ := policyAccepted_iff.1 hacc
    omega

end Sys2Proof.Machine

namespace Sys2Proof.Machine

/-! ### The canopy's limits (R82) -/

section
variable (b : SiteBalanceUnit)

/-- R82: of two fresh inverters, the one that takes the W left over rather than the other. -/
abbrev SiteBalanceUnit.outproduces (j k : Nat) : Prop :=
  (b.inverter k).available < (b.inverter j).available ∨ ((b.inverter k).available = (b.inverter j).available ∧ j < k)

theorem largestProducer_append_singleton (ks : List Nat) (k : Nat) : largestProducer b (ks ++ [k]) =
    match largestProducer b ks with
    | none => some k
    | some j => if (b.inverter j).available < (b.inverter k).available then some k else some j := by
  rw [largestProducer, List.foldl_append]
  rfl

/-- R82: among inverters in ascending order, the largest producer outproduces every other. -/
theorem exists_largestProducer {ks : List Nat} (hsort : ks.Pairwise (· < ·)) (hne : ks ≠ []) :
    ∃ m ∈ ks, largestProducer b ks = some m ∧ ∀ j ∈ ks, j ≠ m → b.outproduces m j := by
  induction ks using List.reverseRecOn with
  | nil => exact absurd rfl hne
  | append_singleton ks k ih =>
    obtain ⟨hsort', -, hlast⟩ := List.pairwise_append.1 hsort
    have hlt : ∀ j ∈ ks, j < k := fun j hj => hlast j hj k List.mem_cons_self
    rw [largestProducer_append_singleton]
    by_cases hks : ks = []
    · subst hks
      refine ⟨k, by simp, rfl, fun j hj hne => absurd (by simpa using hj) hne⟩
    · obtain ⟨m, hm, hlargest, hall⟩ := ih hsort' hks
      rw [hlargest]
      by_cases hk : (b.inverter m).available < (b.inverter k).available
      · refine ⟨k, by simp, if_pos hk, fun j hj hne => ?_⟩
        obtain hj | rfl : j ∈ ks ∨ j = k := by simpa using hj
        · by_cases hjm : j = m
          · exact .inl (hjm ▸ hk)
          · have := hall j hj hjm
            exact .inl (by omega)
        · exact absurd rfl hne
      · refine ⟨m, by simp [hm], if_neg hk, fun j hj hne => ?_⟩
        obtain hj | rfl : j ∈ ks ∨ j = k := by simpa using hj
        · exact hall j hj hne
        · have := hlt m hm
          simp only [SiteBalanceUnit.outproduces]
          omega

section
variable {b} {ks : List Nat} {k : Nat} (hsort : ks.Pairwise (· < ·)) (hk : k ∈ ks)
include hsort hk

theorem largestProducer_eq_of_outproduces (h : ∀ j ∈ ks, j ≠ k → b.outproduces k j) : largestProducer b ks = some k := by
  obtain ⟨m, hm, hlargest, hall⟩ := exists_largestProducer b hsort (List.ne_nil_of_mem hk)
  by_cases e : m = k
  · rw [hlargest, e]
  · have h1 := h m hm e
    have h2 := hall k hk fun e' => e e'.symm
    simp only [SiteBalanceUnit.outproduces] at h1 h2
    omega

theorem largestProducer_ne_of_outproduced (h : ∃ j ∈ ks, b.outproduces j k) : largestProducer b ks ≠ some k := by
  obtain ⟨m, hm, hlargest, hall⟩ := exists_largestProducer b hsort (List.ne_nil_of_mem hk)
  obtain ⟨j, hj, hjk⟩ := h
  rw [hlargest]
  rintro ⟨⟩
  have hjk' : j ≠ k := by rintro rfl; simp [SiteBalanceUnit.outproduces] at hjk
  have := hall j hj hjk'
  simp only [SiteBalanceUnit.outproduces] at hjk this
  omega

end

/-- The parts of a total, each rounded down, are within it. -/
theorem sum_map_mul_div_le {ι : Type} (ks : List ι) (a : ι → Nat) (t p : Nat) :
    (ks.map fun k => t * a k / p).sum ≤ t * (ks.map a).sum / p := by
  induction ks with
  | nil => simp
  | cons k ks ih =>
    simp only [List.map_cons, List.sum_cons, Nat.mul_add]
    exact (Nat.add_le_add_left ih _).trans (Nat.div_add_div_le_add_div ..)

theorem Measurement.available_of_stale {m : Measurement InverterValues} (h : m.fresh = false) : m.available = 0 := by
  simp [Measurement.available, h]

variable (f : FieldLinkController)

/-- R82: the inverters that share the curtail total. -/
abbrev freshInverters : List Nat := (presentInverters f).filter fun k => (b.inverter k).fresh

theorem freshInverters_sublist : (freshInverters b f).Sublist [1, 2, 3, 4] :=
  List.filter_sublist.trans (presentInverters_sublist f)

theorem freshInverters_sorted : (freshInverters b f).Pairwise (· < ·) :=
  List.Pairwise.sublist (freshInverters_sublist b f) (by decide)

theorem mem_freshInverters {k : Nat} :
    k ∈ freshInverters b f ↔ k ∈ presentInverters f ∧ (b.inverter k).fresh = true := List.mem_filter

/-- R82: the shares, before the W left over, are within the curtail total. -/
theorem sum_shareOf_le (total : Nat) : ((freshInverters b f).map (shareOf b b.pvEff total)).sum ≤ total := by
  have hpower : ((freshInverters b f).map fun k => (b.inverter k).available).sum ≤ b.pvEff :=
    ((freshInverters_sublist b f).map _).sum_le_sum fun _ _ => Nat.zero_le _
  calc ((freshInverters b f).map (shareOf b b.pvEff total)).sum
      ≤ total * ((freshInverters b f).map fun k => (b.inverter k).available).sum / b.pvEff := sum_map_mul_div_le ..
    _ ≤ total * b.pvEff / b.pvEff := Nat.div_le_div_right (Nat.mul_le_mul_left _ hpower)
    _ ≤ total := Nat.div_le_of_le_mul (Nat.mul_comm total b.pvEff).le

variable (total : Nat)

/-- R82: the W of the curtail total that rounding leaves over. -/
def leftOver : Nat := total - ((freshInverters b f).map (shareOf b b.pvEff total)).sum

/-- R82: what a fresh inverter takes of the curtail total, before its rated power caps it. -/
def portionOf (k : Nat) : Nat :=
  shareOf b b.pvEff total k + if largestProducer b (freshInverters b f) = some k then leftOver b f total else 0

theorem curtailedLimit_fresh {k : Nat} (h : (b.inverter k).fresh = true) :
    curtailedLimit f b b.pvEff total k = min (portionOf b f total k) (ratedOf f k) := if_pos h

theorem curtailedLimit_stale {k : Nat} (pvEff : Nat) (h : (b.inverter k).fresh = false) :
    curtailedLimit f b pvEff total k = 0 :=
  if_neg (by simp [h])

theorem curtailedLimit_le_rated (k : Nat) : curtailedLimit f b b.pvEff total k ≤ ratedOf f k := by
  cases h : (b.inverter k).fresh with
  | true => rw [curtailedLimit_fresh b f total h]; exact Nat.min_le_right _ _
  | false => rw [curtailedLimit_stale b f total _ h]; exact Nat.zero_le _

theorem limitsOf_limits (pvEff : Nat) : (limitsOf f b pvEff (some total)).map Prod.snd =
    (presentInverters f).map (curtailedLimit f b pvEff total) := List.map_map

/-- The stale inverters add nothing to the sum of the limits. -/
theorem sum_curtailedLimit : ((presentInverters f).map (curtailedLimit f b b.pvEff total)).sum =
    ((freshInverters b f).map fun k => min (portionOf b f total k) (ratedOf f k)).sum := by
  have hite : curtailedLimit f b b.pvEff total = fun k =>
      if (b.inverter k).fresh = true then min (portionOf b f total k) (ratedOf f k) else 0 := rfl
  rw [hite, List.sum_map_ite]
  simp [freshInverters]

/-- R82: the shares and the W left over make up the curtail total. -/
theorem sum_portionOf (h : freshInverters b f ≠ []) : ((freshInverters b f).map (portionOf b f total)).sum = total := by
  obtain ⟨m, hm, hlargest, -⟩ := exists_largestProducer b (freshInverters_sorted b f) h
  have hnodup : (freshInverters b f).Nodup := (freshInverters_sublist b f).nodup (by decide)
  have hextra : ((freshInverters b f).map fun k => if m = k then leftOver b f total else 0).sum = leftOver b f total := by
    rw [← List.sum_toFinset _ hnodup, Finset.sum_ite_eq, if_pos (List.mem_toFinset.2 hm)]
  have hportion : portionOf b f total = fun k => shareOf b b.pvEff total k + if m = k then leftOver b f total else 0 := by
    funext k
    simp only [portionOf, hlargest, Option.some.injEq]
  rw [hportion, List.sum_map_add, hextra]
  exact Nat.add_sub_of_le (sum_shareOf_le b f total)

theorem sum_curtailedLimit_le : ((presentInverters f).map (curtailedLimit f b b.pvEff total)).sum ≤ total := by
  rw [sum_curtailedLimit]
  by_cases h : freshInverters b f = []
  · simp [h]
  · exact (List.sum_le_sum fun k _ => Nat.min_le_left _ _).trans (sum_portionOf b f total h).le

/-- R82: no rated power below the curtail total cuts a share. -/
theorem sum_curtailedLimit_eq (hfresh : freshInverters b f ≠ []) (hrated : ∀ k ∈ presentInverters f, total ≤ ratedOf f k) :
    ((presentInverters f).map (curtailedLimit f b b.pvEff total)).sum = total := by
  have hle : ∀ k ∈ freshInverters b f, portionOf b f total k ≤ ratedOf f k := fun k hk =>
    calc portionOf b f total k
        ≤ ((freshInverters b f).map (portionOf b f total)).sum :=
          List.single_le_sum (fun _ _ => Nat.zero_le _) _ (List.mem_map_of_mem hk)
      _ = total := sum_portionOf b f total hfresh
      _ ≤ ratedOf f k := hrated k ((mem_freshInverters b f).1 hk).1
  rw [sum_curtailedLimit, List.map_congr_left fun k hk => Nat.min_eq_left (hle k hk)]
  exact sum_portionOf b f total hfresh

/-- Where only present inverters are fresh, the canopy has available power only through a fresh present one (R42). -/
theorem freshInverters_ne_nil
    (habsent : ∀ k, (f.unit (34 + k)).present = false → 1 ≤ k → k ≤ 4 → (b.inverter k).fresh = false) (hpv : b.pvEff ≠ 0) : freshInverters b f ≠ [] := by
  refine fun hnil => hpv (List.sum_eq_zero fun a ha => ?_)
  obtain ⟨k, hk, rfl⟩ := List.mem_map.1 ha
  obtain ⟨h1, h4⟩ := (by decide : ∀ k ∈ [1, 2, 3, 4], 1 ≤ k ∧ k ≤ 4) k hk
  refine Measurement.available_of_stale ?_
  cases hp : (f.unit (34 + k)).present with
  | false => exact habsent k hp h1 h4
  | true =>
    by_contra hf
    have hmem : k ∈ freshInverters b f :=
      (mem_freshInverters b f).2 ⟨List.mem_filter.2 ⟨hk, hp⟩, by simpa using hf⟩
    rw [hnil] at hmem
    exact List.not_mem_nil hmem

/-- R82: without available power, no share and no W left over. -/
theorem curtailedLimit_zero (k : Nat) : curtailedLimit f b 0 0 k = 0 := by
  simp [curtailedLimit, shareOf]

end

/-- Settles O34: every limit is the one of `curtailedLimit`, the largest producer the one of `exists_largestProducer`. -/
theorem curtailmentIsShared : Obligations.CurtailmentIsShared := by
  intro f b total
  refine ⟨fun h => ?_, fun hpv => ?_⟩
  · rw [h]
    exact List.map_congr_left fun k _ => congrArg (Prod.mk k) (curtailedLimit_zero b f k)
  · intro limits power fresh share
    have hlimit : ∀ k ∈ fresh, ∀ w, min (portionOf b f total k) (ratedOf f k) = w → (k, w) ∈ limits := fun k hk w hw => by
      obtain ⟨hpresent, hfresh⟩ := (mem_freshInverters b f).1 hk
      exact List.mem_map.2 ⟨k, hpresent, congrArg (Prod.mk k) ((curtailedLimit_fresh b f total hfresh).trans hw)⟩
    refine ⟨limitsOf_numbers .., ?_, fun x hx => ?_, fun habsent hrated => ?_, fun k hk hout => hlimit k hk _ ?_,
      fun k hk hbest => hlimit k hk _ ?_⟩
    · rw [limitsOf_limits]
      exact sum_curtailedLimit_le b f total
    · obtain ⟨k, -, rfl⟩ := List.mem_map.1 hx
      exact ⟨curtailedLimit_le_rated b f total k, curtailedLimit_stale b f total _⟩
    · rw [limitsOf_limits]
      exact sum_curtailedLimit_eq b f total (freshInverters_ne_nil b f habsent hpv) hrated
    · rw [portionOf, if_neg (largestProducer_ne_of_outproduced (freshInverters_sorted b f) hk hout)]
      rfl
    · rw [portionOf, if_pos (largestProducer_eq_of_outproduces (freshInverters_sorted b f) hk hbest)]
      rfl

end Sys2Proof.Machine

namespace Sys2Proof.Machine

/-! ### The allowance and the cases of a computation (R75, R79 to R84) -/

section
variable {present : Bool} {d : BatteryDispatchUnit} {v : BatteryValues}

theorem trusted_eq_some_iff :
    trusted present d = some v ↔ present = true ∧ d.fresh = true ∧ d.copy = some v := by
  unfold trusted
  cases present <;> cases d.fresh <;> simp

theorem trusted_eq_none (h : present = false ∨ d.fresh = false ∨ d.copy = none) : trusted present d = none :=
  Option.eq_none_iff_forall_ne_some.2 fun v hv => by
    obtain ⟨hp, hf, hc⟩ := trusted_eq_some_iff.1 hv
    simp [hp, hf, hc] at h

/-- R79. -/
theorem usable_eq_some_iff : usable present d = some v ↔
    present = true ∧ d.fresh = true ∧ d.copy = some v ∧ v.state = .ready := by
  have h : usable present d = some v ↔ trusted present d = some v ∧ v.state = .ready := by
    unfold usable
    cases trusted present d with
    | none => simp
    | some w =>
      simp only [Option.ite_none_right_eq_some, Option.some.injEq]
      constructor
      · rintro ⟨hw, rfl⟩
        exact ⟨rfl, hw⟩
      · rintro ⟨rfl, hw⟩
        exact ⟨hw, rfl⟩
  rw [h, trusted_eq_some_iff, and_assoc, and_assoc]

/-- R75: the first row. -/
theorem allowanceOf_untrusted (h : trusted present d = none) : allowanceOf present d = 0 := by
  simp only [allowanceOf, h]

/-- R75: the rows below, of the copy's values. -/
theorem allowanceOf_trusted (h : trusted present d = some v) : allowanceOf present d =
    if v.state ≠ .ready ∨ v.soc ≤ d.policy.hardFloor then 0
    else if d.policy.softReserve < v.soc ∨ d.urgent = true then min v.maxDischarge d.policy.dischargeCap else 0 := by
  simp only [allowanceOf, h]
  by_cases hready : v.state ≠ .ready
  · rw [if_pos hready, if_pos (.inl hready)]
  · by_cases hfloor : v.soc ≤ d.policy.hardFloor
    · rw [if_neg hready, if_pos hfloor, if_pos (.inr hfloor)]
    · rw [if_neg hready, if_neg hfloor, if_neg (not_or.2 ⟨hready, hfloor⟩)]
      by_cases hsoft : d.policy.softReserve < v.soc
      · rw [if_pos hsoft, if_pos (.inl hsoft)]
      · simp only [hsoft, if_false, false_or]

/-- R75: no value of the copy is trusted, or its values are those of the copy. -/
theorem allowanceOf_eq_zero (hc : d.copy = some v) (h : v.state ≠ .ready ∨ v.soc ≤ d.policy.hardFloor) :
    allowanceOf present d = 0 := by
  cases ht : trusted present d with
  | none => exact allowanceOf_untrusted ht
  | some w =>
    obtain ⟨-, -, hw⟩ := trusted_eq_some_iff.1 ht
    obtain rfl : v = w := Option.some.inj (hc.symm.trans hw)
    rw [allowanceOf_trusted ht, if_pos h]

end

theorem chargeOrIdle_eq (w : Nat) : chargeOrIdle w = if w = 0 then .idle else .charge w := by
  cases w <;> rfl

theorem dischargeOrIdle_eq (w : Nat) : dischargeOrIdle w = if w = 0 then .idle else .discharge w := by
  cases w <;> rfl

section
variable {d : BatteryDispatchUnit} {u : Option BatteryValues} {net limit : Int} {exportLimit pvEff : Nat}

theorem outcomeOf_normal {site : SiteState} (h : site = .normal ∨ site = .starting) :
    outcomeOf site u d net limit exportLimit pvEff = normalOutcome u d net limit exportLimit pvEff := by
  obtain rfl | rfl := h <;> rfl

/-- R80. -/
theorem normalOutcome_peak (h : limit < net) : normalOutcome u d net limit exportLimit pvEff =
    releasedOutcome .peak (match u with
      | none => .idle
      | some _ => dischargeOrIdle (min (net - limit).toNat d.allowance)) := if_pos h

/-- R81. -/
theorem normalOutcome_surplus (h : net ≤ limit) (hn : net < 0) : normalOutcome u d net limit exportLimit pvEff =
    surplusOutcome .surplus net (surplusCharge u d.policy (-net).toNat) exportLimit pvEff :=
  (if_neg (by omega)).trans (if_pos hn)

/-- R83, without a usable battery. -/
theorem normalOutcome_rest_none (h : net ≤ limit) (hn : 0 ≤ net) :
    normalOutcome none d net limit exportLimit pvEff = releasedOutcome .balanced .idle :=
  (if_neg (by omega)).trans (if_neg (by omega))

/-- R83. -/
theorem normalOutcome_rest_some {v : BatteryValues} (h : net ≤ limit) (hn : 0 ≤ net) :
    normalOutcome (some v) d net limit exportLimit pvEff =
      if v.soc < d.policy.softReserve ∧ d.urgent = false then
        releasedOutcome .topUp (chargeOrIdle (min (limit - net).toNat (min d.policy.topUp v.maxCharge)))
      else releasedOutcome .balanced .idle :=
  (if_neg (by omega)).trans (if_neg (by omega))

/-- R79: without a usable battery the target is IDLE. -/
theorem normalOutcome_unusable : (normalOutcome none d net limit exportLimit pvEff).target = .idle := by
  by_cases hl : limit < net
  · rw [normalOutcome_peak hl]
    rfl
  · by_cases hn : net < 0
    · rw [normalOutcome_surplus (by omega) hn]
      rfl
    · rw [normalOutcome_rest_none (by omega) (by omega)]
      rfl

end

/-- Settles O33: the rows of R75, the cases of R80 to R84 and the conditions of R85, each by its lemma. -/
theorem allowanceAndBatteryCommandFollowTheCases : Obligations.AllowanceAndBatteryCommandFollowTheCases := by
  refine ⟨fun present d => ⟨fun h => allowanceOf_untrusted (trusted_eq_none h), fun v hc =>
      ⟨allowanceOf_eq_zero hc, fun hp hf hr hs => ?_⟩⟩,
    ?_, fun f b pv => rfl, fun present d => ⟨fun v => usable_eq_some_iff, ?_⟩⟩
  · rw [allowanceOf_trusted (trusted_eq_some_iff.2 ⟨hp, hf, hc⟩), if_neg (not_or.2 ⟨not_not.2 hr, by omega⟩)]
  · intro site u d net limit exportKw pv o normal
    refine ⟨fun h => ?_, fun h => ?_, fun h hu => ?_, fun h hl => ?_, fun h hl hn => ?_, fun h hl hn => ?_⟩
    · subst h
      exact ⟨rfl, rfl, rfl⟩
    · subst h
      have hremaining : -net - ((0 : Nat) : Int) = -net := sub_zero _
      have hcurtail : o.curtail = if (exportKw : Int) * 1000 < -net
          then some ((pv : Int) - (-net - exportKw * 1000)).toNat else none := by
        rw [← hremaining]
        rfl
      exact ⟨rfl, rfl, rfl, rfl, congrArg some hremaining, fun h0 => hcurtail.trans (if_neg (by omega)), fun _ => hcurtail⟩
    · simp only [o, outcomeOf_normal h, hu, normalOutcome_unusable]
    · simp only [o, outcomeOf_normal h, normalOutcome_peak hl]
      refine ⟨rfl, rfl, fun v hv => ?_⟩
      rw [hv, ← dischargeOrIdle_eq]
      rfl
    · simp only [o, outcomeOf_normal h, normalOutcome_surplus hl hn]
      refine ⟨rfl, surplusCharge u d.policy (-net).toNat, rfl, rfl, rfl, chargeOrIdle_eq _, fun v hv => ?_, rfl⟩
      rw [hv]
      rfl
    · constructor
      · cases u with
        | none => simp only [o, outcomeOf_normal h, normalOutcome_rest_none hl hn]; rfl
        | some v =>
          simp only [o, outcomeOf_normal h, normalOutcome_rest_some hl hn]
          split <;> rfl
      · rintro v rfl
        simp only [o, outcomeOf_normal h, normalOutcome_rest_some hl hn]
        refine ⟨fun hs hu => ?_, fun hr => ?_⟩
        · rw [if_pos ⟨hs, hu⟩, ← chargeOrIdle_eq]
          exact ⟨rfl, rfl⟩
        · have hnot : ¬ (v.soc < d.policy.softReserve ∧ d.urgent = false) := by
            rintro ⟨hs, hu⟩
            obtain hr | hr := hr
            · omega
            · exact absurd (hr.symm.trans hu) (by decide)
          rw [if_neg hnot]
          exact ⟨rfl, rfl⟩
  · rw [stands_iff]
    cases d.target with
    | idle => exact Iff.rfl
    | islandSupport => exact Iff.rfl
    | discharge w => exact and_congr_left' Option.isSome_iff_exists
    | charge w =>
      refine exists_congr fun v => and_congr_right fun _ => ?_
      by_cases htop : d.record.map DispatchRecord.case = some .topUp
      · simp only [htop, if_true, true_imp_iff, ne_eq, not_true_eq_false, false_imp_iff, and_true]
      · simp only [htop, if_false, false_imp_iff, ne_eq, not_false_eq_true, true_imp_iff, true_and]

end Sys2Proof.Machine

namespace Sys2Proof.Machine

/-! ## The Field Link Controller: its operations on the unit table, the urgent queue and the decrease set

### The next poll (R93 to R95, R104) -/

section
variable (f : FieldLinkController)

/-- R94: the choice of the next poll touches the queue, the cycle position and the transaction. -/
theorem FieldLinkController.nextPoll_frame : f.nextPoll =
    { f with urgent := f.nextPoll.urgent, position := f.nextPoll.position, transaction := f.nextPoll.transaction } := by
  unfold FieldLinkController.nextPoll
  split
  · rfl
  · split <;> rfl

@[simp] theorem FieldLinkController.nextPoll_units : f.nextPoll.units = f.units := by rw [f.nextPoll_frame]

@[simp] theorem FieldLinkController.nextPoll_decrease : f.nextPoll.decrease = f.decrease := by rw [f.nextPoll_frame]

@[simp] theorem FieldLinkController.nextPoll_cycle : f.nextPoll.cycle = f.cycle := by rw [f.nextPoll_frame]

@[simp] theorem FieldLinkController.nextPoll_reports : f.nextPoll.reports = f.reports := by rw [f.nextPoll_frame]

/-- Entries only leave the queue as a poll begins. -/
theorem FieldLinkController.nextPoll_queue_sublist : f.nextPoll.urgent.Sublist f.urgent := by
  unfold FieldLinkController.nextPoll
  split
  · exact List.filter_sublist
  · split
    · exact .refl _
    · exact List.filter_sublist

end

/-- R93: the position moves on within the cycle, from the last entry to the first. -/
theorem FieldLinkController.advance_eq {f : FieldLinkController} (h : f.position < f.cycle.length) :
    f.advance = { f with position := (f.position + 1) % f.cycle.length } := by
  unfold FieldLinkController.advance
  split
  · rename_i hlt
    rw [Nat.mod_eq_of_lt hlt]
  · rw [show f.position + 1 = f.cycle.length by omega, Nat.mod_self]

/-- Settles O36, by the head of the urgent queue and the entry at the cycle position. -/
theorem nextPollFollowsQueueThenCycle : Obligations.NextPollFollowsQueueThenCycle := by
  intro f poll
  have hpoll : ∀ (u : ℕ) (urgent : Bool), poll u urgent =
      { unit := u, command := f.sendable u, urgent := urgent, timeout := f.replyTimeout, replyTimer := none } :=
    fun _ _ => rfl
  refine ⟨fun e rest h => ?_, fun u hurgent hu => ?_, fun hurgent hnone => ?_⟩
  · rw [hpoll, FieldLinkController.nextPoll, h]
    simp only [FieldLinkController.poll, removeUrgent, h]
  · obtain ⟨hlt, -⟩ := List.getElem?_eq_some_iff.1 hu
    simp only [FieldLinkController.nextPoll, hurgent, hu, hpoll, FieldLinkController.advance_eq hlt]
    simp only [FieldLinkController.poll, removeUrgent]
    rfl
  · simp only [FieldLinkController.nextPoll, hurgent, hnone]

end Sys2Proof.Machine

namespace Sys2Proof.Machine

/-! ### One unit assessed (R100, R102, R103) -/

section
variable (f : FieldLinkController) (u v : ℕ)

theorem filter_removeUrgent (q : List UrgentEntry) :
    (removeUrgent u q).filter (fun e => e.unit != u) = q.filter fun e => e.unit != u := by
  simp [removeUrgent, List.filter_filter]

theorem removeUrgent_eq_self {u : ℕ} {q : List UrgentEntry} (h : ∀ e ∈ q, e.unit ≠ u) : removeUrgent u q = q :=
  List.filter_eq_self.2 fun e he => bne_iff_ne.2 (h e he)

theorem FieldLinkController.assess_queue_others :
    (f.assess u).urgent.filter (fun e => e.unit != u) = f.urgent.filter fun e => e.unit != u := by
  unfold FieldLinkController.assess
  cases (f.unit u).figure with
  | none => exact filter_removeUrgent u _
  | some w => exact (filter_insertUrgent (by simp) _).trans (filter_removeUrgent u _)

/-- R103: recording a delivered command renews the unit's entry in the queue, if it has one. -/
theorem FieldLinkController.reassess_queue :
    (f.reassess u).urgent = if ∃ e ∈ f.urgent, e.unit = u then (f.assess u).urgent else f.urgent := by
  unfold FieldLinkController.reassess FieldLinkController.assess
  by_cases h : ∃ e ∈ f.urgent, e.unit = u
  · have hany : (f.urgent.any fun e => e.unit == u) = true := by simpa using h
    cases (f.unit u).figure with
    | none => simp [h]
    | some w => simp [h, hany]
  · have hany : (f.urgent.any fun e => e.unit == u) = false := by simpa using h
    cases (f.unit u).figure with
    | none => simp only [h, if_false]; exact removeUrgent_eq_self fun e he k => h ⟨e, he, k⟩
    | some w => simp [h, hany]

/-- R103: a unit whose target is no decrease leaves the set; otherwise membership stays. -/
theorem FieldLinkController.reassess_set :
    (f.reassess u).decrease = if (f.unit u).figure.isSome then f.decrease else removeMember u f.decrease := by
  unfold FieldLinkController.reassess
  cases (f.unit u).figure with
  | none => rfl
  | some w => simp only; split <;> rfl

theorem FieldLinkController.reassess_frame : f.reassess u =
    { f with urgent := (f.reassess u).urgent, decrease := (f.reassess u).decrease } := by
  unfold FieldLinkController.reassess
  split
  · rfl
  · split <;> rfl

@[simp] theorem FieldLinkController.reassess_unit : (f.reassess u).unit v = f.unit v := by
  rw [f.reassess_frame u]
  rfl

end

end Sys2Proof.Machine

namespace Sys2Proof.Machine

/-! ### A transaction ends: the controller (R95, R97, R102, R103) -/

section
variable (f : FieldLinkController) {u : ℕ} (v : ℕ) (c : Command) (now : ℕ)

/-- R95: the entry of a unit whose valid reply has been recorded. -/
def FieldUnit.replied (x : FieldUnit) (c : Command) (now : ℕ) : FieldUnit :=
  { x with delivered := c, lastReport := some now, misses := 0, health := .ok }

/-- R95, R97: a valid reply recorded, before a unit back from LOST is assessed afresh. -/
def FieldLinkController.confirm (f : FieldLinkController) (u : ℕ) (c : Command) (now : ℕ) : FieldLinkController :=
  let g := (f.setUnit u { f.unit u with delivered := c }).reassess u
  { g.setUnit u { g.unit u with lastReport := some now, misses := 0, health := .ok } with reports := g.reports + 1 }

theorem FieldLinkController.recordReply_eq (u : ℕ) : f.recordReply u c now =
    if (f.unit u).health = .lost then (f.confirm u c now).assess u else f.confirm u c now := rfl

theorem FieldLinkController.confirm_frame (u : ℕ) : f.confirm u c now =
    { f with units := (f.confirm u c now).units, urgent := (f.confirm u c now).urgent,
             decrease := (f.confirm u c now).decrease, reports := f.reports + 1 } := by
  simp only [FieldLinkController.confirm]
  rw [FieldLinkController.reassess_frame]
  rfl

theorem FieldLinkController.recordReply_frame (u : ℕ) : f.recordReply u c now =
    { f with units := (f.recordReply u c now).units, urgent := (f.recordReply u c now).urgent,
             decrease := (f.recordReply u c now).decrease, reports := f.reports + 1 } := by
  rw [f.recordReply_eq]
  split
  · rw [FieldLinkController.assess_frame, f.confirm_frame]
  · exact f.confirm_frame c now u

variable (h1 : 1 ≤ u) (h2 : u ≤ 39)
include h1 h2

theorem FieldLinkController.confirm_unit :
    (f.confirm u c now).unit v = if v = u then (f.unit u).replied c now else f.unit v := by
  have hg : ∀ w, ((f.setUnit u { f.unit u with delivered := c }).reassess u).unit w =
      if w = u then { f.unit u with delivered := c } else f.unit w := fun w =>
    (FieldLinkController.reassess_unit ..).trans (f.unit_setUnit u w _ h1 h2)
  refine (FieldLinkController.unit_setUnit _ u v _ h1 h2).trans ?_
  rw [hg, hg, if_pos rfl]
  split <;> rfl

theorem FieldLinkController.recordReply_unit :
    (f.recordReply u c now).unit v = if v = u then (f.unit u).replied c now else f.unit v := by
  rw [f.recordReply_eq]
  split
  · exact (FieldLinkController.assess_unit ..).trans (f.confirm_unit v c now h1 h2)
  · exact f.confirm_unit v c now h1 h2

/-- R95 step 1: the delivered command recorded gives the unit's target its new figure. -/
theorem FieldLinkController.figure_of_delivered :
    ((f.setUnit u { f.unit u with delivered := c }).unit u).figure = removalFigure c (f.unit u).target := by
  rw [f.unit_setUnit u u _ h1 h2, if_pos rfl]
  rfl

theorem FieldLinkController.confirm_queue_same : (f.confirm u c now).urgent.filter (fun e => e.unit == u) =
    if ∃ e ∈ f.urgent, e.unit = u then urgentEntries u (removalFigure c (f.unit u).target) else [] := by
  refine (congrArg (List.filter _) (FieldLinkController.reassess_queue ..)).trans ?_
  by_cases h : ∃ e ∈ f.urgent, e.unit = u
  · rw [if_pos h, ← f.figure_of_delivered c h1 h2, if_pos (by exact h)]
    exact FieldLinkController.assess_queue_same ..
  · rw [if_neg h, if_neg (by exact h)]
    exact List.filter_eq_nil_iff.2 fun e he k => h ⟨e, he, beq_iff_eq.1 k⟩

theorem FieldLinkController.confirm_members : v ∈ (f.confirm u c now).decrease ↔
    if v = u then (removalFigure c (f.unit u).target).isSome = true ∧ u ∈ f.decrease else v ∈ f.decrease := by
  refine (iff_of_eq (congrArg (v ∈ ·) (FieldLinkController.reassess_set ..))).trans ?_
  rw [f.figure_of_delivered c h1 h2]
  by_cases h : (removalFigure c (f.unit u).target).isSome = true
  · rw [if_pos h]
    split
    · rename_i e
      subst e
      exact (and_iff_right h).symm
    · exact Iff.rfl
  · rw [if_neg h, mem_removeMember]
    split
    · rename_i e
      exact iff_of_false (fun k => k.1 e) fun k => h k.1
    · rename_i e
      exact and_iff_right e

theorem FieldLinkController.recordReply_queue_same : (f.recordReply u c now).urgent.filter (fun e => e.unit == u) =
    if (f.unit u).health = .lost ∨ ∃ e ∈ f.urgent, e.unit = u then urgentEntries u (removalFigure c (f.unit u).target)
    else [] := by
  rw [f.recordReply_eq]
  by_cases hl : (f.unit u).health = .lost
  · rw [if_pos hl, if_pos (.inl hl), FieldLinkController.assess_queue_same, f.confirm_unit u c now h1 h2, if_pos rfl]
    rfl
  · rw [if_neg hl, f.confirm_queue_same c now h1 h2]
    simp only [hl, false_or]

/-- R100 to R103: a unit back from LOST is a member if its target is a decrease, any other if it was one as well. -/
theorem FieldLinkController.recordReply_members : v ∈ (f.recordReply u c now).decrease ↔
    if v = u then (removalFigure c (f.unit u).target).isSome = true ∧ ((f.unit u).health = .lost ∨ u ∈ f.decrease)
    else v ∈ f.decrease := by
  rw [f.recordReply_eq]
  by_cases hl : (f.unit u).health = .lost
  · rw [if_pos hl, FieldLinkController.assess_members, f.confirm_unit u c now h1 h2, if_pos rfl]
    split
    · simp [hl, FieldUnit.replied, FieldUnit.figure]
    · rename_i e
      rw [f.confirm_members v c now h1 h2, if_neg e]
  · rw [if_neg hl, f.confirm_members v c now h1 h2]
    simp only [hl, false_or]

omit h1 h2

theorem FieldLinkController.confirm_queue_others (u : ℕ) :
    (f.confirm u c now).urgent.filter (fun e => e.unit != u) = f.urgent.filter fun e => e.unit != u := by
  refine (congrArg (List.filter _) (FieldLinkController.reassess_queue ..)).trans ?_
  split
  · exact FieldLinkController.assess_queue_others ..
  · rfl

theorem FieldLinkController.recordReply_queue_others (u : ℕ) :
    (f.recordReply u c now).urgent.filter (fun e => e.unit != u) = f.urgent.filter fun e => e.unit != u := by
  rw [f.recordReply_eq]
  split
  · rw [FieldLinkController.assess_queue_others, f.confirm_queue_others]
  · exact f.confirm_queue_others c now u

end

/-- R97: the entry of a unit after a miss. -/
def FieldUnit.missed (x : FieldUnit) : FieldUnit :=
  { x with misses := min 255 (x.misses + 1), health := missHealth x.health (min 255 (x.misses + 1)) }

/-- R100, R102: a unit out of the urgent queue and the decrease set. -/
def FieldLinkController.withdraw (f : FieldLinkController) (u : ℕ) : FieldLinkController :=
  { f with urgent := removeUrgent u f.urgent, decrease := removeMember u f.decrease }

theorem FieldLinkController.recordMiss_eq (f : FieldLinkController) (u : ℕ) : f.recordMiss u =
    (if (f.unit u).missed.health = .lost ∧ (f.unit u).health ≠ .lost then f.withdraw u else f).setUnit u
      (f.unit u).missed := by
  simp only [FieldLinkController.recordMiss]
  split
  · rename_i h
    rw [if_pos (by exact h)]
    rfl
  · rename_i h
    rw [if_neg (by exact h)]
    rfl

theorem FieldLinkController.recordMiss_unit (f : FieldLinkController) {u : ℕ} (v : ℕ) (h1 : 1 ≤ u) (h2 : u ≤ 39) :
    (f.recordMiss u).unit v = if v = u then (f.unit u).missed else f.unit v := by
  rw [f.recordMiss_eq, FieldLinkController.unit_setUnit _ u v _ h1 h2]
  split
  · rfl
  · split <;> rfl

theorem FieldLinkController.recordMiss_frame (f : FieldLinkController) (u : ℕ) : f.recordMiss u =
    { f with units := (f.recordMiss u).units, urgent := (f.recordMiss u).urgent, decrease := (f.recordMiss u).decrease } := by
  rw [f.recordMiss_eq]
  split <;> rfl

end Sys2Proof.Machine

namespace Sys2Proof.Machine

/-! ### A transaction ends: what the other blocks are told (R98, R99) -/

/-- R98: the event of a change of health, if there is one. -/
def healthChanges (u : ℕ) (before after : Health) : List HealthChange :=
  if before = after then [] else [{ unit := u, before := before, after := after }]

/-- R98: to the Site Balance Unit, and a charger's change to or from LOST to the Session Controller. -/
def Events.withHealth (e : Events) (u : ℕ) (before after : Health) : Events :=
  { e with
    unitHealth := e.unitHealth ++ healthChanges u before after
    chargerHealth := e.chargerHealth ++
      if u ≤ 32 ∧ (before = .lost ∨ after = .lost) then healthChanges u before after else [] }

/-- R99: the parts of a report, each to the block that owns it. -/
def Events.withReport (e : Events) (u : ℕ) (p : List Byte) (now report : ℕ) : Events :=
  { e with
    reports := e.reports ++ [{ unit := u, values := reportValues u p }]
    chargerReports := e.chargerReports ++ if u ≤ 32 then [chargerReportOf u p report] else []
    readings := e.readings ++ if u ≤ 32 then [meterReadingOf u p now report] else []
    batteryReports := e.batteryReports ++ if u = 39 then [reportValues u p] else [] }

section
variable (s : State) (u : ℕ)

theorem State.healthChanged_eq (before after : Health) :
    s.healthChanged u before after = s.setEvents (s.events.withHealth u before after) := by
  simp only [State.healthChanged, Events.withHealth, healthChanges]
  by_cases h : before = after
  · simp [h, State.setEvents]
  · rw [if_neg h, if_neg h]
    by_cases hu : u ≤ 32 ∧ (before = .lost ∨ after = .lost)
    · rw [if_pos hu, if_pos hu]
      rfl
    · rw [if_neg hu, if_neg hu, List.append_nil]
      rfl

theorem State.handReport_eq (p : List Byte) (report : ℕ) :
    s.handReport u p report = s.setEvents (s.events.withReport u p s.runTime report) := by
  simp only [State.handReport, Events.withReport]
  by_cases hc : u ≤ 32
  · have hu : u ≠ 39 := by omega
    simp only [hc, hu, if_true, if_false, List.append_nil]
    rfl
  · by_cases hu : u = 39
    · simp only [hu, show ¬ (39 ≤ 32) by decide, if_true, if_false, List.append_nil]
      rfl
    · simp only [hc, hu, if_false, List.append_nil]
      rfl

/-- R95, R98, R99: a valid reply; the report carries the number of the reply (log 8). -/
theorem State.replyValid_eq (t : Transaction) (p : List Byte) : s.replyValid t p = { s with
    links := if (s.field.unit t.unit).health = .lost then s.links.raise .unitBack t.unit else s.links
    field := (s.field.recordReply t.unit t.command s.runTime).nextPoll
    events := (s.events.withHealth t.unit (s.field.unit t.unit).health .ok).withReport t.unit p s.runTime
      (s.field.reports + 1) } := by
  have hreports : (s.field.recordReply t.unit t.command s.runTime).reports = s.field.reports + 1 := by
    rw [FieldLinkController.recordReply_frame]
  simp only [State.replyValid, State.healthChanged_eq, State.handReport_eq]
  split
  · rw [← hreports]
    rfl
  · rw [← hreports]
    rfl

/-- R97, R98: a miss of a unit there is. -/
theorem State.replyMissed_eq (t : Transaction) (h1 : 1 ≤ t.unit) (h2 : t.unit ≤ 39) : s.replyMissed t = { s with
    links := if (s.field.unit t.unit).missed.health = .lost ∧ (s.field.unit t.unit).health ≠ .lost
      then s.links.raise .unitLost t.unit else s.links
    field := (s.field.recordMiss t.unit).nextPoll
    events := s.events.withHealth t.unit (s.field.unit t.unit).health (s.field.unit t.unit).missed.health } := by
  have hafter : (s.field.recordMiss t.unit).unit t.unit = (s.field.unit t.unit).missed :=
    (s.field.recordMiss_unit t.unit h1 h2).trans (if_pos rfl)
  simp only [State.replyMissed, State.healthChanged_eq, State.setField_field, hafter]
  split <;> rfl

theorem State.replyMissed_field (t : Transaction) : (s.replyMissed t).field = (s.field.recordMiss t.unit).nextPoll := by
  simp only [State.replyMissed, State.healthChanged_eq]
  split <;> rfl

theorem State.replyValid_field (t : Transaction) (p : List Byte) :
    (s.replyValid t p).field = (s.field.recordReply t.unit t.command s.runTime).nextPoll := by rw [s.replyValid_eq]

end

/-! ### A transaction ends: the commands (R95) -/

/-- The conditions of a valid reply, of the transaction's unit, written out (R95, R180, 11.6). -/
theorem validReply_iff {f : FieldLinkController} {t : Transaction} {frame : FieldFrame} :
    validReply f t frame = true ↔ frame.check = fieldCheck frame ∧
      (f.unit t.unit).address = some frame.address.toNat ∧ frame.kind.toNat = 128 + pollKind t.unit ∧
      reportSize t.unit ≤ frame.payload.length ∧ echoOf t.unit frame.payload = some t.command := by
  simp [validReply, and_assoc, Nat.add_comm]

section
variable {s : State} {t : Transaction} (ht : s.field.transaction = some t)
include ht

theorem execPollEnd_started (hn : t.replyTimer = none) : execPollEnd s = done (s.setField { s.field with
    transaction := some { t with replyTimer := some (s.runTime + t.timeout) } }) := by
  simp only [execPollEnd, ht, hn]

variable {expiry : ℕ} (he : t.replyTimer = some expiry)
include he

theorem execFieldReply_valid {frame : FieldFrame} (hv : validReply s.field t frame = true) :
    execFieldReply frame s = done (s.replyValid t frame.payload) := by
  simp only [execFieldReply, ht, he, hv, if_true]

theorem execFieldReply_invalid {frame : FieldFrame} (hv : ¬ validReply s.field t frame = true) :
    execFieldReply frame s = done (s.replyMissed t) := by
  simp only [execFieldReply, ht, he]
  rw [if_neg hv]

theorem execReplyTimeout_expired : execReplyTimeout s = done ((s.reach expiry).replyMissed t) := by
  simp only [execReplyTimeout, ht, he]

end

/-- R97: the third miss in a row makes a unit LOST, and a LOST unit stays so. -/
theorem FieldUnit.missed_health (x : FieldUnit) :
    x.missed.health = if 3 ≤ min 255 (x.misses + 1) ∨ x.health = .lost then .lost else .missed := by
  by_cases hl : x.health = .lost
  · simp [FieldUnit.missed, missHealth, hl]
  · simp only [FieldUnit.missed, missHealth, hl, if_false, or_false, ← not_lt, ite_not]

/-- R95, R97 to R99: only the entry, the queue entry and the membership of one unit change, and the next poll is chosen. -/
def FieldLinkController.OnlyUnit (f : FieldLinkController) (u : ℕ) (g : FieldLinkController) : Prop :=
  (∀ v, v ≠ u → g.unit v = f.unit v ∧ (v ∈ g.decrease ↔ v ∈ f.decrease)) ∧
  (g.urgent.filter fun e => e.unit != u) = (f.urgent.filter fun e => e.unit != u) ∧
  g.nextPoll.units = g.units ∧ g.nextPoll.cycle = g.cycle ∧ g.nextPoll.decrease = g.decrease ∧
  g.nextPoll.reports = g.reports

section
variable (f : FieldLinkController) {u : ℕ} (h1 : 1 ≤ u) (h2 : u ≤ 39)
include h1 h2

theorem FieldLinkController.onlyUnit_recordReply (c : Command) (now : ℕ) : f.OnlyUnit u (f.recordReply u c now) :=
  ⟨fun v hv => ⟨(f.recordReply_unit v c now h1 h2).trans (if_neg hv),
      (f.recordReply_members v c now h1 h2).trans (iff_of_eq (if_neg hv))⟩,
    f.recordReply_queue_others c now u, nextPoll_units _, nextPoll_cycle _, nextPoll_decrease _, nextPoll_reports _⟩

theorem FieldLinkController.onlyUnit_recordMiss : f.OnlyUnit u (f.recordMiss u) := by
  refine ⟨fun v hv => ⟨(f.recordMiss_unit v h1 h2).trans (if_neg hv), ?_⟩, ?_, nextPoll_units _, nextPoll_cycle _,
    nextPoll_decrease _, nextPoll_reports _⟩
  · rw [f.recordMiss_eq]
    split
    · exact mem_removeMember.trans (and_iff_right hv)
    · exact Iff.rfl
  · rw [f.recordMiss_eq]
    split
    · exact filter_removeUrgent u _
    · rfl

end

/-- R97, R100: a unit that a miss makes LOST has no entry and is no member. -/
theorem FieldLinkController.recordMiss_becomesLost {f : FieldLinkController} {u : ℕ}
    (h : (f.unit u).missed.health = .lost ∧ (f.unit u).health ≠ .lost) :
    (f.recordMiss u).urgent.filter (fun e => e.unit == u) = [] ∧ u ∉ (f.recordMiss u).decrease := by
  rw [f.recordMiss_eq, if_pos h]
  exact ⟨by simp [FieldLinkController.setUnit, FieldLinkController.withdraw, removeUrgent, List.filter_filter],
    fun hm => (mem_removeMember.1 hm).1 rfl⟩

/-- R97: any other miss leaves queue and set. -/
theorem FieldLinkController.recordMiss_keeps {f : FieldLinkController} {u : ℕ}
    (h : ¬ ((f.unit u).missed.health = .lost ∧ (f.unit u).health ≠ .lost)) :
    (f.recordMiss u).urgent = f.urgent ∧ (f.recordMiss u).decrease = f.decrease := by
  rw [f.recordMiss_eq, if_neg h]
  exact ⟨rfl, rfl⟩

/-- Settles O37: a valid reply is one `recordReply` of the unit polled, any other reply and the timer one `recordMiss`. -/
theorem transactionsEndByReplyOrMiss : Obligations.TransactionsEndByReplyOrMiss := by
  intro s tr ht h1 h2 u x changed changes others queued
  refine ⟨fun hn => execPollEnd_started ht hn, fun expiry he => ?_⟩
  intro valid replied
  have hvalid : ∀ frame, valid frame ↔ validReply s.field tr frame = true := fun frame => validReply_iff.symm
  refine ⟨fun frame hv => ⟨s.field.recordReply u tr.command s.runTime, ?_, s.field.recordReply_frame _ _ u,
    (s.field.recordReply_unit u _ _ h1 h2).trans (if_pos rfl), s.field.onlyUnit_recordReply h1 h2 _ _, ?_,
    (s.field.recordReply_members u _ _ h1 h2).trans (iff_of_eq (if_pos rfl))⟩, ?_⟩
  · refine (execFieldReply_valid ht he ((hvalid frame).1 hv)).trans ?_
    rw [State.replyValid_eq]
    rfl
  · refine (s.field.recordReply_queue_same _ _ h1 h2).trans ?_
    show _ = match removalFigure tr.command x.target with
      | some figure => _
      | none => _
    cases removalFigure tr.command x.target with
    | none => exact ite_self _
    | some w => rfl
  · intro misses after missed miss
    have hafter : x.missed.health = after := x.missed_health
    have hmiss : ∀ now, miss (done ({ s with runTime := now }.replyMissed tr)) now := fun now => by
      refine ⟨s.field.recordMiss u, ?_, s.field.recordMiss_frame u, ?_, s.field.onlyUnit_recordMiss h1 h2, fun hl hx => ?_,
        fun h => ?_⟩
      · rw [State.replyMissed_eq _ _ h1 h2]
        simp only [missed, ← hafter]
        rfl
      · rw [s.field.recordMiss_unit u h1 h2, if_pos rfl, ← hafter]
        rfl
      · exact FieldLinkController.recordMiss_becomesLost ⟨hafter.trans hl, hx⟩
      · exact FieldLinkController.recordMiss_keeps fun k => h.elim (absurd (hafter.symm.trans k.1)) k.2
    refine ⟨fun frame hv => ?_, ?_⟩
    · rw [show exec (.fieldReply frame) s = _ from execFieldReply_invalid ht he fun k => hv ((hvalid frame).2 k)]
      exact hmiss s.runTime
    · rw [show exec .replyTimeout s = _ from execReplyTimeout_expired ht he]
      exact hmiss (max s.runTime expiry)

/-- Settles O38: the port's charger is given the target, and assessed by R92. -/
theorem chargerTargetsAreAssessed : Obligations.ChargerTargetsAreAssessed := by
  intro s g rest mode n h1 h2 hfirst hdelivered d n'
  have hstart := retargeted_start s.field fun _ => false
  have hg : Retargeted s.field (fun _ => false) (fun v => if v = g.port then some (.charger g.mode g.setpoint) else none)
      (s.field.retarget g.port (.charger g.mode g.setpoint)) := by
    have := hstart.retarget (.charger g.mode g.setpoint) rfl h1 (h2.trans (by decide))
    simpa using this
  have hfigure : removalFigure (s.field.unit g.port).delivered (.charger g.mode g.setpoint) =
      if n' < d then some (100 * (d - n')) else none := by
    simp only [d, hdelivered]
    rfl
  obtain ⟨hframe, hnamed, hunnamed, -, -⟩ := hg
  obtain ⟨hunit, hentry, hmem⟩ := hnamed g.port _ (if_pos rfl)
  rw [hfigure] at hentry hmem
  refine ⟨((s.setEvents { s.events with chargerTargets := rest }).setField
    (s.field.retarget g.port (.charger g.mode g.setpoint))).settle, ?_, ?_, fun v => ?_, hentry.trans ?_,
    FieldLinkController.assess_queue_others .., hmem.trans ?_, fun v hv => ?_⟩
  · show execChargerTarget g.port s = _
    simp only [execChargerTarget, hfirst]
    rfl
  · show ({ s with links := s.links.settle, field := s.field.retarget .., events := _ } : State) = _
    rw [hframe]
    rfl
  · split
    · rename_i e
      subst e
      exact hunit
    · rename_i hv
      exact (hunnamed v (if_neg hv)).1
  · split <;> rfl
  · split
    · rename_i hlt
      simp [hlt]
    · rename_i hlt
      simp [hlt]
  · exact (hunnamed v (if_neg hv)).2.2.trans (by simp)

end Sys2Proof.Machine

namespace Sys2Proof.Machine

/-! ## The invariant of the Field Link Controller (R97, R100 to R103)

### Its parts -/

section
variable {f : FieldLinkController} {u v : ℕ} {x : FieldUnit}

/-- A unit index outside the table reads as a unit after reset. -/
theorem FieldLinkController.unit_outside (h : u < 1 ∨ 39 < u) : f.unit u = .reset u := by
  unfold FieldLinkController.unit nth
  split
  · rfl
  · rw [Vector.getElem?_eq_none (by omega)]
    rfl

/-- The units of the table are those with an index of 1 to 39. -/
theorem FieldLinkController.missesFit_iff :
    (∀ x ∈ f.units.toList, x.missesFit = true) ↔ ∀ u, (f.unit u).missesFit = true := by
  have hget : ∀ k (hk : k < 39), f.unit (k + 1) = f.units[k] := fun k hk => by
    simp [FieldLinkController.unit, nth, hk]
  refine ⟨fun h u => ?_, fun h x hx => ?_⟩
  · by_cases hu : u < 1 ∨ 39 < u
    · rw [FieldLinkController.unit_outside hu]
      rfl
    · obtain ⟨k, rfl⟩ : ∃ k, u = k + 1 := ⟨u - 1, by omega⟩
      rw [hget k (by omega)]
      exact h _ (by simp)
  · obtain ⟨k, hk, rfl⟩ := List.getElem_of_mem hx
    have hk' : k < 39 := by simpa using hk
    have := h (k + 1)
    rw [hget k hk'] at this
    simpa using this

/-- R100: the queue is in its order, with one entry a unit. -/
def QueueWf (q : List UrgentEntry) : Prop := q.Pairwise UrgentEntry.Precedes ∧ (q.map UrgentEntry.unit).Nodup

theorem queueWf_iff {q : List UrgentEntry} :
    q.Pairwise (fun a b => a.before b = true ∧ a.unit ≠ b.unit) ↔ QueueWf q := by
  simp only [UrgentEntry.before_iff, List.pairwise_and_iff, QueueWf, List.Nodup, List.pairwise_map]

theorem QueueWf.sublist {q r : List UrgentEntry} (h : QueueWf q) (hr : r.Sublist q) : QueueWf r :=
  ⟨h.1.sublist hr, h.2.sublist (hr.map _)⟩

/-- The invariant, with the units under their indices. -/
structure FieldLinkController.Sound (f : FieldLinkController) : Prop where
  misses : ∀ u, (f.unit u).missesFit = true
  queue : QueueWf f.urgent
  ascending : f.decrease.Pairwise (· < ·)
  members : ∀ u ∈ f.decrease, (f.unit u).health ≠ .lost ∧ (f.unit u).figure.isSome = true

theorem FieldLinkController.wf_iff_sound : f.Wf ↔ f.Sound :=
  ⟨fun ⟨hm, hq, ha, hd⟩ => ⟨missesFit_iff.1 hm, queueWf_iff.1 hq, ha, hd⟩,
    fun ⟨hm, hq, ha, hd⟩ => ⟨missesFit_iff.2 hm, queueWf_iff.2 hq, ha, hd⟩⟩

/-- A unit's entry replaced, if there is such a unit. -/
theorem FieldLinkController.unit_setUnit_cases (f : FieldLinkController) (u v : ℕ) (x : FieldUnit) :
    (f.setUnit u x).unit v = f.unit v ∨ v = u ∧ (f.setUnit u x).unit v = x := by
  by_cases hu : u < 1 ∨ 39 < u
  · exact .inl (by simp only [FieldLinkController.unit, FieldLinkController.setUnit, put_outside _ _ _ hu])
  · rw [f.unit_setUnit u v x (by omega) (by omega)]
    split
    · exact .inr ⟨‹_›, rfl⟩
    · exact .inl rfl

/-- An assessment does not depend on the unit's own entry and membership (R100, R102). -/
theorem FieldLinkController.assess_withdraw (f : FieldLinkController) (u : ℕ) : (f.withdraw u).assess u = f.assess u := by
  have hq : removeUrgent u (removeUrgent u f.urgent) = removeUrgent u f.urgent := by simp [removeUrgent, List.filter_filter]
  have hd : removeMember u (removeMember u f.decrease) = removeMember u f.decrease := by
    simp [removeMember, List.filter_filter]
  have hu : (f.withdraw u).unit u = f.unit u := rfl
  unfold FieldLinkController.assess
  rw [hu]
  cases (f.unit u).figure with
  | none => simp only [FieldLinkController.withdraw, hq, hd]
  | some w => simp only [FieldLinkController.withdraw, placeUrgent, addMember, hq, hd]

/-- R103: with a target that is no decrease, recording a command is a new assessment. -/
theorem FieldLinkController.reassess_eq_assess (h : (f.unit u).figure = none) : f.reassess u = f.assess u := by
  simp only [FieldLinkController.reassess, FieldLinkController.assess, h]

/-- R97: the miss count fits the health after a miss as well. -/
theorem FieldUnit.missed_missesFit (h : x.missesFit = true) : x.missed.missesFit = true := by
  have hm : x.missed.misses = min 255 (x.misses + 1) := rfl
  have hh := x.missed_health
  unfold FieldUnit.missesFit at h ⊢
  rw [hm, hh]
  cases hx : x.health with
  | unpolled | ok =>
    obtain hz : x.misses = 0 := by simpa [hx] using h
    simp [hz]
  | missed =>
    obtain ⟨hlow, hhigh⟩ : 1 ≤ x.misses ∧ x.misses ≤ 2 := by simpa [hx] using h
    by_cases h3 : 3 ≤ min 255 (x.misses + 1)
    · rw [if_pos (.inl h3)]
      exact decide_eq_true (by omega)
    · rw [if_neg (by simpa using h3)]
      exact decide_eq_true (by omega)
  | lost =>
    obtain ⟨hlow, hhigh⟩ : 3 ≤ x.misses ∧ x.misses ≤ 255 := by simpa [hx] using h
    rw [if_pos (.inr rfl)]
    exact decide_eq_true (by omega)

namespace FieldLinkController.Sound

/-! ### What keeps it -/

theorem of_eq {g : FieldLinkController} (h : f.Sound) (hu : g.units = f.units) (hq : g.urgent.Sublist f.urgent)
    (hd : g.decrease.Sublist f.decrease) : g.Sound := by
  have hunit : ∀ u, g.unit u = f.unit u := fun u => by rw [FieldLinkController.unit, hu, FieldLinkController.unit]
  refine ⟨fun u => ?_, h.queue.sublist hq, h.ascending.sublist hd, fun u hm => ?_⟩
  · rw [hunit]
    exact h.misses u
  · rw [hunit]
    exact h.members u (hd.subset hm)

theorem withdraw (h : f.Sound) (u : ℕ) : (f.withdraw u).Sound :=
  h.of_eq rfl List.filter_sublist List.filter_sublist

/-- R94: a poll takes its entry off the queue. -/
theorem nextPoll (h : f.Sound) : f.nextPoll.Sound :=
  h.of_eq f.nextPoll_units f.nextPoll_queue_sublist (f.nextPoll_decrease ▸ .refl _)

/-- A unit's entry replaced, by one that a member may have if the unit is one. -/
theorem setUnit (h : f.Sound) (hx : x.missesFit = true) (hu : u ∈ f.decrease →
    ((f.setUnit u x).unit u).health ≠ .lost ∧ ((f.setUnit u x).unit u).figure.isSome = true) : (f.setUnit u x).Sound := by
  refine ⟨fun v => ?_, h.queue, h.ascending, fun v hv => ?_⟩
  · obtain e | ⟨-, e⟩ := f.unit_setUnit_cases u v x
    · rw [e]
      exact h.misses v
    · rw [e]
      exact hx
  · obtain e | ⟨rfl, -⟩ := f.unit_setUnit_cases u v x
    · rw [e]
      exact h.members v hv
    · exact hu hv

theorem queueWf_assess (h : QueueWf f.urgent) (u : ℕ) : QueueWf (f.assess u).urgent := by
  refine ⟨assess_queue_ordered u h.1, ?_⟩
  have hrem : ((removeUrgent u f.urgent).map UrgentEntry.unit).Nodup := (h.sublist List.filter_sublist).2
  unfold FieldLinkController.assess
  cases (f.unit u).figure with
  | none => exact hrem
  | some w =>
    refine (((insertUrgent_perm _ _).map _).nodup_iff).2 (List.nodup_cons.2 ⟨fun hm => ?_, hrem⟩)
    obtain ⟨e, he, hu⟩ := List.mem_map.1 hm
    simp [removeUrgent, hu] at he

theorem assess (h : f.Sound) (u : ℕ) : (f.assess u).Sound := by
  refine ⟨fun v => (f.assess_unit u v).symm ▸ h.misses v, queueWf_assess h.queue u, assess_members_ordered u h.ascending,
    fun v hv => ?_⟩
  rw [f.assess_unit]
  have hv := (f.assess_members u v).1 hv
  split at hv
  · rename_i e
    exact e ▸ hv.symm
  · exact h.members v hv

theorem reassess (h : f.Sound) (u : ℕ) : (f.reassess u).Sound := by
  have hset : (f.reassess u).decrease.Sublist f.decrease := by
    rw [f.reassess_set]
    split
    · exact .refl _
    · exact List.filter_sublist
  refine ⟨fun v => (f.reassess_unit u v).symm ▸ h.misses v, ?_, h.ascending.sublist hset, fun v hv => ?_⟩
  · rw [f.reassess_queue]
    split
    · exact queueWf_assess h.queue u
    · exact h.queue
  · rw [f.reassess_unit]
    exact h.members v (hset.subset hv)

/-- A unit's entry replaced and assessed at once. -/
theorem assess_setUnit (h : f.Sound) (hx : x.missesFit = true) : ((f.setUnit u x).assess u).Sound := by
  rw [← FieldLinkController.assess_withdraw]
  exact ((h.withdraw u).setUnit hx fun hm => absurd rfl (mem_removeMember.1 hm).1).assess u

/-- A unit's entry replaced, its health kept, and reassessed at once. -/
theorem reassess_setUnit (h : f.Sound) (hx : x.missesFit = true) (hh : x.health = (f.unit u).health) :
    ((f.setUnit u x).reassess u).Sound := by
  cases hfigure : ((f.setUnit u x).unit u).figure with
  | none => exact reassess_eq_assess hfigure ▸ h.assess_setUnit hx
  | some w =>
    refine (h.setUnit hx fun hm => ⟨?_, hfigure ▸ rfl⟩).reassess u
    obtain ⟨hl, -⟩ := h.members u hm
    obtain e | ⟨-, e⟩ := f.unit_setUnit_cases u u x
    · rwa [e]
    · rwa [e, hh]

/-- R91. -/
theorem retarget (h : f.Sound) (u : ℕ) (c : Command) : (f.retarget u c).Sound := h.assess_setUnit (h.misses u)

/-- R95, R103. -/
theorem confirm (h : f.Sound) (u : ℕ) (c : Command) (now : ℕ) : (f.confirm u c now).Sound := by
  have hg : ((f.setUnit u { f.unit u with delivered := c }).reassess u).Sound := h.reassess_setUnit (h.misses u) rfl
  refine of_eq (hg.setUnit (u := u) rfl fun hm => ?_) rfl (.refl _) (.refl _)
  obtain ⟨hl, hfigure⟩ := hg.members u hm
  obtain e | ⟨-, e⟩ := FieldLinkController.unit_setUnit_cases _ u u _
  · rw [e]
    exact ⟨hl, hfigure⟩
  · rw [e]
    exact ⟨nofun, hfigure⟩

theorem recordReply (h : f.Sound) (u : ℕ) (c : Command) (now : ℕ) : (f.recordReply u c now).Sound := by
  rw [f.recordReply_eq]
  split
  · exact (h.confirm u c now).assess u
  · exact h.confirm u c now

/-- R97. -/
theorem recordMiss (h : f.Sound) (u : ℕ) : (f.recordMiss u).Sound := by
  have hx := FieldUnit.missed_missesFit (h.misses u)
  rw [f.recordMiss_eq]
  split
  · exact (h.withdraw u).setUnit hx fun hm => absurd rfl (mem_removeMember.1 hm).1
  · rename_i hnew
    refine h.setUnit hx fun hm => ?_
    obtain ⟨hl, hfigure⟩ := h.members u hm
    obtain e | ⟨-, e⟩ := f.unit_setUnit_cases u u (f.unit u).missed
    · rw [e]
      exact ⟨hl, hfigure⟩
    · rw [e]
      exact ⟨fun k => hnew ⟨k, hl⟩, hfigure⟩

/-- R65, R102. -/
theorem takeTargets (h : f.Sound) (c : SessionController) (ts : List PortTarget) : (f.takeTargets c ts).Sound :=
  List.foldlRecOn ts _ (h.of_eq rfl (.refl _) List.filter_sublist) fun _ hf t _ => hf.retarget t.port _

/-- R86, R102. -/
theorem takeHandover (h : f.Sound) (x : Handover) : (f.takeHandover x).Sound := by
  have hlimits : (x.limits.foldl (fun (f : FieldLinkController) y => f.retarget (34 + y.1) (.inverter (some y.2)))
      { f with decrease := f.decrease.filter fun u => u ≤ 32 }).Sound :=
    List.foldlRecOn x.limits _ (h.of_eq rfl (.refl _) List.filter_sublist) fun _ hf y _ => hf.retarget (34 + y.1) _
  simp only [FieldLinkController.takeHandover]
  split
  · exact hlimits
  · exact hlimits.retarget 39 _

/-- R94, R168. -/
theorem goLive (h : f.Sound) : f.goLive.Sound :=
  nextPoll (h.of_eq rfl (List.nil_sublist _) (List.nil_sublist _))

/-- R1, R89: a unit configured in SETUP, where the decrease set is empty. -/
theorem configured (h : f.Sound) (hd : f.decrease = []) (u address rated : ℕ) (present : Bool) :
    (f.setUnit u (configuredUnit (f.unit u) u address rated present)).Sound := by
  have hx : (configuredUnit (f.unit u) u address rated present).missesFit = true := by
    unfold configuredUnit
    split_ifs
    · exact h.misses u
    · exact h.misses u
    · rfl
  exact h.setUnit hx fun hm => by simp [hd] at hm

end FieldLinkController.Sound

end

/-- R88, R93, R94, R101: the invariant at reset. -/
theorem FieldLinkController.sound_reset : FieldLinkController.reset.Sound := wf_iff_sound.1 (by decide)

end Sys2Proof.Machine

namespace Sys2Proof.Machine

/-! ### Operations of the other blocks leave the Field Link Controller -/

section
variable (s : State)

theorem foldl_field {α : Type} {f : State → α → State} (hf : ∀ s a, (f s a).field = s.field) (xs : List α) :
    (xs.foldl f s).field = s.field :=
  foldl_keeps (P := fun t => t.field = s.field) (fun a h => (hf _ a).trans h) xs rfl

/-! #### The Site Balance Unit -/

@[simp] theorem State.recompute_field : s.recompute.field = s.field := by rw [s.recompute_eq]; rfl

@[simp] theorem State.changeSite_field (n : SiteState) : (s.changeSite n).field = s.field := by simp [State.changeSite]

@[simp] theorem State.followGrid_field (g : Option Bool) : (s.followGrid g).field = s.field := by
  have hisland : s.enterIsland.field = s.field := by simp [State.enterIsland]
  unfold State.followGrid
  split
  · exact hisland
  · split
    · exact s.changeSite_field _
    · rfl
  · exact hisland
  · exact hisland
  · simp [State.enterRestoring]
  · rfl

@[simp] theorem State.checkOverrun_field (w : ℤ) (b : Bool) : (s.checkOverrun w b).field = s.field := by
  unfold State.checkOverrun; split <;> simp

@[simp] theorem State.freshen_field (a b : Bool) : (s.freshen a b).field = s.field := by
  unfold State.freshen; split <;> simp

@[simp] theorem State.takeReport_field (r : Report) : (s.takeReport r).field = s.field := by
  unfold State.takeReport; split <;> simp

@[simp] theorem State.makeStale_field (u : ℕ) : (s.makeStale u).field = s.field := by
  unfold State.makeStale; split_ifs <;> simp

@[simp] theorem State.takeHealth_field (h : HealthChange) : (s.takeHealth h).field = s.field := by
  unfold State.takeHealth; split_ifs <;> simp [State.startPhantom, State.endPhantom]

/-! #### The Power Allocator -/

@[simp] theorem State.takeRound_field : s.takeRound.field = s.field := rfl

@[simp] theorem State.roundOrPend_field : s.roundOrPend.field = s.field := by
  unfold State.roundOrPend; split <;> simp

@[simp] theorem State.takeEarly_field : s.takeEarly.field = s.field := by
  unfold State.takeEarly; split_ifs <;> simp

@[simp] theorem State.takeApplied_field : s.takeApplied.field = s.field := by
  simp only [State.takeApplied]; split_ifs <;> simp

/-! #### The Battery Dispatch Unit -/

@[simp] theorem State.computeCommand_field (t : DispatchTrigger) : (s.computeCommand t).field = s.field := rfl

@[simp] theorem State.checkStanding_field : s.checkStanding.field = s.field := by
  unfold State.checkStanding; split <;> simp

@[simp] theorem State.evaluateAllowance_field : s.evaluateAllowance.field = s.field := by
  rw [s.evaluateAllowance_eq]; rfl

@[simp] theorem State.applyUrgent_field (n : ℕ) : (s.applyUrgent n).field = s.field := by
  simp only [State.applyUrgent]; split_ifs <;> simp

/-! #### The Session Controller -/

@[simp] theorem State.transition_field (n : ℕ) (f : Session → Session) : (s.transition n f).field = s.field := by
  have hpause : ∀ (t : State) (x y : Session), (t.pauseOnLeaving x y).field = t.field := fun t x y => by
    unfold State.pauseOnLeaving; split <;> rfl
  have hrequest : ∀ (t : State) (x y : Session), (t.requestOnChange x y).field = t.field := fun t x y => by
    unfold State.requestOnChange; split <;> rfl
  have hnotice : ∀ (t : State) (x y : Session), (t.noticeOnChange x y).field = t.field := fun t x y => by
    unfold State.noticeOnChange; split <;> rfl
  unfold State.transition
  split
  · rfl
  · simp only [hnotice, hrequest, hpause, State.setSessions_field]

@[simp] theorem State.setPortState_field (p : ℕ) (st : PortState) : (s.setPortState p st).field = s.field := rfl

@[simp] theorem State.lockoutAlone_field (sent p : ℕ) : (s.lockoutAlone sent p).field = s.field := by
  unfold State.lockoutAlone; split <;> rfl

@[simp] theorem State.holdPort_field (p : ℕ) (r : HoldReason) (add : Bool) : (s.holdPort p r add).field = s.field := by
  unfold State.holdPort; split <;> simp

@[simp] theorem State.applyFault_field (p : ℕ) (fault : Bool) : (s.applyFault p fault).field = s.field := by
  simp only [State.applyFault]; split_ifs <;> simp

@[simp] theorem State.applyDemand_field (p : ℕ) : (s.applyDemand p).field = s.field := by
  unfold State.applyDemand; split <;> simp

@[simp] theorem State.authorizeSession_field (n : ℕ) (who : Authorizer) (customer : Text) (departure : Option ℕ) :
    (s.authorizeSession n who customer departure).field = s.field := by
  unfold State.authorizeSession; split <;> simp

@[simp] theorem State.freeVend_field (n : ℕ) : (s.freeVend n).field = s.field := by
  unfold State.freeVend
  split
  · rfl
  · split <;> simp

@[simp] theorem State.createSession_field (p : ℕ) : (s.createSession p).field = s.field := by simp [State.createSession]

@[simp] theorem State.serveWaiting_field : s.serveWaiting.field = s.field := by
  unfold State.serveWaiting
  split
  · rfl
  · split <;> simp

@[simp] theorem State.removeSession_field (n : ℕ) : (s.removeSession n).field = s.field := rfl

@[simp] theorem State.abandon_field (x : Session) (st : PortState) : (s.abandon x st).field = s.field := by
  simp [State.abandon]

@[simp] theorem State.completeClosing_field (x : Session) (c e : Bool) : (s.completeClosing x c e).field = s.field := rfl

@[simp] theorem State.tryComplete_field (p : ℕ) : (s.tryComplete p).field = s.field := by
  unfold State.tryComplete
  split
  · rfl
  · split
    · split <;> simp
    · rfl

@[simp] theorem State.applyToSession_field (x : Session) (r : ChargerReport) : (s.applyToSession x r).field = s.field := by
  unfold State.applyToSession
  cases x.state with
  | pricing | waitQueue => rfl
  | _ => simp only; split <;> simp

@[simp] theorem State.applyConnection_field (r : ChargerReport) : (s.applyConnection r).field = s.field := by
  unfold State.applyConnection
  split
  · split <;> simp
  · simp
  · simp
  · split <;> simp
  · rfl

@[simp] theorem State.takeChargerReport_field (r : ChargerReport) : (s.takeChargerReport r).field = s.field := by
  unfold State.takeChargerReport; split <;> simp

@[simp] theorem State.noticeUrgent_field (n : ℕ) (a b : SessionClass) : (s.noticeUrgent n a b).field = s.field := by
  unfold State.noticeUrgent; split <;> rfl

@[simp] theorem State.takeEntry_field (e : CandidateEntry) : (s.takeEntry e).field = s.field := by
  unfold State.takeEntry
  split
  · rfl
  · split <;> simp

@[simp] theorem State.takeResult_field (r : AllocationResult) : (s.takeResult r).field = s.field :=
  foldl_field s State.takeEntry_field r.entries

@[simp] theorem State.reclassify_field (high urgent n : ℕ) : (s.reclassify high urgent n).field = s.field := by
  unfold State.reclassify; split <;> simp

@[simp] theorem State.followSite_field (c : SiteChange) : (s.followSite c).field = s.field := by
  simp only [State.followSite]
  split_ifs
  · exact foldl_field s (fun _ _ => State.transition_field ..) _
  · exact foldl_field s (fun _ _ => State.transition_field ..) _
  · rfl

/-! #### The Receipt Builder and the Receipt Queue -/

@[simp] theorem State.takeReceipt_field (r : Receipt) : (s.takeReceipt r).field = s.field := by
  simp only [State.takeReceipt]; split_ifs <;> rfl

@[simp] theorem State.leaveTable_field (n : ℕ) : (s.leaveTable n).field = s.field := by simp [State.leaveTable]

@[simp] theorem State.placeReceipt_field (n : ℕ) (r : Receipt) : (s.placeReceipt n r).field = s.field := by
  unfold State.placeReceipt; split <;> simp

@[simp] theorem State.priceSession_field (x : Session) : (s.priceSession x).field = s.field := by
  simp [State.priceSession]

@[simp] theorem State.takeHandOver_field (n : ℕ) : (s.takeHandOver n).field = s.field := by
  unfold State.takeHandOver
  split
  · rfl
  · split_ifs <;> simp

@[simp] theorem State.priceHead_field (n : ℕ) : (s.priceHead n).field = s.field := by
  simp only [State.priceHead]
  split
  · rfl
  · split <;> simp

@[simp] theorem State.drain_field (fuel : ℕ) : (State.drain fuel s).field = s.field := by
  induction fuel generalizing s with
  | zero => rfl
  | succ fuel ih =>
    unfold State.drain
    split
    · rfl
    · split
      · rfl
      · rw [ih]
        simp

@[simp] theorem State.roomIf_field (n : ℕ) : (s.roomIf n).field = s.field := by
  unfold State.roomIf; split <;> simp

/-! #### The Metering Unit and the Tariff Store -/

@[simp] theorem State.takeReading_field (r : MeterReading) : (s.takeReading r).field = s.field := by
  have hfirst : ∀ n, (s.applyFirstReading r n).field = s.field := fun n => by
    simp only [State.applyFirstReading]; split <;> rfl
  have happly : ∀ n m k, (s.applyReading r n m k).field = s.field := fun n m k => by
    simp only [State.applyReading]
    split
    · split <;> rfl
    · split <;> rfl
  simp only [State.takeReading, State.sendReadingApplied_field]
  split
  · rfl
  · split
    · exact hfirst _
    · exact happly _ _ _

@[simp] theorem State.abortOperation_field : s.abortOperation.field = s.field := by
  unfold State.abortOperation; split <;> rfl

@[simp] theorem State.completeOperation_field (op : StoreOperation) (v : Bool) :
    (s.completeOperation op v).field = s.field := rfl

end

end Sys2Proof.Machine

namespace Sys2Proof.Machine

/-! ### Every command keeps the Field Link Controller's invariant -/

/-- What a command starts from: the invariant, and in SETUP an empty decrease set. -/
def State.FieldReady (s : State) : Prop := s.field.Sound ∧ (s.links.part = .setup → s.field.decrease = [])

/-- What a command leads to. -/
def State.FieldSound (s : State) : Prop := s.field.Sound

theorem State.FieldSound.of_field {s : State} {f : FieldLinkController} (hf : f.Sound) (h : s.field = f) : s.FieldSound :=
  (congrArg FieldLinkController.Sound h).mpr hf

theorem fieldReady_unlinked : Unlinked State.FieldReady :=
  ⟨fun _ hpart ⟨hs, hd⟩ => ⟨hs, fun hp => hd (hpart.symm.trans hp)⟩, fun _ hs => hs, fun _ hs => hs⟩

theorem fieldSound_unlinked : Unlinked State.FieldSound := ⟨fun _ _ hs => hs, fun _ hs => hs, fun _ hs => hs⟩

theorem State.FieldReady.sound {s : State} (hs : s.FieldReady) : s.FieldSound := hs.1

/-! #### Requests -/

section
variable (s : State)

theorem handleSetSite_field (f : SiteFields) : (handleSetSite s f).state.field = s.field := by
  simp only [handleSetSite, setBuilder_next_ite]
  split_ifs <;> simp [ok, refuse]

theorem handleSetFeeder_field (f : FeederFields) : (handleSetFeeder s f).state.field = s.field := by
  unfold handleSetFeeder; split <;> rfl

theorem handleSetBatteryPolicy_field (f : PolicyFields) : (handleSetBatteryPolicy s f).state.field = s.field := by
  simp only [handleSetBatteryPolicy]; split_ifs <;> simp [ok, refuse]

theorem handleSetWatermarks_field (f : WatermarkFields) : (handleSetWatermarks s f).state.field = s.field := by
  simp only [handleSetWatermarks]; split_ifs <;> rfl

theorem handleSetNoticeRoute_field (f : RouteFields) : (handleSetNoticeRoute s f).state.field = s.field := by
  unfold handleSetNoticeRoute
  split
  · rfl
  · split <;> rfl

theorem handleSetTillAccess_field (f : TillFields) : (handleSetTillAccess s f).state.field = s.field := by
  unfold handleSetTillAccess; split <;> rfl

theorem handleSetQueueLevels_field (f : LevelFields) : (handleSetQueueLevels s f).state.field = s.field := by
  unfold handleSetQueueLevels; split <;> rfl

theorem handleSetTime_field (t : ℕ) : (handleSetTime s t).state.field = s.field := by
  unfold handleSetTime; split <;> rfl

theorem handleAuthorize_field (who : Authorizer) (f : AuthorizeFields) : (handleAuthorize who s f).state.field = s.field := by
  unfold handleAuthorize
  split
  · split
    · rfl
    · split_ifs <;> simp [refuse]
  · rfl

theorem handleHold_field (add : Bool) (p : ℕ) : (handleHold add s p).state.field = s.field := by
  unfold handleHold
  split
  · split
    · rfl
    · split <;> simp [ok, refuse]
  · rfl

theorem handleStopSession_field (n : ℕ) : (handleStopSession s n).state.field = s.field := by
  unfold handleStopSession
  split
  · rfl
  · split <;> simp [ok, refuse]

theorem handleSetDeparture_field (f : DepartureFields) : (handleSetDeparture s f).state.field = s.field := by
  unfold handleSetDeparture
  split
  · rfl
  · split <;> rfl

theorem handleLinkPurchase_field (f : PurchaseFields) : (handleLinkPurchase s f).state.field = s.field := by
  simp only [handleLinkPurchase]
  split
  · split
    · rfl
    · split_ifs <;> rfl
  · rfl

theorem startOperation_field (k : ℕ) (o : StoreKind) (im : List Byte) : (startOperation s k o im).state.field = s.field := by
  unfold startOperation; split <;> rfl

theorem handleProgramTariff_field (f : ProgramFields) : (handleProgramTariff s f).state.field = s.field := by
  unfold handleProgramTariff
  split
  · exact startOperation_field ..
  · rfl

theorem handleEraseTariff_field (k : ℕ) : (handleEraseTariff s k).state.field = s.field := by
  unfold handleEraseTariff
  split
  · exact startOperation_field ..
  · rfl

theorem handleActivateTariff_field (k : ℕ) : (handleActivateTariff s k).state.field = s.field := by
  unfold handleActivateTariff; split_ifs <;> rfl

theorem handleReadReceipt_field (u : Unit) : (handleReadReceipt s u).state.field = s.field := by
  unfold handleReadReceipt; split <;> simp

theorem handleSetMark_field (u : Unit) : (handleSetMark s u).state.field = s.field := by simp [handleSetMark]

theorem handleRewind_field (u : Unit) : (handleRewind s u).state.field = s.field := by
  unfold handleRewind; split <;> rfl

theorem handleReleaseMark_field (u : Unit) : (handleReleaseMark s u).state.field = s.field := by
  unfold handleReleaseMark; split <;> simp [refuse]

theorem handleFlushQueue_field (u : Unit) : (handleFlushQueue s u).state.field = s.field := by simp [handleFlushQueue]

end

/-- SET_TIMERS (R96) replaces the reply timeout alone. -/
theorem handleSetTimers_fieldSound : Answers State.FieldReady State.FieldSound .always handleSetTimers := by
  intro s f _ hs
  simp only [handleSetTimers]
  split
  · exact hs.sound.of_eq rfl (.refl _) (.refl _)
  · exact hs.sound

theorem handleSetPort_fieldSound : Answers State.FieldReady State.FieldSound .setupOnly handleSetPort := by
  intro s f hal hs
  have hconfigured : ∀ e, (s.configurePort f.port e).FieldSound := fun e => by
    cases e <;> exact hs.sound.configured (hs.2 (setup_of_setupOnly hal)) ..
  unfold handleSetPort
  split
  · exact hs.sound
  · split
    · split
      · exact hs.sound
      · split
        · exact hconfigured (some _)
        · exact hconfigured none
    · exact hs.sound

theorem handleSetUnit_fieldSound : Answers State.FieldReady State.FieldSound .setupOnly handleSetUnit := by
  intro s f hal hs
  unfold handleSetUnit
  split
  · exact hs.sound
  · split_ifs
    · exact hs.sound
    · exact hs.sound.configured (hs.2 (setup_of_setupOnly hal)) ..
    · exact hs.sound

theorem handleGoLive_fieldSound : Answers State.FieldReady State.FieldSound .setupOnly handleGoLive := by
  intro s _ _ hs
  unfold handleGoLive
  split
  · exact hs.sound
  · have hfield : s.goLive.field = s.field.goLive := by simp [State.goLive]
    exact .of_field hs.sound.goLive hfield

theorem State.AfterReset.fieldSound {t : State} (h : t.AfterReset) : t.FieldSound := by
  obtain ⟨-, hfield, -⟩ := h
  exact .of_field FieldLinkController.sound_reset hfield

theorem handleRestart_fieldSound : Answers State.FieldReady State.FieldSound .always handleRestart :=
  fun s mode hal hs => (handleRestart_answers s mode hal hs).elim State.FieldReady.sound State.AfterReset.fieldSound

namespace State.FieldSound

section
variable {s t : State} (hs : s.FieldSound)
include hs

theorem nothing : Reaches State.FieldSound (Machine.nothing s) := reaches_nothing hs

/-- A command that acts and leaves the Field Link Controller. -/
theorem done (h : t.field = s.field) : Reaches State.FieldSound (Machine.done t) :=
  fieldSound_unlinked.reaches_done (.of_field hs h)

/-! #### The commands of the field link -/

theorem replyValid (tr : Transaction) (p : List Byte) : (s.replyValid tr p).FieldSound :=
  .of_field (hs.recordReply ..).nextPoll (s.replyValid_field tr p)

theorem replyMissed (tr : Transaction) : (s.replyMissed tr).FieldSound :=
  .of_field (hs.recordMiss _).nextPoll (s.replyMissed_field tr)

theorem execPollEnd : Reaches State.FieldSound (execPollEnd s) := by
  unfold Machine.execPollEnd
  split
  · exact hs.nothing
  · split
    · exact hs.nothing
    · exact fieldSound_unlinked.reaches_done (hs.of_eq rfl (.refl _) (.refl _))

theorem execFieldReply (frame : FieldFrame) : Reaches State.FieldSound (execFieldReply frame s) := by
  unfold Machine.execFieldReply
  split
  · exact hs.nothing
  · split
    · exact hs.nothing
    · refine fieldSound_unlinked.reaches_done ?_
      split
      · exact hs.replyValid _ _
      · exact hs.replyMissed _

theorem execReplyTimeout : Reaches State.FieldSound (execReplyTimeout s) := by
  unfold Machine.execReplyTimeout
  split
  · exact hs.nothing
  · split
    · exact hs.nothing
    · exact fieldSound_unlinked.reaches_done (replyMissed (s := s.reach _) hs _)

theorem execChargerTarget (p : ℕ) : Reaches State.FieldSound (execChargerTarget p s) := by
  unfold Machine.execChargerTarget
  split
  · exact hs.nothing
  · exact fieldSound_unlinked.reaches_done (hs.retarget ..)

theorem execAllocationResultField : Reaches State.FieldSound (execAllocationResultField s) := by
  unfold Machine.execAllocationResultField
  split
  · exact hs.nothing
  · exact fieldSound_unlinked.reaches_done (hs.takeTargets ..)

theorem execDispatchHandover : Reaches State.FieldSound (execDispatchHandover s) := by
  unfold Machine.execDispatchHandover
  split
  · exact hs.nothing
  · split
    · exact fieldSound_unlinked.reaches_done (hs.takeHandover _)
    · exact hs.nothing

/-! #### The other events -/

theorem execChargerReport (p : ℕ) : Reaches State.FieldSound (execChargerReport p s) := by
  unfold Machine.execChargerReport
  split
  · exact hs.nothing
  · exact hs.done (by simp)

theorem execReadingApplied (p : ℕ) : Reaches State.FieldSound (execReadingApplied p s) := by
  unfold Machine.execReadingApplied
  split
  · exact hs.nothing
  · exact hs.done (by simp)

theorem execAuthorizationTimeout (n : ℕ) : Reaches State.FieldSound (execAuthorizationTimeout n s) := by
  unfold Machine.execAuthorizationTimeout
  split
  · exact hs.nothing
  · split
    · exact hs.done (by simp)
    · exact hs.nothing

theorem execDormantTimeout (n : ℕ) : Reaches State.FieldSound (execDormantTimeout n s) := by
  unfold Machine.execDormantTimeout
  split
  · exact hs.nothing
  · split
    · exact hs.done (by simp)
    · exact hs.nothing

theorem execIdleSecondTick (n : ℕ) : Reaches State.FieldSound (execIdleSecondTick n s) := by
  unfold Machine.execIdleSecondTick
  split
  · exact hs.nothing
  · split
    · exact hs.done (by simp)
    · exact hs.nothing

theorem execClosingTimeout (n : ℕ) : Reaches State.FieldSound (execClosingTimeout n s) := by
  unfold Machine.execClosingTimeout
  split
  · exact hs.nothing
  · split
    · exact hs.done (by simp)
    · exact hs.nothing

theorem execAllocationResultSessions : Reaches State.FieldSound (execAllocationResultSessions s) := by
  unfold Machine.execAllocationResultSessions
  split
  · exact hs.done (by simp)
  · exact hs.nothing

theorem execReclassification : Reaches State.FieldSound (execReclassification s) := by
  unfold Machine.execReclassification
  split
  · exact hs.done (foldl_field _ (fun _ _ => State.reclassify_field ..) _)
  · exact hs.nothing

theorem execSiteStateChangeSessions : Reaches State.FieldSound (execSiteStateChangeSessions s) := by
  unfold Machine.execSiteStateChangeSessions
  split
  · exact hs.nothing
  · exact hs.done (by simp)

theorem execChargerHealthChange (p : ℕ) : Reaches State.FieldSound (execChargerHealthChange p s) := by
  unfold Machine.execChargerHealthChange
  split
  · exact hs.nothing
  · exact hs.done (by simp)

theorem execActivationEvent : Reaches State.FieldSound (execActivationEvent s) := by
  unfold Machine.execActivationEvent
  split
  · exact hs.nothing
  · exact hs.done (foldl_field _ (fun _ _ => State.freeVend_field ..) _)

theorem execReportArrival (u : ℕ) : Reaches State.FieldSound (execReportArrival u s) := by
  unfold Machine.execReportArrival
  split
  · exact hs.nothing
  · exact hs.done (by simp)

theorem execStaleTimerExpiry (u : ℕ) : Reaches State.FieldSound (execStaleTimerExpiry u s) := by
  unfold Machine.execStaleTimerExpiry
  split
  · exact hs.nothing
  · exact hs.done (by simp)

theorem execUnitHealthChange (u : ℕ) : Reaches State.FieldSound (execUnitHealthChange u s) := by
  unfold Machine.execUnitHealthChange
  split
  · exact hs.nothing
  · exact hs.done (by simp)

theorem execFallbackHoldExpiry (p : ℕ) : Reaches State.FieldSound (execFallbackHoldExpiry p s) := by
  unfold Machine.execFallbackHoldExpiry
  split
  · exact hs.nothing
  · split
    · exact hs.nothing
    · exact hs.done (by simp)

theorem execRestoreTimerExpiry : Reaches State.FieldSound (execRestoreTimerExpiry s) := by
  unfold Machine.execRestoreTimerExpiry
  split
  · exact hs.done (by simp)
  · exact hs.nothing

theorem execDischargeAllowanceChange : Reaches State.FieldSound (execDischargeAllowanceChange s) := by
  unfold Machine.execDischargeAllowanceChange
  split
  · exact hs.nothing
  · exact hs.done (by simp)

theorem execEarlyRequest : Reaches State.FieldSound (execEarlyRequest s) := by
  unfold Machine.execEarlyRequest
  split
  · exact hs.nothing
  · refine hs.done ?_
    split
    · simp
    · rfl

theorem execRoundPeriodExpiry : Reaches State.FieldSound (execRoundPeriodExpiry s) := by
  unfold Machine.execRoundPeriodExpiry
  split
  · exact hs.nothing
  · exact hs.done (by simp)

theorem execSpacingTimerExpiry : Reaches State.FieldSound (execSpacingTimerExpiry s) := by
  unfold Machine.execSpacingTimerExpiry
  split
  · exact hs.nothing
  · exact hs.done (by simp)

theorem execResultApplied : Reaches State.FieldSound (execResultApplied s) := by
  unfold Machine.execResultApplied
  split
  · exact hs.nothing
  · exact hs.done (by simp)

theorem execAllocationResultDispatch : Reaches State.FieldSound (execAllocationResultDispatch s) := by
  unfold Machine.execAllocationResultDispatch
  split
  · exact hs.nothing
  · exact hs.done (by simp)

theorem execBatteryReport : Reaches State.FieldSound (execBatteryReport s) := by
  unfold Machine.execBatteryReport
  split
  · exact hs.nothing
  · exact hs.done (by simp)

theorem execBatteryFreshnessChange : Reaches State.FieldSound (execBatteryFreshnessChange s) := by
  unfold Machine.execBatteryFreshnessChange
  split
  · exact hs.nothing
  · exact hs.done (by simp)

theorem execSiteStateChangeDispatch : Reaches State.FieldSound (execSiteStateChangeDispatch s) := by
  unfold Machine.execSiteStateChangeDispatch
  split
  · exact hs.nothing
  · exact hs.done (by simp)

theorem execReadingApplication (p : ℕ) : Reaches State.FieldSound (execReadingApplication p s) := by
  unfold Machine.execReadingApplication
  split
  · exact hs.nothing
  · exact hs.done (by simp)

theorem execErasingEnd : Reaches State.FieldSound (execErasingEnd s) := by
  unfold Machine.execErasingEnd
  split
  · exact hs.nothing
  · split
    · exact hs.done (by simp)
    · exact hs.nothing

theorem execWritingEnd : Reaches State.FieldSound (execWritingEnd s) := by
  unfold Machine.execWritingEnd
  split
  · exact hs.nothing
  · split
    · exact hs.done (by simp)
    · exact hs.nothing

theorem execOperationCompletion (v : Bool) : Reaches State.FieldSound (execOperationCompletion v s) := by
  unfold Machine.execOperationCompletion
  split
  · exact hs.nothing
  · split
    · exact hs.done (by simp)
    · exact hs.nothing

theorem execSiteStateChangeStore : Reaches State.FieldSound (execSiteStateChangeStore s) := by
  unfold Machine.execSiteStateChangeStore
  split
  · exact hs.nothing
  · refine hs.done ?_
    split
    · simp
    · rfl

theorem execHandOver : Reaches State.FieldSound (execHandOver s) := by
  unfold Machine.execHandOver
  split
  · exact hs.nothing
  · exact hs.done (by simp)

theorem execStoreFree : Reaches State.FieldSound (execStoreFree s) := by
  unfold Machine.execStoreFree
  split
  · exact hs.nothing
  · simp only
    split
    · refine hs.done ((State.priceHead_field ..).trans ?_)
      split <;> rfl
    · exact hs.done rfl

theorem execRoomEvent : Reaches State.FieldSound (execRoomEvent s) := by
  unfold Machine.execRoomEvent
  split
  · exact hs.nothing
  · exact hs.done (by simp)

end

end State.FieldSound

section
variable {s : State}

theorem State.FieldReady.request (hs : s.FieldReady) {α : Type} (l : Link) (kind tag : Byte) (till : Bool) {al : Allowed}
    (g : State → α → Bool) {handle : State → α → Handled} (p : Payload α)
    (hh : Answers State.FieldReady State.FieldSound al handle) :
    Reaches State.FieldSound (serve l kind tag till al g handle p s) :=
  fieldReady_unlinked.serve fieldSound_unlinked (fun _ => FieldReady.sound) l kind tag till g p hh hs

/-- A request whose handler leaves the Field Link Controller. -/
theorem State.FieldReady.apart (hs : s.FieldReady) {α : Type} (l : Link) (kind tag : Byte) (till : Bool) {al : Allowed}
    (g : State → α → Bool) {handle : State → α → Handled} (p : Payload α)
    (hh : ∀ s f, (handle s f).state.field = s.field) :
    Reaches State.FieldSound (serve l kind tag till al g handle p s) :=
  hs.request l kind tag till g p fun s f _ hs => .of_field hs.sound (hh s f)

/-- Every command but a received byte. -/
theorem State.FieldReady.exec_of_ne (hs : s.FieldReady) (i : Instr) (hb : ∀ l b, i ≠ .receivedByte l b) :
    Reaches State.FieldSound (exec i s) := by
  have hsame : ∀ {α : Type} {handle : State → α → Handled}, (∀ s f, (handle s f).state = s) →
      ∀ s f, (handle s f).state.field = s.field := fun h s f => congrArg State.field (h s f)
  have hw := hs.sound
  cases i with
  | powerOnReset => exact fieldSound_unlinked.reaches_done FieldLinkController.sound_reset
  | interByteTimeout l => exact fieldSound_unlinked.interByteTimeout hw l
  | frameDiscard l => exact fieldSound_unlinked.frameDiscard hw l
  | busyRefusal l k t => exact fieldSound_unlinked.busyRefusal hw l k t
  | unknownKind l k t => exact fieldSound_unlinked.unknownKind hw l k t
  | transmitEnd l => exact fieldSound_unlinked.transmitEnd hw l
  | siteClockTick => exact fieldSound_unlinked.siteClockTick hw
  | setPort l t p => exact hs.request _ _ _ _ _ _ handleSetPort_fieldSound
  | setUnit l t p => exact hs.request _ _ _ _ _ _ handleSetUnit_fieldSound
  | setTimers l t p => exact hs.request _ _ _ _ _ _ handleSetTimers_fieldSound
  | goLive l t p => exact hs.request _ _ _ _ _ _ handleGoLive_fieldSound
  | restart l t p => exact hs.request _ _ _ _ _ _ handleRestart_fieldSound
  | setSite l t p => exact hs.apart _ _ _ _ _ _ handleSetSite_field
  | setFeeder l t p => exact hs.apart _ _ _ _ _ _ handleSetFeeder_field
  | setBatteryPolicy l t p => exact hs.apart _ _ _ _ _ _ handleSetBatteryPolicy_field
  | setWatermarks l t p => exact hs.apart _ _ _ _ _ _ handleSetWatermarks_field
  | setNoticeRoute l t p => exact hs.apart _ _ _ _ _ _ handleSetNoticeRoute_field
  | setTillAccess l t p => exact hs.apart _ _ _ _ _ _ handleSetTillAccess_field
  | setQueueLevels l t p => exact hs.apart _ _ _ _ _ _ handleSetQueueLevels_field
  | setTime l t p => exact hs.apart _ _ _ _ _ _ handleSetTime_field
  | authorize l t p => exact hs.apart _ _ _ _ _ _ (fun s => handleAuthorize_field s _)
  | holdPort l t p => exact hs.apart _ _ _ _ _ _ (fun s => handleHold_field s true)
  | releasePort l t p => exact hs.apart _ _ _ _ _ _ (fun s => handleHold_field s false)
  | stopSession l t p => exact hs.apart _ _ _ _ _ _ handleStopSession_field
  | setDeparture l t p => exact hs.apart _ _ _ _ _ _ handleSetDeparture_field
  | linkPurchase l t p => exact hs.apart _ _ _ _ _ _ handleLinkPurchase_field
  | programTariff l t p => exact hs.apart _ _ _ _ _ _ handleProgramTariff_field
  | eraseTariff l t p => exact hs.apart _ _ _ _ _ _ handleEraseTariff_field
  | activateTariff l t p => exact hs.apart _ _ _ _ _ _ handleActivateTariff_field
  | readReceipt l t p => exact hs.apart _ _ _ _ _ _ handleReadReceipt_field
  | setMark l t p => exact hs.apart _ _ _ _ _ _ handleSetMark_field
  | rewind l t p => exact hs.apart _ _ _ _ _ _ handleRewind_field
  | releaseMark l t p => exact hs.apart _ _ _ _ _ _ handleReleaseMark_field
  | flushQueue l t p => exact hs.apart _ _ _ _ _ _ handleFlushQueue_field
  | clearDiscrepancy l t p => exact hs.apart _ _ _ _ _ _ (fun _ _ => rfl)
  | sessionStatus l t p => exact hs.apart _ _ _ _ _ _ (hsame handleSessionStatus_state)
  | portStatus l t p => exact hs.apart _ _ _ _ _ _ (hsame handlePortStatus_state)
  | readTariff l t p => exact hs.apart _ _ _ _ _ _ (hsame handleReadTariff_state)
  | receiptCopy l t p => exact hs.apart _ _ _ _ _ _ (hsame handleReceiptCopy_state)
  | queueStatus l t p => exact hs.apart _ _ _ _ _ _ (hsame handleQueueStatus_state)
  | readDiscrepancy l t p => exact hs.apart _ _ _ _ _ _ (hsame handleReadDiscrepancy_state)
  | siteStatus l t p => exact hs.apart _ _ _ _ _ _ (hsame handleSiteStatus_state)
  | allocStatus l t p => exact hs.apart _ _ _ _ _ _ (hsame handleAllocStatus_state)
  | unitStatus l t p => exact hs.apart _ _ _ _ _ _ (hsame handleUnitStatus_state)
  | pollEnd => exact hw.execPollEnd
  | fieldReply f => exact hw.execFieldReply f
  | replyTimeout => exact hw.execReplyTimeout
  | chargerTarget p => exact hw.execChargerTarget p
  | allocationResultField => exact hw.execAllocationResultField
  | dispatchHandover => exact hw.execDispatchHandover
  | chargerReport p => exact hw.execChargerReport p
  | readingApplied p => exact hw.execReadingApplied p
  | authorizationTimeout n => exact hw.execAuthorizationTimeout n
  | dormantTimeout n => exact hw.execDormantTimeout n
  | idleSecondTick n => exact hw.execIdleSecondTick n
  | closingTimeout n => exact hw.execClosingTimeout n
  | allocationResultSessions => exact hw.execAllocationResultSessions
  | reclassification => exact hw.execReclassification
  | siteStateChangeSessions => exact hw.execSiteStateChangeSessions
  | chargerHealthChange p => exact hw.execChargerHealthChange p
  | activationEvent => exact hw.execActivationEvent
  | reportArrival u => exact hw.execReportArrival u
  | staleTimerExpiry u => exact hw.execStaleTimerExpiry u
  | unitHealthChange u => exact hw.execUnitHealthChange u
  | fallbackHoldExpiry p => exact hw.execFallbackHoldExpiry p
  | restoreTimerExpiry => exact hw.execRestoreTimerExpiry
  | dischargeAllowanceChange => exact hw.execDischargeAllowanceChange
  | earlyRequest => exact hw.execEarlyRequest
  | roundPeriodExpiry => exact hw.execRoundPeriodExpiry
  | spacingTimerExpiry => exact hw.execSpacingTimerExpiry
  | resultApplied => exact hw.execResultApplied
  | allocationResultDispatch => exact hw.execAllocationResultDispatch
  | batteryReport => exact hw.execBatteryReport
  | batteryFreshnessChange => exact hw.execBatteryFreshnessChange
  | siteStateChangeDispatch => exact hw.execSiteStateChangeDispatch
  | readingApplication p => exact hw.execReadingApplication p
  | erasingEnd => exact hw.execErasingEnd
  | writingEnd => exact hw.execWritingEnd
  | operationCompletion v => exact hw.execOperationCompletion v
  | siteStateChangeStore => exact hw.execSiteStateChangeStore
  | handOver => exact hw.execHandOver
  | storeFree => exact hw.execStoreFree
  | roomEvent => exact hw.execRoomEvent
  | receivedByte l b => exact absurd rfl (hb l b)

theorem State.FieldReady.exec (hs : s.FieldReady) (i : Instr) : Reaches State.FieldSound (exec i s) :=
  fieldReady_unlinked.exec fieldSound_unlinked (fun _ => FieldReady.sound) hs hs.exec_of_ne i

end

/-- Settles O56: in its indexed form the invariant survives every command; SETUP makes units present with an empty decrease
set. -/
theorem stepKeepsTheFieldLink : Obligations.StepKeepsTheFieldLink := by
  intro s t hsetup hwf ht
  have hempty : s.links.part = .setup → s.field.decrease = [] := fun hp => by
    obtain ⟨⟨-, -, hdecrease⟩, -⟩ := hsetup hp
    exact hdecrease
  have hready : s.FieldReady := ⟨FieldLinkController.wf_iff_sound.1 hwf, hempty⟩
  exact FieldLinkController.wf_iff_sound.2
    (fieldReady_unlinked.step (fun _ => State.FieldReady.sound) (fun _ hs i => hs.exec i) hready ht)

end Sys2Proof.Machine

namespace Sys2Proof.Machine

/-! ## Metering (chapter 6) -/

/-! ### The discrepancy log (R118) -/

theorem DiscrepancyLog.add_minor (g : DiscrepancyLog) {d : Discrepancy} (h : d.kind = .minor) :
    g.add d = { g with
      record := if g.lock = .empty then some d else g.record
      lock := if g.lock = .empty then .holdingMinor else g.lock
      minor := min 255 (g.minor + 1) } := by
  cases hlock : g.lock <;> simp [DiscrepancyLog.add, h, hlock]

theorem DiscrepancyLog.add_major (g : DiscrepancyLog) {d : Discrepancy} (h : d.kind = .major) :
    g.add d = { g with
      record := if g.lock = .holdingMajor then g.record else some d
      lock := .holdingMajor
      major := min 255 (g.major + 1) } := by
  cases hlock : g.lock <;> simp [DiscrepancyLog.add, h, hlock]

/-- Settles O41: what `DiscrepancyLog.add` makes of the log, one equation for each kind. -/
theorem discrepancyLogKeepsTheFirst : Obligations.DiscrepancyLogKeepsTheFirst := by
  intro g d
  refine ⟨fun h => ?_, fun h => ?_⟩
  · rw [g.add_minor h]
    exact ⟨rfl, rfl, fun he => ⟨if_pos he, if_pos he⟩, fun he => ⟨if_neg he, if_neg he⟩⟩
  · rw [g.add_major h]
    exact ⟨rfl, rfl, rfl, fun he => if_pos he, fun he => if_neg he⟩

/-- The log with a discrepancy more, or as it is when none was found. -/
def DiscrepancyLog.note (g : DiscrepancyLog) (found : Option Discrepancy) : DiscrepancyLog := found.elim g g.add

/-- METER_DISCREPANCY for the discrepancy found, if one was. -/
def LinkController.note (c : LinkController) (found : Option Discrepancy) : LinkController :=
  found.elim c fun d => c.raise .meterDiscrepancy d.port

/-! ### The check of a reading (R109 to R111) -/

section
variable {last reading bound : ℕ}

theorem checkReading_rollback (h : reading < last) :
    checkReading last reading bound = { delta := 0, excess := 0, kind := some .major, bound := none } := if_pos h

theorem checkReading_above (h : last ≤ reading) (hb : bound < reading - last) : checkReading last reading bound =
    { delta := bound, excess := reading - last - bound, kind := some .minor, bound := some bound } :=
  (if_neg h.not_gt).trans (if_pos hb)

theorem checkReading_within (h : last ≤ reading) (hb : reading - last ≤ bound) : checkReading last reading bound =
    { delta := reading - last, excess := 0, kind := none, bound := some bound } :=
  (if_neg h.not_gt).trans (if_neg hb.not_gt)

theorem checkReading_delta : (checkReading last reading bound).delta = min (reading - last) bound := by
  unfold checkReading
  split_ifs <;> dsimp only <;> omega

/-- R110, R111: the check loses no watt-hour the meter has counted. -/
theorem checkReading_total :
    (checkReading last reading bound).excess + (checkReading last reading bound).delta = reading - last := by
  unfold checkReading
  split_ifs <;> dsimp only <;> omega

end

/-- R118: the discrepancy that the check of a reading found. -/
def Checked.discrepancy (k : Checked) (r : MeterReading) (holder : Option Session) (reading last time : ℕ) :
    Option Discrepancy :=
  k.kind.map fun kind =>
    { kind := kind, port := r.port, session := holder.map Session.number, reading := reading, last := last,
      bound := if kind = .minor then k.bound else none, time := time }

/-! ### The session that holds the port (R112 to R115) -/

/-- R112, R115: the watt-hours of a checked delta that go to the session. -/
def Session.taken (x : Session) (delta : ℕ) : ℕ :=
  if x.acceptsEnergy then min delta (Config.energyCap - x.total) else 0

section
variable {x : Session} (k : Checked) (m : Mix)

theorem Session.taken_le (h : x.total ≤ Config.energyCap) (delta : ℕ) : x.total + x.taken delta ≤ Config.energyCap := by
  unfold Session.taken
  split <;> omega

/-- R114, R115: the delta goes to the total and, by the mix, to the two accumulators; of the rest only highest allocation
and flags change. -/
theorem Session.applyDelta_eq (x : Session) : x.applyDelta k m = { x with
    total := x.total + x.taken k.delta
    solarAcc := x.solarAcc + x.taken k.delta * m.solar
    batteryAcc := x.batteryAcc + x.taken k.delta * m.battery
    highest := x.allocation
    flags := (x.applyDelta k m).flags } := by
  cases ha : x.acceptsEnergy with
  | false => simp [Session.applyDelta, Session.taken, Session.returnHighest, ha]
  | true =>
    simp only [Session.applyDelta, Session.taken, ha, if_true]
    unfold Session.discrepant
    split <;> rfl

theorem Session.applyDelta_flags_refused (ha : x.acceptsEnergy = false) : (x.applyDelta k m).flags = x.flags := by
  simp [Session.applyDelta, Session.returnHighest, ha]

theorem Session.applyDelta_flags_accepted (ha : x.acceptsEnergy = true) : (x.applyDelta k m).flags =
    { (x.discrepant k.kind).flags with
      clamped := (x.discrepant k.kind).flags.clamped || decide (x.taken k.delta < k.delta) } := by
  simp only [Session.applyDelta, Session.taken, ha, if_true]
  unfold Session.discrepant
  split <;> rfl

/-- R109: a rollback makes the session's energy an estimate. -/
theorem Session.applyDelta_flags_rollback (ha : x.acceptsEnergy = true) {last reading : ℕ} (h : reading < last) (bound : ℕ) :
    (x.applyDelta (checkReading last reading bound) m).flags = { x.flags with estimated := true } := by
  rw [Session.applyDelta_flags_accepted _ _ ha, checkReading_rollback h]
  simp [Session.discrepant]

/-- R111, R115: the session is clamped when it cannot take every watt-hour the meter has counted. -/
theorem Session.applyDelta_flags_forward (ha : x.acceptsEnergy = true) {last reading : ℕ} (h : last ≤ reading) (bound : ℕ) :
    (x.applyDelta (checkReading last reading bound) m).flags = { x.flags with
      clamped := x.flags.clamped || decide (x.taken (min (reading - last) bound) < reading - last) } := by
  rw [Session.applyDelta_flags_accepted _ _ ha]
  obtain hb | hb := lt_or_ge bound (reading - last)
  · have hless : x.taken (min (reading - last) bound) < reading - last := by
      unfold Session.taken
      split <;> omega
    rw [checkReading_above h hb]
    simp [Session.discrepant, hless]
  · rw [checkReading_within h hb, min_eq_left hb]
    rfl

/-- R111, R112, R115: what the session does not take goes to the unbilled counter. -/
theorem unbilledGain_held (x : Session) (last reading bound : ℕ) :
    unbilledGain (some x) (checkReading last reading bound) = reading - last - x.taken (min (reading - last) bound) := by
  have htotal := checkReading_total (last := last) (reading := reading) (bound := bound)
  have hrest : unbilledGain (some x) (checkReading last reading bound) + x.taken (checkReading last reading bound).delta =
      (checkReading last reading bound).excess + (checkReading last reading bound).delta := by
    cases ha : x.acceptsEnergy with
    | false => simp [unbilledGain, Session.taken, ha]
    | true =>
      simp only [unbilledGain, Session.taken, Session.overflow, ha, if_true]
      omega
  rw [checkReading_delta] at hrest htotal
  omega

end

/-- R112: without a session every watt-hour goes to the unbilled counter. -/
theorem unbilledGain_free (last reading bound : ℕ) :
    unbilledGain none (checkReading last reading bound) = reading - last :=
  checkReading_total

/-! ### The application of a reading (R107) -/

theorem MeteringUnit.meter_setMeter (u : MeteringUnit) (p q : ℕ) (m : PortMeter) (h1 : 1 ≤ p) (h2 : p ≤ 32) :
    (u.setMeter p m).meter q = if q = p then m else u.meter q := nth_put _ _ _ _ _ h1 h2

/-- The session that holds the port changed; without one the table stays. -/
def SessionController.alter (c : SessionController) (holder : Option Session) (f : Session → Session) : SessionController :=
  holder.elim c fun x => c.update x.number f

theorem SessionController.alter_table (c : SessionController) (holder : Option Session) (f : Session → Session) :
    c.alter holder f = { c with table := (c.alter holder f).table } := by
  cases holder <;> rfl

/-- The queue of readings without the one applied, which ends in a reading-applied event. -/
def Events.applied (e : Events) (r : MeterReading) (rest : List MeterReading) : Events := { e with
  readings := rest
  readingsApplied := e.readingsApplied ++ [{ port := r.port, value := r.value, arrival := r.arrival, report := r.report }] }

/-- What a reading leaves: the port's meter, the session table, the discrepancy noted, and the events. -/
def State.metered (s : State) (r : MeterReading) (rest : List MeterReading) (m : PortMeter) (c : SessionController)
    (found : Option Discrepancy) : State := { s with
  links := s.links.note found
  sessions := c
  metering := { s.metering.setMeter r.port m with log := s.metering.log.note found }
  events := s.events.applied r rest }

section
variable {s : State} {r : MeterReading} {rest : List MeterReading} {reading last since : ℕ}

theorem exec_readingApplication (h : takeFirst (fun q => q.port == r.port) s.events.readings = some (r, rest)) :
    exec (.readingApplication r.port) s =
      .next ((s.setEvents { s.events with readings := rest }).takeReading r).settle := by
  show execReadingApplication r.port s = _
  simp only [execReadingApplication, h]
  rfl

/-- R107: a report that marks its reading unavailable. -/
theorem State.takeReading_unavailable (hv : r.value = none) :
    (s.setEvents { s.events with readings := rest }).takeReading r = { s with events := s.events.applied r rest } := by
  simp only [State.takeReading, hv]
  rw [Events.applied, hv]
  rfl

/-- R108: the first reading of a port. -/
theorem State.takeReading_first (hv : r.value = some reading) (hl : (s.metering.meter r.port).last = none) :
    (s.setEvents { s.events with readings := rest }).takeReading r = s.metered r rest
      { s.metering.meter r.port with last := some reading, arrival := some r.arrival }
      (s.sessions.alter (s.sessions.holder r.port) fun y => y.firstReading reading) none := by
  simp only [State.takeReading, hv, State.setEvents_metering, hl, State.applyFirstReading, State.setMetering_sessions,
    State.setEvents_sessions]
  rw [State.metered, Events.applied, hv]
  cases s.sessions.holder r.port <;> rfl

/-- The check of a reading on the port, by the highest allocation of the session that holds it (R110). -/
def checkHeld (holder : Option Session) (r : MeterReading) (reading last since : ℕ) : Checked :=
  checkReading last reading (plausibilityBound (holder.elim 0 Session.highest) (r.arrival - since))

/-- R110: without a session the bound is 10 Wh, however long the port has been without a reading. -/
theorem checkHeld_none (r : MeterReading) (reading last since : ℕ) :
    checkHeld none r reading last since = checkReading last reading 10 :=
  congrArg (fun n => checkReading last reading ((n + 28799) / 28800 + 10)) (Nat.zero_mul (r.arrival - since))

/-- R118: the discrepancy a check found is logged, and none changes nothing. -/
theorem State.note_eq (u : State) (found : Option Discrepancy) : found.elim u u.logDiscrepancy =
    { u with links := u.links.note found, metering := { u.metering with log := u.metering.log.note found } } := by
  cases found <;> rfl

/-- R109 to R115, R118: check, session, meter and log of a reading on a port with a last reading. -/
theorem State.applyReading_eq {holder : Option Session} (hh : s.sessions.holder r.port = holder) :
    s.applyReading r reading last since =
      let k := checkHeld holder r reading last since
      let found := k.discrepancy r holder reading last s.siteTime
      let unbilled := min ((s.metering.meter r.port).unbilled + unbilledGain holder k) 4294967295
      let u := { s with
        sessions := s.sessions.alter holder fun y => y.applyDelta k s.balance.record.mix
        metering := s.metering.setMeter r.port { last := reading, arrival := r.arrival, unbilled := unbilled } }
      found.elim u u.logDiscrepancy := by
  have hsaturate : ∀ n, saturate32 n = min n 4294967295 := fun _ => rfl
  simp only [State.applyReading, hh, hsaturate]
  cases holder
  all_goals
    dsimp only [checkHeld, Option.elim]
    generalize checkReading last reading _ = k
    unfold Checked.discrepancy
    cases k.kind <;> rfl

/-- R107: a reading on a port with a last reading. -/
theorem State.takeReading_next {holder : Option Session} (hh : s.sessions.holder r.port = holder)
    (hv : r.value = some reading) (hl : (s.metering.meter r.port).last = some last)
    (ha : (s.metering.meter r.port).arrival = some since) :
    (s.setEvents { s.events with readings := rest }).takeReading r = s.metered r rest
      { last := some reading, arrival := some r.arrival,
        unbilled := min ((s.metering.meter r.port).unbilled + unbilledGain holder (checkHeld holder r reading last since))
          4294967295 }
      (s.sessions.alter holder fun y => y.applyDelta (checkHeld holder r reading last since) s.balance.record.mix)
      ((checkHeld holder r reading last since).discrepancy r holder reading last s.siteTime) := by
  simp only [State.takeReading, hv, State.setEvents_metering, hl, ha, Option.getD_some]
  rw [State.applyReading_eq (s := s.setEvents { s.events with readings := rest }) hh, State.metered, Events.applied, hv]
  dsimp only
  rw [State.note_eq]
  rfl

end

/-- Settles O40: the three forms of `State.takeReading`; what every checked reading leaves by the branches of `checkReading`,
and the account of its watt-hours by `Session.applyDelta_eq` and `unbilledGain_held`. -/
theorem readingIsBoundedAndAccountedFor : Obligations.ReadingIsBoundedAndAccountedFor := by
  intro s r rest hfirst h1 h2 hnumbers ended
  have hexec := exec_readingApplication hfirst
  have hmeter : ∀ m c found p, (s.metered r rest m c found).settle.metering.meter p =
      if p = r.port then m else s.metering.meter p := fun m c found p => s.metering.meter_setMeter _ _ _ h1 h2
  refine ⟨fun hv => ?_, fun reading hv hl => ?_, ?_⟩
  · rw [hexec, State.takeReading_unavailable hv]
    rfl
  · rw [State.takeReading_first hv hl] at hexec
    refine ⟨_, hexec, ?_, fun p => ?_, fun hh => ?_, fun x hh hf => ?_⟩
    · rw [State.metered, SessionController.alter_table]
      rfl
    · rw [hmeter]
      split_ifs with hp
      · rw [hp]
      · rfl
    · rw [hh]
      rfl
    · rw [hh]
      exact s.sessions.update_const x _ hf hnumbers
  · intro reading last since hv hl ha before applied
    have happlied : ∀ (holder : Option Session) m c bound, m.last = some reading → m.arrival = some r.arrival →
        c = { s.sessions with table := c.table } →
        applied (s.metered r rest m c
          ((checkReading last reading bound).discrepancy r holder reading last s.siteTime)).settle
          (holder.map Session.number) bound := by
      intro holder m c bound hlast harrival hc
      refine ⟨?_, ?_, ?_, fun p hp => ?_, fun h => ?_, fun h hb => ?_, fun h hb => ?_⟩
      · rw [State.metered, hc]
        rfl
      · rw [hmeter, if_pos rfl, hlast]
      · rw [hmeter, if_pos rfl, harrival]
      · rw [hmeter, if_neg hp]
      · rw [checkReading_rollback h]
        exact ⟨rfl, rfl⟩
      · rw [checkReading_above h hb]
        exact ⟨rfl, rfl⟩
      · rw [checkReading_within h hb]
        exact ⟨rfl, rfl⟩
    refine ⟨fun x hh hf htotal => ?_, fun hh => ?_⟩
    · intro bound mix
      have heq := x.applyDelta_eq (checkReading last reading bound) mix
      have hcheck : checkHeld (some x) r reading last since = checkReading last reading bound := rfl
      have hgain := unbilledGain_held x last reading bound
      rw [checkReading_delta] at heq
      rw [State.takeReading_next hh hv hl ha] at hexec
      refine ⟨_, x.taken (min (reading - last) bound), x.applyDelta (checkReading last reading bound) mix, hexec,
        happlied (some x) _ _ bound rfl rfl rfl, s.sessions.update_const x _ hf hnumbers, heq, ?_, fun hx => ?_,
        fun hx h => ?_, fun hx h => ?_⟩
      · rw [heq]
        exact Session.taken_le htotal _
      all_goals
        rw [hmeter, if_pos rfl, hcheck, hgain]
      · have htaken : x.taken (min (reading - last) bound) = 0 := by simp [Session.taken, hx]
        exact ⟨htaken, Session.applyDelta_flags_refused _ _ hx, by rw [htaken]; rfl⟩
      · have hnone : reading - last = 0 := Nat.sub_eq_zero_of_le h.le
        have htaken : x.taken (min (reading - last) bound) = 0 := by simp [Session.taken, hnone]
        exact ⟨htaken, Session.applyDelta_flags_rollback _ hx h _, by rw [hnone, Nat.zero_sub]; rfl⟩
      · exact ⟨if_pos hx, Session.applyDelta_flags_forward _ hx h _, rfl⟩
    · rw [State.takeReading_next hh hv hl ha, checkHeld_none] at hexec
      refine ⟨_, hexec, happlied none _ _ 10 rfl rfl rfl, rfl, ?_⟩
      rw [hmeter, if_pos rfl, unbilledGain_free]

end Sys2Proof.Machine

namespace Sys2Proof.Machine

/-! ## The invariant of the Tariff Store (R120, R123, R125, R129)

In its indexed form: no command but those of the store, an authorization and a pricing reaches the store at all. -/

/-- `TariffStore.Wf`, clause by clause. -/
structure TariffStore.Sound (t : TariffStore) : Prop where
  active : ∀ k, t.active = some k → k < 8 ∧ (t.slot k).state = .valid
  target : ∀ op, t.operation = some op → op.slot < 8 ∧ (t.slot op.slot).state = .busy ∧ (t.slot op.slot).uses = 0
  busy : ∀ k, k < 8 → (t.slot k).state = .busy → t.operation.map StoreOperation.slot = some k
  island : t.siteCopy = .island → t.operation = none

theorem TariffStore.wf_iff_sound {t : TariffStore} : t.Wf ↔ t.Sound := by
  have hmem : ∀ {α : Type} (o : Option α) (p : α → Prop), (∀ a ∈ o.toList, p a) ↔ ∀ a, o = some a → p a :=
    fun o p => by simp
  constructor
  · rintro ⟨ha, ht, hb, hi⟩
    exact ⟨(hmem _ _).1 ha, (hmem _ _).1 ht, fun k hk => hb k (List.mem_range.2 hk), hi⟩
  · rintro ⟨ha, ht, hb, hi⟩
    exact ⟨(hmem _ _).2 ha, (hmem _ _).2 ht, fun k hk => hb k (List.mem_range.1 hk), hi⟩

/-! ### A slot replaced -/

/-- Outside the eight slots nothing is replaced. -/
theorem TariffStore.setSlot_outside (t : TariffStore) {k : Nat} (x : TariffSlot) (h : ¬ k < 8) : t.setSlot k x = t := by
  rw [TariffStore.setSlot, Vector.setIfInBounds_eq_of_size_le (Nat.le_of_not_lt h)]

/-- A slot replaced by one in the same state. -/
theorem TariffStore.state_setSlot (t : TariffStore) (k j : Nat) {x : TariffSlot} (h : x.state = (t.slot k).state) :
    ((t.setSlot k x).slot j).state = (t.slot j).state := by
  by_cases hk : k < 8
  · rw [TariffStore.slot_setSlot _ _ _ _ hk]
    split
    · rename_i e; rw [h, e]
    · rfl
  · rw [t.setSlot_outside x hk]

namespace TariffStore.Sound

variable {t : TariffStore} (h : t.Sound)
include h

/-- Only slot states, and whether the target of the operation is in use, are read of the slots. -/
theorem of_states {u : TariffStore} (ha : u.active = t.active)
    (ho : u.operation.map StoreOperation.slot = t.operation.map StoreOperation.slot) (hc : u.siteCopy = t.siteCopy)
    (hstate : ∀ k, (u.slot k).state = (t.slot k).state)
    (huses : ∀ op, t.operation = some op → (u.slot op.slot).uses = 0) : u.Sound := by
  refine ⟨fun k hk => ?_, fun op hop => ?_, fun k hk hb => ?_, fun hi => ?_⟩
  · rw [hstate]; exact h.active k (ha ▸ hk)
  · rw [hop, Option.map_some, eq_comm, Option.map_eq_some_iff] at ho
    obtain ⟨op', hop', e⟩ := ho
    obtain ⟨hlt, hb, -⟩ := h.target op' hop'
    rw [hstate, ← e]
    exact ⟨hlt, hb, huses op' hop'⟩
  · rw [ho]; exact h.busy k hk (hstate k ▸ hb)
  · have := h.island (hc ▸ hi)
    rw [this] at ho
    simpa using ho

/-- R130: a session bound to the active slot, which is VALID and so not the target of the operation. -/
theorem bind {k : Nat} (ha : t.active = some k) : (t.bind k).Sound := by
  refine h.of_states rfl rfl rfl (fun j => t.state_setSlot k j rfl) fun op hop => ?_
  obtain ⟨hk, hvalid⟩ := h.active k ha
  obtain ⟨-, hbusy, huses⟩ := h.target op hop
  have hne : op.slot ≠ k := fun e => by simp [e, hvalid] at hbusy
  rw [t.uses_bind hk, if_neg hne, huses]

/-- R130: a count lowered; one at 0 stays at 0. -/
theorem release (k : Nat) : (t.release k).Sound := by
  refine h.of_states rfl rfl rfl (fun j => t.state_setSlot k j rfl) fun op hop => ?_
  obtain ⟨-, -, huses⟩ := h.target op hop
  by_cases hk : k < 8
  · rw [t.uses_release hk]
    split
    · rename_i e; rw [← e, huses]
    · exact huses
  · rw [TariffStore.release, t.setSlot_outside _ hk, huses]

/-- R124: a phase that ends gives the slot other bytes and the operation its next phase. -/
theorem advance {op : StoreOperation} (ho : t.operation = some op) (bytes : List Byte) (phase : StorePhase) :
    TariffStore.Sound { t.setSlot op.slot { t.slot op.slot with bytes := bytes } with
      operation := some { op with phase := phase } } := by
  refine h.of_states rfl (by rw [ho]; rfl) rfl (fun j => t.state_setSlot op.slot j rfl) fun op' hop => ?_
  obtain ⟨-, -, huses⟩ := h.target op' hop
  exact (t.uses_setSlot op.slot op'.slot { t.slot op.slot with bytes := bytes } rfl).trans huses

/-- R123, R124: an operation accepted on a slot that is not in use, outside ISLAND and beside no other. -/
theorem start {k : Nat} (hk : k < 8) (hfree : operationRefusal t k = none) (kind : StoreKind) (image : List Byte) :
    (t.start k kind image).Sound := by
  unfold operationRefusal at hfree
  split_ifs at hfree with huse hsupply hop
  obtain ⟨hactive, huses⟩ := not_or.1 huse
  have hslot : ∀ j, (t.start k kind image).slot j = if j = k then { t.slot k with state := .busy } else t.slot j :=
    fun j => t.slot_setSlot k j _ hk
  refine ⟨fun j hj => ?_, fun op ho => ?_, fun j hj hb => ?_, fun hi => absurd (.inl hi) hsupply⟩
  · have hne : j ≠ k := fun e => hactive (e ▸ hj)
    rw [hslot, if_neg hne]
    exact h.active j hj
  · cases ho
    rw [hslot, if_pos rfl]
    exact ⟨hk, rfl, by simpa using huses⟩
  · by_cases e : j = k
    · rw [e]; rfl
    · rw [hslot, if_neg e] at hb
      have := h.busy j hj hb
      rw [Option.not_isSome_iff_eq_none.1 hop] at this
      cases this

/-- R124 to R126: the operation in flight ended, its slot no longer BUSY. -/
theorem ended {op : StoreOperation} (ho : t.operation = some op) {x : TariffSlot} (hx : x.state ≠ .busy) :
    TariffStore.Sound { t.setSlot op.slot x with operation := none } := by
  obtain ⟨hk, hbusy, -⟩ := h.target op ho
  have hslot : ∀ j, (t.setSlot op.slot x).slot j = if j = op.slot then x else t.slot j := fun j => t.slot_setSlot _ j _ hk
  refine ⟨fun j hj => ?_, fun op' hop' => (by cases hop'), fun j hj hb => ?_, fun _ => rfl⟩
  · obtain ⟨hj8, hvalid⟩ := h.active j hj
    have hne : j ≠ op.slot := fun e => by simp [e, hbusy] at hvalid
    refine ⟨hj8, ?_⟩
    rw [← hvalid, ← if_neg hne (α := TariffSlot) (t := x) (e := t.slot j), ← hslot]
    rfl
  · have hb' : ((t.setSlot op.slot x).slot j).state = .busy := hb
    rw [hslot] at hb'
    split at hb'
    · exact absurd hb' hx
    · rename_i hne
      have := h.busy j hj hb'
      rw [ho, Option.map_some, Option.some.injEq] at this
      exact absurd this.symm hne

/-- R129: the active pointer moved to a VALID slot. -/
theorem activate {k : Nat} (hk : k < 8) (hvalid : (t.slot k).state = .valid) :
    TariffStore.Sound { t with active := some k } :=
  ⟨fun j hj => by cases hj; exact ⟨hk, hvalid⟩, h.target, h.busy, h.island⟩

/-- R125: the copy of the site state moved, to ISLAND only beside no operation. -/
theorem copied {c : SiteState} (hc : c = .island → t.operation = none) : TariffStore.Sound { t with siteCopy := c } :=
  ⟨h.active, h.target, h.busy, hc⟩

end TariffStore.Sound

/-- Right after a reset no slot is BUSY, none is active and no operation is in flight (R120). -/
theorem TariffStore.sound_of_idle {t : TariffStore} (ha : t.active = none) (ho : t.operation = none)
    (hb : ∀ k, k < 8 → (t.slot k).state ≠ .busy) : t.Sound :=
  ⟨fun k hk => (by simp [ha] at hk), fun op hop => (by simp [ho] at hop), fun k hk h => absurd h (hb k hk), fun _ => ho⟩

end Sys2Proof.Machine

namespace Sys2Proof.Machine

/-! ### Operations of the other blocks leave the Tariff Store -/

section
variable (s : State)

theorem foldl_store {α : Type} {f : State → α → State} (hf : ∀ s a, (f s a).store = s.store) (xs : List α) :
    (xs.foldl f s).store = s.store :=
  foldl_keeps (P := fun t => t.store = s.store) (fun a h => (hf _ a).trans h) xs rfl

/-! #### The Site Balance Unit and the Power Allocator -/

@[simp] theorem State.recompute_store : s.recompute.store = s.store := by rw [s.recompute_eq]; rfl

@[simp] theorem State.changeSite_store (n : SiteState) : (s.changeSite n).store = s.store := by simp [State.changeSite]

@[simp] theorem State.followGrid_store (g : Option Bool) : (s.followGrid g).store = s.store := by
  unfold State.followGrid
  split
  case h_2 => split <;> simp
  all_goals simp [State.enterIsland, State.enterRestoring]

@[simp] theorem State.checkOverrun_store (w : ℤ) (b : Bool) : (s.checkOverrun w b).store = s.store := by
  unfold State.checkOverrun; split <;> simp

@[simp] theorem State.freshen_store (a b : Bool) : (s.freshen a b).store = s.store := by
  unfold State.freshen; split <;> simp

@[simp] theorem State.takeReport_leaves_store (r : Report) : (s.takeReport r).store = s.store := by
  unfold State.takeReport; split <;> simp

@[simp] theorem State.makeStale_store (u : ℕ) : (s.makeStale u).store = s.store := by
  unfold State.makeStale; split_ifs <;> simp

@[simp] theorem State.takeHealth_store (h : HealthChange) : (s.takeHealth h).store = s.store := by
  unfold State.takeHealth; split_ifs <;> simp [State.startPhantom, State.endPhantom]

@[simp] theorem State.takeRound_store : s.takeRound.store = s.store := rfl

@[simp] theorem State.roundOrPend_store : s.roundOrPend.store = s.store := by
  unfold State.roundOrPend; split <;> simp

@[simp] theorem State.takeEarly_store : s.takeEarly.store = s.store := by
  unfold State.takeEarly; split_ifs <;> simp

@[simp] theorem State.takeApplied_store : s.takeApplied.store = s.store := by
  simp only [State.takeApplied]; split_ifs <;> simp

/-! #### The Battery Dispatch Unit and the Field Link Controller -/

@[simp] theorem State.computeCommand_store (t : DispatchTrigger) : (s.computeCommand t).store = s.store := rfl

@[simp] theorem State.checkStanding_store : s.checkStanding.store = s.store := by
  unfold State.checkStanding; split <;> simp

@[simp] theorem State.evaluateAllowance_store : s.evaluateAllowance.store = s.store := by
  rw [s.evaluateAllowance_eq]; rfl

@[simp] theorem State.applyUrgent_store (n : ℕ) : (s.applyUrgent n).store = s.store := by
  simp only [State.applyUrgent]; split_ifs <;> simp

@[simp] theorem State.replyValid_store (t : Transaction) (p : List Byte) : (s.replyValid t p).store = s.store := by
  rw [s.replyValid_eq]

@[simp] theorem State.replyMissed_store (t : Transaction) : (s.replyMissed t).store = s.store := by
  simp only [State.replyMissed]; split <;> simp [State.healthChanged_eq]

/-! #### The Session Controller: no session authorized -/

@[simp] theorem State.transition_store (n : ℕ) (f : Session → Session) : (s.transition n f).store = s.store := by
  cases hx : s.sessions.find n with
  | none => rw [s.transition_none _ _ hx]
  | some x => rw [s.transition_eq f hx]

@[simp] theorem State.setPortState_store (p : ℕ) (st : PortState) : (s.setPortState p st).store = s.store := rfl

@[simp] theorem State.lockoutAlone_store (sent p : ℕ) : (s.lockoutAlone sent p).store = s.store := by
  unfold State.lockoutAlone; split <;> rfl

@[simp] theorem State.holdPort_store (p : ℕ) (r : HoldReason) (add : Bool) : (s.holdPort p r add).store = s.store := by
  unfold State.holdPort; split <;> simp

@[simp] theorem State.applyFault_store (p : ℕ) (fault : Bool) : (s.applyFault p fault).store = s.store := by
  simp only [State.applyFault]; split_ifs <;> simp

@[simp] theorem State.applyDemand_store (p : ℕ) : (s.applyDemand p).store = s.store := by
  unfold State.applyDemand; split <;> simp

@[simp] theorem State.removeSession_store (n : ℕ) : (s.removeSession n).store = s.store := rfl

@[simp] theorem State.completeClosing_store (x : Session) (c e : Bool) : (s.completeClosing x c e).store = s.store := rfl

@[simp] theorem State.tryComplete_store (p : ℕ) : (s.tryComplete p).store = s.store := by
  unfold State.tryComplete
  split
  · rfl
  · split
    · split <;> simp
    · rfl

@[simp] theorem State.noticeUrgent_store (n : ℕ) (a b : SessionClass) : (s.noticeUrgent n a b).store = s.store := by
  unfold State.noticeUrgent; split <;> rfl

@[simp] theorem State.takeEntry_store (e : CandidateEntry) : (s.takeEntry e).store = s.store := by
  unfold State.takeEntry
  split
  · rfl
  · split <;> simp

@[simp] theorem State.takeResult_store (r : AllocationResult) : (s.takeResult r).store = s.store :=
  foldl_store s State.takeEntry_store r.entries

@[simp] theorem State.reclassify_store (high urgent n : ℕ) : (s.reclassify high urgent n).store = s.store := by
  unfold State.reclassify; split <;> simp

@[simp] theorem State.followSite_store (c : SiteChange) : (s.followSite c).store = s.store := by
  simp only [State.followSite]
  split_ifs
  · exact foldl_store s (fun _ _ => State.transition_store ..) _
  · exact foldl_store s (fun _ _ => State.transition_store ..) _
  · rfl

/-! #### The Receipt Queue and the Metering Unit -/

@[simp] theorem State.takeReceipt_store (r : Receipt) : (s.takeReceipt r).store = s.store := by
  simp only [State.takeReceipt]; split_ifs <;> rfl

@[simp] theorem State.roomIf_store (n : ℕ) : (s.roomIf n).store = s.store := by
  unfold State.roomIf; split <;> simp

@[simp] theorem State.takeReading_store (r : MeterReading) : (s.takeReading r).store = s.store := by
  have hfirst : ∀ n, (s.applyFirstReading r n).store = s.store := fun n => by
    simp only [State.applyFirstReading]; split <;> rfl
  have happly : ∀ n m k, (s.applyReading r n m k).store = s.store := fun n m k => by
    simp only [State.applyReading]
    split <;> split <;> rfl
  simp only [State.takeReading, State.sendReadingApplied_store]
  split
  · rfl
  · split
    · exact hfirst _
    · exact happly _ _ _

end

/-! ### Operations that reach the store keep its invariant -/

/-- The invariant, of the store of a state. -/
def State.StoreSound (s : State) : Prop := s.store.Sound

theorem storeSound_unlinked : Unlinked State.StoreSound := ⟨fun _ _ hs => hs, fun _ hs => hs, fun _ hs => hs⟩

namespace State.StoreSound

section
variable {s t : State} (hs : s.StoreSound)
include hs

theorem of_store (h : t.store = s.store) : t.StoreSound := (congrArg TariffStore.Sound h).mpr hs

theorem raise (k : NoticeKind) (d : ℕ) : (s.raise k d).StoreSound := hs
theorem setSessions (c : SessionController) : (s.setSessions c).StoreSound := hs
theorem setBuilder (b : ReceiptBuilder) : (s.setBuilder b).StoreSound := hs
theorem setEvents (e : Events) : (s.setEvents e).StoreSound := hs

/-! #### Sessions authorized (R9, R10, R130) -/

theorem authorizeSession (n : ℕ) (who : Authorizer) (customer : Text) (departure : Option ℕ) :
    (s.authorizeSession n who customer departure).StoreSound := by
  unfold State.authorizeSession
  split
  · rename_i ha _
    have hbound : (s.setStore (s.store.bind _)).StoreSound := TariffStore.Sound.bind hs ha
    exact hbound.of_store (State.transition_store ..)
  · exact hs

theorem freeVend (n : ℕ) : (s.freeVend n).StoreSound := by
  unfold State.freeVend
  split
  · exact hs
  · split
    · exact hs.authorizeSession ..
    · exact hs

theorem createSession (p : ℕ) : (s.createSession p).StoreSound := by
  rw [State.createSession_eq]
  exact freeVend (s := s.openSession p) hs _

theorem serveWaiting : s.serveWaiting.StoreSound := by
  unfold State.serveWaiting
  split
  · exact hs
  · split
    · exact hs
    · exact (hs.setSessions _).createSession _

theorem abandon (x : Session) (st : PortState) : (s.abandon x st).StoreSound :=
  ((hs.of_store (t := (s.removeSession x.number).setPortState x.port st) rfl).raise _ _).serveWaiting

theorem applyToSession (x : Session) (r : ChargerReport) : (s.applyToSession x r).StoreSound := by
  unfold State.applyToSession
  cases x.state with
  | pricing | waitQueue => exact hs
  | plugged =>
    simp only
    split
    · exact hs
    · exact hs.abandon _ _
  | _ =>
    simp only
    split
    all_goals exact hs.of_store (by simp)

theorem applyConnection (r : ChargerReport) : (s.applyConnection r).StoreSound := by
  unfold State.applyConnection
  split
  · split
    · exact hs
    · exact hs.createSession _
  · exact hs
  · exact hs
  · split
    · exact hs
    · exact hs.applyToSession _ _
  · exact hs

theorem takeChargerReport (r : ChargerReport) : (s.takeChargerReport r).StoreSound := by
  unfold State.takeChargerReport
  split
  · exact hs
  · refine of_store (applyConnection (of_store hs ?_) r) (State.lockoutAlone_store ..)
    simp

/-! #### Sessions priced (R130, R134, R135, R144, R145) -/

theorem leaveTable (n : ℕ) : (s.leaveTable n).StoreSound :=
  ((hs.of_store (s.removeSession_store n)).raise _ _).serveWaiting

theorem placeReceipt (n : ℕ) (r : Receipt) : (s.placeReceipt n r).StoreSound := by
  unfold State.placeReceipt
  split
  · exact (hs.of_store (s.takeReceipt_store r)).leaveTable n
  · exact hs.of_store (by simp)

theorem priceSession (x : Session) : (s.priceSession x).StoreSound :=
  placeReceipt (setBuilder (s := s.setStore _) (TariffStore.Sound.release hs _) _) _ _

theorem takeHandOver (n : ℕ) : (s.takeHandOver n).StoreSound := by
  unfold State.takeHandOver
  split
  · exact hs
  · split_ifs
    · exact hs.priceSession _
    · exact hs.of_store (by simp)
    · exact hs

theorem priceHead (n : ℕ) : (s.priceHead n).StoreSound := by
  simp only [State.priceHead]
  split
  · exact hs
  · split
    · exact (hs.setBuilder _).priceSession _
    · exact hs

omit hs in
theorem drain (fuel : ℕ) {s : State} (hs : s.StoreSound) : (State.drain fuel s).StoreSound := by
  induction fuel generalizing s with
  | zero => exact hs
  | succ fuel ih =>
    unfold State.drain
    split
    · exact hs
    · split
      · exact hs
      · exact ih (((hs.setBuilder _).of_store (State.takeReceipt_store ..)).leaveTable _)

/-! #### The store operation (R123 to R126) -/

theorem startOperation {k : ℕ} (hk : k ≤ 7) (o : StoreKind) (im : List Byte) :
    (startOperation s k o im).state.StoreSound := by
  unfold Machine.startOperation
  split
  · exact hs
  · rename_i hfree
    exact TariffStore.Sound.start hs (by omega) hfree o im

theorem stopOperation {op : StoreOperation} (ho : s.store.operation = some op) : (s.stopOperation op).StoreSound :=
  TariffStore.Sound.ended hs ho (by simp)

theorem completeOperation {op : StoreOperation} (ho : s.store.operation = some op) (v : Bool) :
    (s.completeOperation op v).StoreSound :=
  TariffStore.Sound.ended hs ho (by cases v <;> cases op.kind <;> simp [verifiedState])

/-- R125: the copy moved, and an operation that is overtaken by ISLAND stopped. -/
theorem siteMoved (c : SiteState) :
    (if c = .island then (s.setStore { s.store with siteCopy := c }).abortOperation
      else s.setStore { s.store with siteCopy := c }).StoreSound := by
  split
  · unfold State.abortOperation
    split
    · rename_i ho
      exact TariffStore.Sound.copied hs fun _ => ho
    · rename_i op ho
      obtain h := TariffStore.Sound.ended hs ho (x := { s.store.slot op.slot with
        bytes := leftBehind (s.setStore { s.store with siteCopy := c }) op, state := .bad }) (by simp)
      exact TariffStore.Sound.copied h fun _ => rfl
  · rename_i hc
    exact TariffStore.Sound.copied hs fun e => absurd e hc

/-- R120, R126: no slot is BUSY once the operation in flight is stopped. -/
theorem stopAny_not_busy {k : ℕ} (hk : k < 8) : (s.stopAny.store.slot k).state ≠ .busy := by
  have hidle : s.stopAny.StoreSound ∧ s.stopAny.store.operation = none := by
    unfold State.stopAny
    split
    · exact ⟨hs, ‹_›⟩
    · exact ⟨hs.stopOperation ‹_›, rfl⟩
  obtain ⟨hsound, ho⟩ := hidle
  intro hb
  have := hsound.busy k hk hb
  simp [ho] at this

end

end State.StoreSound

end Sys2Proof.Machine

namespace Sys2Proof.Machine

/-! ### Requests that leave the store -/

section
variable (s : State)

theorem handleSetSite_store (f : SiteFields) : (handleSetSite s f).state.store = s.store := by
  simp only [handleSetSite, setBuilder_next_ite]
  split_ifs <;> simp [ok, refuse]

theorem handleSetFeeder_store (f : FeederFields) : (handleSetFeeder s f).state.store = s.store := by
  unfold handleSetFeeder; split <;> rfl

theorem handleSetPort_store (f : PortFields) : (handleSetPort s f).state.store = s.store := by
  have hconfigured : ∀ e, (s.configurePort f.port e).store = s.store := fun e => by cases e <;> rfl
  unfold handleSetPort
  split
  · rfl
  · split
    · split
      · rfl
      · split
        · exact hconfigured (some _)
        · exact hconfigured none
    · rfl

theorem handleSetUnit_store (f : UnitFields) : (handleSetUnit s f).state.store = s.store := by
  unfold handleSetUnit
  split
  · rfl
  · split_ifs <;> rfl

theorem handleSetBatteryPolicy_store (f : PolicyFields) : (handleSetBatteryPolicy s f).state.store = s.store := by
  simp only [handleSetBatteryPolicy]; split_ifs <;> simp [ok, refuse]

theorem handleSetTimers_store (f : TimerFields) : (handleSetTimers s f).state.store = s.store := by
  simp only [handleSetTimers]; split <;> rfl

theorem handleSetWatermarks_store (f : WatermarkFields) : (handleSetWatermarks s f).state.store = s.store := by
  simp only [handleSetWatermarks]; split_ifs <;> rfl

theorem handleSetNoticeRoute_store (f : RouteFields) : (handleSetNoticeRoute s f).state.store = s.store := by
  unfold handleSetNoticeRoute
  split
  · rfl
  · split <;> rfl

theorem handleSetTillAccess_store (f : TillFields) : (handleSetTillAccess s f).state.store = s.store := by
  unfold handleSetTillAccess; split <;> rfl

theorem handleSetQueueLevels_store (f : LevelFields) : (handleSetQueueLevels s f).state.store = s.store := by
  unfold handleSetQueueLevels; split <;> rfl

theorem handleSetTime_store (t : ℕ) : (handleSetTime s t).state.store = s.store := by
  unfold handleSetTime; split <;> rfl

theorem handleGoLive_store (u : Unit) : (handleGoLive s u).state.store = s.store := by
  unfold handleGoLive
  split
  · rfl
  · simp [ok, State.goLive]

theorem handleHold_store (add : Bool) (p : ℕ) : (handleHold add s p).state.store = s.store := by
  unfold handleHold
  split
  · split
    · rfl
    · split <;> simp [ok, refuse]
  · rfl

theorem handleStopSession_store (n : ℕ) : (handleStopSession s n).state.store = s.store := by
  unfold handleStopSession
  split
  · rfl
  · split <;> simp [ok, refuse]

theorem handleSetDeparture_store (f : DepartureFields) : (handleSetDeparture s f).state.store = s.store := by
  unfold handleSetDeparture
  split
  · rfl
  · split <;> rfl

theorem handleLinkPurchase_store (f : PurchaseFields) : (handleLinkPurchase s f).state.store = s.store := by
  simp only [handleLinkPurchase]
  split
  · split
    · rfl
    · split_ifs <;> rfl
  · rfl

theorem handleReadReceipt_store (u : Unit) : (handleReadReceipt s u).state.store = s.store := by
  unfold handleReadReceipt; split <;> simp

theorem handleSetMark_store (u : Unit) : (handleSetMark s u).state.store = s.store := by simp [handleSetMark]

theorem handleRewind_store (u : Unit) : (handleRewind s u).state.store = s.store := by
  unfold handleRewind; split <;> rfl

theorem handleReleaseMark_store (u : Unit) : (handleReleaseMark s u).state.store = s.store := by
  unfold handleReleaseMark; split <;> simp [refuse]

theorem handleFlushQueue_store (u : Unit) : (handleFlushQueue s u).state.store = s.store := by simp [handleFlushQueue]

end

/-! ### Requests that reach the store -/

/-- What a request's handler does to the store's invariant. -/
abbrev KeepsStore {α : Type} (al : Allowed) (handle : State → α → Handled) : Prop :=
  Answers State.StoreSound State.StoreSound al handle

theorem handleAuthorize_keepsStore (who : Authorizer) : KeepsStore .liveOnly (handleAuthorize who) := by
  intro s f _ hs
  unfold handleAuthorize
  split
  · split
    · exact hs
    · split
      · exact hs
      · split
        · exact hs
        · exact hs.authorizeSession ..
  · exact hs

theorem handleProgramTariff_keepsStore : KeepsStore .always handleProgramTariff := by
  intro s f _ hs
  unfold handleProgramTariff
  split
  · rename_i hf
    exact hs.startOperation hf.1 _ _
  · exact hs

theorem handleEraseTariff_keepsStore : KeepsStore .always handleEraseTariff := by
  intro s k _ hs
  unfold handleEraseTariff
  split
  · rename_i hk
    exact hs.startOperation hk _ _
  · exact hs

theorem handleActivateTariff_keepsStore : KeepsStore .always handleActivateTariff := by
  intro s k _ hs
  unfold handleActivateTariff
  split_ifs with hk hvalid
  · exact TariffStore.Sound.activate hs (by omega) hvalid
  · exact hs
  · exact hs

/-! ### The two resets (R120, R121, R169) -/

theorem TariffStore.slot_unused (t : TariffStore) {k : ℕ} (hk : k < 8) :
    t.unused.slot k = { t.slot k with uses := 0 } := by
  simp [TariffStore.unused, TariffStore.slot, hk]

theorem TariffStore.slot_examined (t : TariffStore) {k : ℕ} (hk : k < 8) :
    t.examined.slot k = { t.slot k with state := examine k (t.slot k).bytes, uses := 0 } := by
  simp [TariffStore.examined, TariffStore.slot, hk]

theorem examine_ne_busy (k : ℕ) (bytes : List Byte) : examine k bytes ≠ .busy := by
  unfold examine; split_ifs <;> simp

theorem handleRestart_keepsStore : KeepsStore .always handleRestart := by
  intro s mode _ hs
  have hr : s.restart.StoreSound := TariffStore.sound_of_idle rfl rfl fun k hk => by
    rw [show s.restart.store = s.stopAny.store.unused from rfl, TariffStore.slot_unused _ hk]
    exact hs.stopAny_not_busy hk
  unfold handleRestart
  split_ifs
  · exact hr
  · exact hs
  · exact hr
  · exact hs

theorem execPowerOnReset_storeSound (s : State) : Reaches State.StoreSound (execPowerOnReset s) :=
  storeSound_unlinked.reaches_done <| TariffStore.sound_of_idle rfl rfl fun k hk => by
    rw [TariffStore.slot_examined _ hk]
    exact examine_ne_busy k _

/-! ### Every command keeps the store's invariant -/

namespace State.StoreSound

section
variable {s t : State} (hs : s.StoreSound)
include hs

theorem nothing : Reaches State.StoreSound (Machine.nothing s) := reaches_nothing hs

theorem request {α : Type} (l : Link) (kind tag : Byte) (till : Bool) {al : Allowed} (g : State → α → Bool)
    {handle : State → α → Handled} (p : Payload α) (hh : KeepsStore al handle) :
    Reaches State.StoreSound (serve l kind tag till al g handle p s) :=
  storeSound_unlinked.serve storeSound_unlinked (fun _ => id) l kind tag till g p hh hs

/-- A request whose handler leaves the store. -/
theorem apart {α : Type} (l : Link) (kind tag : Byte) (till : Bool) {al : Allowed} (g : State → α → Bool)
    {handle : State → α → Handled} (p : Payload α) (hh : ∀ s f, (handle s f).state.store = s.store) :
    Reaches State.StoreSound (serve l kind tag till al g handle p s) :=
  hs.request l kind tag till g p fun s f _ hs => hs.of_store (hh s f)

omit hs in
theorem done (ht : t.StoreSound) : Reaches State.StoreSound (Machine.done t) := storeSound_unlinked.reaches_done ht

/-- A command that acts and leaves the store. -/
theorem done_of_store (h : t.store = s.store) : Reaches State.StoreSound (Machine.done t) := done (hs.of_store h)

/-! #### The commands of the store (R124, R125) -/

theorem execErasingEnd : Reaches State.StoreSound (execErasingEnd s) := by
  unfold Machine.execErasingEnd
  split
  · exact hs.nothing
  · rename_i op ho
    split
    · exact done (TariffStore.Sound.advance hs ho erasedPattern _)
    · exact hs.nothing

theorem execWritingEnd : Reaches State.StoreSound (execWritingEnd s) := by
  unfold Machine.execWritingEnd
  split
  · exact hs.nothing
  · rename_i op ho
    split
    · exact done (TariffStore.Sound.advance hs ho op.image .verifying)
    · exact hs.nothing

theorem execOperationCompletion (v : Bool) : Reaches State.StoreSound (execOperationCompletion v s) := by
  unfold Machine.execOperationCompletion
  split
  · exact hs.nothing
  · rename_i op ho
    split
    · exact done (hs.completeOperation ho v)
    · exact hs.nothing

theorem execSiteStateChangeStore : Reaches State.StoreSound (execSiteStateChangeStore s) := by
  unfold Machine.execSiteStateChangeStore
  split
  · exact hs.nothing
  · rename_i c rest _
    exact done (siteMoved (s := s.setEvents { s.events with siteToStore := rest }) hs c.after)

/-! #### The commands that authorize or price -/

theorem execChargerReport (p : ℕ) : Reaches State.StoreSound (execChargerReport p s) := by
  unfold Machine.execChargerReport
  split
  · exact hs.nothing
  · exact done ((hs.setEvents _).takeChargerReport _)

theorem execAuthorizationTimeout (n : ℕ) : Reaches State.StoreSound (execAuthorizationTimeout n s) := by
  unfold Machine.execAuthorizationTimeout
  split
  · exact hs.nothing
  · split
    · exact done (abandon (s := s.reach _) hs _ _)
    · exact hs.nothing

theorem execActivationEvent : Reaches State.StoreSound (execActivationEvent s) := by
  unfold Machine.execActivationEvent
  split
  · exact hs.nothing
  · exact done (foldl_keeps (P := State.StoreSound) (fun n hs => hs.freeVend n) _ hs)

theorem execHandOver : Reaches State.StoreSound (execHandOver s) := by
  unfold Machine.execHandOver
  split
  · exact hs.nothing
  · exact done ((hs.setEvents _).takeHandOver _)

theorem execStoreFree : Reaches State.StoreSound (execStoreFree s) := by
  unfold Machine.execStoreFree
  split
  · exact hs.nothing
  · simp only
    split
    · refine done (priceHead ?_ _)
      split <;> exact hs
    · exact done hs

theorem execRoomEvent : Reaches State.StoreSound (execRoomEvent s) := by
  unfold Machine.execRoomEvent
  split
  · exact hs.nothing
  · exact done (drain _ hs)

/-- Every command but a received byte; those that take an event or a timer and leave the store stand together. -/
theorem exec_of_ne (i : Instr) (hb : ∀ l b, i ≠ .receivedByte l b) : Reaches State.StoreSound (exec i s) := by
  have hsame : ∀ {α : Type} {handle : State → α → Handled}, (∀ s f, (handle s f).state = s) →
      ∀ s f, (handle s f).state.store = s.store := fun h s f => congrArg State.store (h s f)
  cases i with
  | powerOnReset => exact execPowerOnReset_storeSound s
  | interByteTimeout l => exact storeSound_unlinked.interByteTimeout hs l
  | frameDiscard l => exact storeSound_unlinked.frameDiscard hs l
  | busyRefusal l k t => exact storeSound_unlinked.busyRefusal hs l k t
  | unknownKind l k t => exact storeSound_unlinked.unknownKind hs l k t
  | transmitEnd l => exact storeSound_unlinked.transmitEnd hs l
  | siteClockTick => exact storeSound_unlinked.siteClockTick hs
  | restart l t p => exact hs.request _ _ _ _ _ _ handleRestart_keepsStore
  | authorize l t p => exact hs.request _ _ _ _ _ _ (handleAuthorize_keepsStore _)
  | programTariff l t p => exact hs.request _ _ _ _ _ _ handleProgramTariff_keepsStore
  | eraseTariff l t p => exact hs.request _ _ _ _ _ _ handleEraseTariff_keepsStore
  | activateTariff l t p => exact hs.request _ _ _ _ _ _ handleActivateTariff_keepsStore
  | setSite l t p => exact hs.apart _ _ _ _ _ _ handleSetSite_store
  | setFeeder l t p => exact hs.apart _ _ _ _ _ _ handleSetFeeder_store
  | setPort l t p => exact hs.apart _ _ _ _ _ _ handleSetPort_store
  | setUnit l t p => exact hs.apart _ _ _ _ _ _ handleSetUnit_store
  | setBatteryPolicy l t p => exact hs.apart _ _ _ _ _ _ handleSetBatteryPolicy_store
  | setTimers l t p => exact hs.apart _ _ _ _ _ _ handleSetTimers_store
  | setWatermarks l t p => exact hs.apart _ _ _ _ _ _ handleSetWatermarks_store
  | setNoticeRoute l t p => exact hs.apart _ _ _ _ _ _ handleSetNoticeRoute_store
  | setTillAccess l t p => exact hs.apart _ _ _ _ _ _ handleSetTillAccess_store
  | setQueueLevels l t p => exact hs.apart _ _ _ _ _ _ handleSetQueueLevels_store
  | setTime l t p => exact hs.apart _ _ _ _ _ _ handleSetTime_store
  | goLive l t p => exact hs.apart _ _ _ _ _ _ handleGoLive_store
  | holdPort l t p => exact hs.apart _ _ _ _ _ _ (fun s => handleHold_store s true)
  | releasePort l t p => exact hs.apart _ _ _ _ _ _ (fun s => handleHold_store s false)
  | stopSession l t p => exact hs.apart _ _ _ _ _ _ handleStopSession_store
  | setDeparture l t p => exact hs.apart _ _ _ _ _ _ handleSetDeparture_store
  | linkPurchase l t p => exact hs.apart _ _ _ _ _ _ handleLinkPurchase_store
  | readReceipt l t p => exact hs.apart _ _ _ _ _ _ handleReadReceipt_store
  | setMark l t p => exact hs.apart _ _ _ _ _ _ handleSetMark_store
  | rewind l t p => exact hs.apart _ _ _ _ _ _ handleRewind_store
  | releaseMark l t p => exact hs.apart _ _ _ _ _ _ handleReleaseMark_store
  | flushQueue l t p => exact hs.apart _ _ _ _ _ _ handleFlushQueue_store
  | clearDiscrepancy l t p => exact hs.apart _ _ _ _ _ _ (fun _ _ => rfl)
  | sessionStatus l t p => exact hs.apart _ _ _ _ _ _ (hsame handleSessionStatus_state)
  | portStatus l t p => exact hs.apart _ _ _ _ _ _ (hsame handlePortStatus_state)
  | readTariff l t p => exact hs.apart _ _ _ _ _ _ (hsame handleReadTariff_state)
  | receiptCopy l t p => exact hs.apart _ _ _ _ _ _ (hsame handleReceiptCopy_state)
  | queueStatus l t p => exact hs.apart _ _ _ _ _ _ (hsame handleQueueStatus_state)
  | readDiscrepancy l t p => exact hs.apart _ _ _ _ _ _ (hsame handleReadDiscrepancy_state)
  | siteStatus l t p => exact hs.apart _ _ _ _ _ _ (hsame handleSiteStatus_state)
  | allocStatus l t p => exact hs.apart _ _ _ _ _ _ (hsame handleAllocStatus_state)
  | unitStatus l t p => exact hs.apart _ _ _ _ _ _ (hsame handleUnitStatus_state)
  | erasingEnd => exact hs.execErasingEnd
  | writingEnd => exact hs.execWritingEnd
  | operationCompletion v => exact hs.execOperationCompletion v
  | siteStateChangeStore => exact hs.execSiteStateChangeStore
  | chargerReport p => exact hs.execChargerReport p
  | authorizationTimeout n => exact hs.execAuthorizationTimeout n
  | activationEvent => exact hs.execActivationEvent
  | handOver => exact hs.execHandOver
  | storeFree => exact hs.execStoreFree
  | roomEvent => exact hs.execRoomEvent
  | receivedByte l b => exact absurd rfl (hb l b)
  | chargerTarget _ | readingApplied _ | siteStateChangeSessions | chargerHealthChange _ | reportArrival _
  | staleTimerExpiry _ | unitHealthChange _ | dischargeAllowanceChange | roundPeriodExpiry | spacingTimerExpiry
  | resultApplied | allocationResultField | allocationResultDispatch | batteryReport | batteryFreshnessChange
  | siteStateChangeDispatch | readingApplication _ =>
    simp only [exec, execChargerTarget, execReadingApplied, execSiteStateChangeSessions, execChargerHealthChange,
      execReportArrival, execStaleTimerExpiry, execUnitHealthChange, execDischargeAllowanceChange, execRoundPeriodExpiry,
      execSpacingTimerExpiry, execResultApplied, execAllocationResultField, execAllocationResultDispatch,
      execBatteryReport, execBatteryFreshnessChange, execSiteStateChangeDispatch, execReadingApplication]
    split
    · exact hs.nothing
    · exact hs.done_of_store (by simp)
  | pollEnd | replyTimeout | fallbackHoldExpiry _ =>
    simp only [exec, execPollEnd, execReplyTimeout, execFallbackHoldExpiry]
    split
    · exact hs.nothing
    · split
      · exact hs.nothing
      · exact hs.done_of_store (by simp)
  | dormantTimeout _ | idleSecondTick _ | closingTimeout _ | dispatchHandover =>
    simp only [exec, execDormantTimeout, execIdleSecondTick, execClosingTimeout, execDispatchHandover]
    split
    · exact hs.nothing
    · split
      · exact hs.done_of_store (by simp)
      · exact hs.nothing
  | fieldReply f =>
    simp only [exec, execFieldReply]
    split
    · exact hs.nothing
    · split
      · exact hs.nothing
      · refine hs.done_of_store ?_
        split <;> simp
  | earlyRequest =>
    simp only [exec, execEarlyRequest]
    split
    · exact hs.nothing
    · refine hs.done_of_store ?_
      split <;> simp
  | allocationResultSessions =>
    simp only [exec, execAllocationResultSessions]
    split
    · exact hs.done_of_store (by simp)
    · exact hs.nothing
  | reclassification =>
    simp only [exec, execReclassification]
    split
    · exact hs.done_of_store (foldl_store _ (fun _ _ => State.reclassify_store ..) _)
    · exact hs.nothing
  | restoreTimerExpiry =>
    simp only [exec, execRestoreTimerExpiry]
    split
    · exact hs.done_of_store (by simp)
    · exact hs.nothing

theorem exec (i : Instr) : Reaches State.StoreSound (Machine.exec i s) :=
  storeSound_unlinked.exec storeSound_unlinked (fun _ => id) hs hs.exec_of_ne i

end

end State.StoreSound

/-- Settles O53: in its indexed form the invariant survives every command. -/
theorem stepKeepsTheTariffStore : Obligations.StepKeepsTheTariffStore := by
  intro s t hs ht
  exact TariffStore.wf_iff_sound.2
    (storeSound_unlinked.step (fun _ => id) (fun _ hs i => hs.exec i) (TariffStore.wf_iff_sound.1 hs) ht)

end Sys2Proof.Machine

namespace Sys2Proof.Machine

/-! ## PROGRAM_TARIFF, ERASE_TARIFF and ACTIVATE_TARIFF (R122, R123, R129) -/

/-- R122: the ranges of the fields, and a label of at most 12 ASCII characters. -/
theorem tariffInRange_iff {f : TariffFields} : tariffInRange f = true ↔
    (1 ≤ f.id ∧ f.id ≤ 65535 ∧ f.solarRate ≤ 65535 ∧ f.batteryRate ≤ 65535 ∧ f.gridRate ≤ 65535 ∧
      f.idleGrace ≤ 240 ∧ f.idleRate ≤ 1000 ∧ f.idleCap ≤ 100000 ∧ f.step ≤ 100000 ∧ f.perStep ≤ 50000 ∧
      f.allowanceCap ≤ 100000) ∧ ∃ t, f.label = some t ∧ t.length ≤ 12 ∧ ∀ b ∈ t, b.toNat < 128 := by
  unfold tariffInRange
  cases f.label with
  | none => simp
  | some t => simp

section
variable {t : TariffStore} {k : ℕ}

/-! ### The checks of R123, in their order -/

theorem operationRefusal_inUse (h : t.active = some k ∨ (t.slot k).uses ≠ 0) : operationRefusal t k = some .inUse :=
  if_pos h

theorem operationRefusal_supply (h : ¬ (t.active = some k ∨ (t.slot k).uses ≠ 0))
    (hs : t.siteCopy = .island ∨ t.siteCopy = .restoring) : operationRefusal t k = some .supply := by
  rw [operationRefusal, if_neg h, if_pos hs]

theorem operationRefusal_busy (h : ¬ (t.active = some k ∨ (t.slot k).uses ≠ 0))
    (hs : ¬ (t.siteCopy = .island ∨ t.siteCopy = .restoring)) (ho : t.operation.isSome = true) :
    operationRefusal t k = some .busy := by
  rw [operationRefusal, if_neg h, if_neg hs, if_pos ho]

theorem operationRefusal_none (h : ¬ (t.active = some k ∨ (t.slot k).uses ≠ 0))
    (hs : ¬ (t.siteCopy = .island ∨ t.siteCopy = .restoring)) (ho : t.operation = none) :
    operationRefusal t k = none := by
  rw [operationRefusal, if_neg h, if_neg hs, if_neg (by simp [ho])]

end

section
variable {α : Type} {handle : State → α → Handled} {f : α} {s : State} {k : ℕ} {code tag : Byte} {kind : StoreKind}
  {image : List Byte}

/-- An operation request on the site link whose range check has passed, refused. -/
theorem serve_start_refused {status : Status} (hl : s.slotFree .site)
    (hh : handle (s.frameEnd .site) f = startOperation (s.frameEnd .site) k kind image)
    (hr : operationRefusal s.store k = some status) :
    serve .site code tag false .always noGrant handle (.fits f) s = .next (s.replied .site code tag status []) := by
  refine serve_site_answered s status [] hl rfl (hh.trans ?_)
  simp only [startOperation, State.frameEnd_store, hr]
  rfl

/-- An operation request on the site link whose range check has passed, accepted. -/
theorem serve_start_accepted (hl : s.slotFree .site)
    (hh : handle (s.frameEnd .site) f = startOperation (s.frameEnd .site) k kind image)
    (hr : operationRefusal s.store k = none) :
    serve .site code tag false .always noGrant handle (.fits f) s =
      .next ((s.setStore (s.store.start k kind image)).replied .site code tag .accepted []) := by
  refine serve_site_answered (s.setStore (s.store.start k kind image)) .accepted [] hl rfl (hh.trans ?_)
  simp only [startOperation, State.frameEnd_store, hr]
  rfl

/-- R123: an operation request by its checks. -/
theorem serve_start_judged (hl : s.slotFree .site)
    (hh : handle (s.frameEnd .site) f = startOperation (s.frameEnd .site) k kind image) :
    let run := serve .site code tag false .always noGrant handle (.fits f) s
    let inUse : Prop := s.store.active = some k ∨ (s.store.slot k).uses ≠ 0
    let supply : Prop := s.store.siteCopy = .island ∨ s.store.siteCopy = .restoring
    (inUse → run = .next (s.replied .site code tag .inUse [])) ∧
    (¬ inUse → supply → run = .next (s.replied .site code tag .supply [])) ∧
    (¬ inUse → ¬ supply → s.store.operation.isSome = true → run = .next (s.replied .site code tag .busy [])) ∧
    (¬ inUse → ¬ supply → s.store.operation = none →
      run = .next ((s.setStore (s.store.start k kind image)).replied .site code tag .accepted [])) :=
  ⟨fun h => serve_start_refused hl hh (operationRefusal_inUse h),
    fun h h' => serve_start_refused hl hh (operationRefusal_supply h h'),
    fun h h' h'' => serve_start_refused hl hh (operationRefusal_busy h h' h''),
    fun h h' h'' => serve_start_accepted hl hh (operationRefusal_none h h' h'')⟩

end

section
variable {s : State} {k : ℕ} (tag : Byte) (hl : s.slotFree .site)
include hl

theorem programTariff_outOfRange {f : ProgramFields} (h : ¬ (f.slot ≤ 7 ∧ tariffInRange f.record = true)) :
    exec (.programTariff .site tag (.fits f)) s = .next (s.replied .site 0x30#8 tag .outOfRange []) :=
  serve_site_answered s .outOfRange [] hl rfl (if_neg h)

theorem eraseTariff_outOfRange (h : ¬ k ≤ 7) :
    exec (.eraseTariff .site tag (.fits k)) s = .next (s.replied .site 0x31#8 tag .outOfRange []) :=
  serve_site_answered s .outOfRange [] hl rfl (if_neg h)

theorem activateTariff_outOfRange (h : ¬ k ≤ 7) :
    exec (.activateTariff .site tag (.fits k)) s = .next (s.replied .site 0x32#8 tag .outOfRange []) :=
  serve_site_answered s .outOfRange [] hl rfl (if_neg h)

/-- R129: only a VALID slot is activated. -/
theorem activateTariff_notValid (hk : k ≤ 7) (h : (s.store.slot k).state ≠ .valid) :
    exec (.activateTariff .site tag (.fits k)) s = .next (s.replied .site 0x32#8 tag .wrongState []) :=
  serve_site_answered s .wrongState [] hl rfl ((if_pos hk).trans (if_neg h))

/-- R129: the pointer names the slot, and the activation is told. -/
theorem activateTariff_valid (hk : k ≤ 7) (h : (s.store.slot k).state = .valid) :
    exec (.activateTariff .site tag (.fits k)) s =
      .next (((s.setStore { s.store with active := some k }).sendActivation k).replied .site 0x32#8 tag .ok []) :=
  serve_site_answered ((s.setStore { s.store with active := some k }).sendActivation k) .ok [] hl rfl
    ((if_pos hk).trans (if_pos h))

end

/-- A field out of its range, or a label that is absent, too long or not ASCII (R122). -/
theorem tariffInRange_ne_true {f : TariffFields} (h : f.id < 1 ∨ 65535 < f.id ∨ 65535 < f.solarRate ∨
    65535 < f.batteryRate ∨ 65535 < f.gridRate ∨ 240 < f.idleGrace ∨ 1000 < f.idleRate ∨ 100000 < f.idleCap ∨
    100000 < f.step ∨ 50000 < f.perStep ∨ 100000 < f.allowanceCap ∨ f.label = none ∨
    (∃ t, f.label = some t ∧ (12 < t.length ∨ ∃ b ∈ t, 128 ≤ b.toNat))) : ¬ tariffInRange f = true := by
  rw [tariffInRange_iff]
  rintro ⟨hranges, t, ht, hlength, hascii⟩
  simp only [← Nat.not_lt] at hranges
  obtain ⟨h1, h2, h3, h4, h5, h6, h7, h8, h9, h10, h11⟩ := hranges
  obtain e | ⟨u, hu, hbad⟩ : f.label = none ∨ ∃ u, f.label = some u ∧ (12 < u.length ∨ ∃ b ∈ u, 128 ≤ b.toNat) := by
    simpa only [h1, h2, h3, h4, h5, h6, h7, h8, h9, h10, h11, false_or] using h
  · simp [ht] at e
  · obtain rfl : t = u := Option.some.inj (ht.symm.trans hu)
    obtain hlong | ⟨b, hb, hbig⟩ := hbad
    · omega
    · have := hascii b hb
      omega

/-- Settles O42: the range check first, then the checks of R123 for the two operations and of R129 for the pointer. -/
theorem tariffRequestsAreChecked : Obligations.TariffRequestsAreChecked := by
  intro s tag k hl started inUse supply judged
  refine ⟨fun hk f hf => ?_, fun hk => ?_, fun hk => ⟨?_, ?_⟩, fun hk => ⟨fun f => ?_, ?_, ?_⟩, fun f hf => ?_⟩
  · exact serve_start_judged hl (if_pos ⟨hk, hf⟩)
  · exact serve_start_judged hl (if_pos hk)
  · exact activateTariff_valid tag hl hk
  · exact activateTariff_notValid tag hl hk
  · exact programTariff_outOfRange tag hl fun h => Nat.not_le.2 hk h.1
  · exact eraseTariff_outOfRange tag hl (by omega)
  · exact activateTariff_outOfRange tag hl (by omega)
  · exact programTariff_outOfRange tag hl fun h => tariffInRange_ne_true hf h.2

end Sys2Proof.Machine

namespace Sys2Proof.Machine

/-! ## The phases of a store operation (R124, R125, R131) -/

section
variable {s : State} {op : StoreOperation}

/-! ### An event that does not take place (log 2) -/

theorem execErasingEnd_idle (h : ∀ op, s.store.operation = some op → op.phase ≠ .erasing) : execErasingEnd s = .next s := by
  unfold execErasingEnd
  split
  · rfl
  · rw [if_neg (h _ ‹_›)]; rfl

theorem execWritingEnd_idle (h : ∀ op, s.store.operation = some op → op.phase ≠ .writing) : execWritingEnd s = .next s := by
  unfold execWritingEnd
  split
  · rfl
  · rw [if_neg (h _ ‹_›)]; rfl

theorem execOperationCompletion_idle (h : ∀ op, s.store.operation = some op → op.phase ≠ .verifying) (v : Bool) :
    execOperationCompletion v s = .next s := by
  unfold execOperationCompletion
  split
  · rfl
  · rw [if_neg (h _ ‹_›)]; rfl

/-! ### The end of a phase -/

/-- R124: the slot erased; an ERASE writes nothing (log 18). -/
theorem execErasingEnd_erasing (ho : s.store.operation = some op) (hp : op.phase = .erasing) :
    execErasingEnd s = .next (s.setStore { s.store.setSlot op.slot { s.store.slot op.slot with bytes := erasedPattern } with
      operation := some { op with phase := if op.kind = .program then .writing else .verifying } }).settle := by
  simp only [execErasingEnd, ho, hp, if_true]
  rfl

theorem execWritingEnd_writing (ho : s.store.operation = some op) (hp : op.phase = .writing) :
    execWritingEnd s = .next (s.setStore { s.store.setSlot op.slot { s.store.slot op.slot with bytes := op.image } with
      operation := some { op with phase := .verifying } }).settle := by
  simp only [execWritingEnd, ho, hp, if_true]
  rfl

theorem execOperationCompletion_verifying (ho : s.store.operation = some op) (hp : op.phase = .verifying) (v : Bool) :
    execOperationCompletion v s = .next (s.completeOperation op v).settle := by
  simp only [execOperationCompletion, ho, hp, if_true]
  rfl

/-! ### The end of the operation -/

/-- R131: the code of the result in the data word. -/
def StoreResult.word : StoreResult → ℕ
  | .ok => 0
  | .failed => 1
  | .aborted => 2

/-- R131: the data word of TARIFF_DONE, the kind's code by the kind being a PROGRAM. -/
theorem tariffDoneData_eq (k : ℕ) (kind : StoreKind) (r : StoreResult) :
    tariffDoneData k kind r = k + 256 * (if kind = .program then 0 else 1) + 65536 * r.word := by
  cases kind <;> cases r <;> rfl

theorem verifiedState_true (kind : StoreKind) : verifiedState kind true = if kind = .program then .valid else .empty := by
  cases kind <;> rfl

/-- R124, R125, R131: the operation ended with its slot as `x`: TARIFF_DONE and the store-free event are sent, the copy of the
site state is as given, and nothing else changes but the free values drawn. -/
def State.operationEnded (s : State) (op : StoreOperation) (x : TariffSlot) (result : StoreResult) (copy : SiteState)
    (draws : ℕ) : State :=
  { s with
    draws := draws
    links := (s.links.raise .tariffDone
      (op.slot + 256 * (if op.kind = .program then 0 else 1) + 65536 * result.word)).settle
    store := { s.store.setSlot op.slot x with operation := none, siteCopy := copy }
    events := { s.events with storeFree := s.events.storeFree + 1 } }

/-- The other slots stay as they are, and so does the slot's use count. -/
theorem State.operationEnded_slots (s : State) {op : StoreOperation} (hk : op.slot < 8) {x : TariffSlot}
    (hx : x.uses = (s.store.slot op.slot).uses) (result : StoreResult) (copy : SiteState) (draws : ℕ) :
    let t := s.operationEnded op x result copy draws
    (∀ j, j ≠ op.slot → t.store.slot j = s.store.slot j) ∧ (t.store.slot op.slot).uses = (s.store.slot op.slot).uses ∧
      t.store.slot op.slot = x := by
  intro t
  have hslot : ∀ j, t.store.slot j = if j = op.slot then x else s.store.slot j := fun j => s.store.slot_setSlot op.slot j x hk
  exact ⟨fun j hj => (hslot j).trans (if_neg hj), by rw [hslot, if_pos rfl, hx], (hslot _).trans (if_pos rfl)⟩

theorem State.completeOperation_true (s : State) (op : StoreOperation) :
    (s.completeOperation op true).settle = s.operationEnded op
      { s.store.slot op.slot with state := if op.kind = .program then .valid else .empty } .ok s.store.siteCopy s.draws := by
  rw [State.operationEnded, ← verifiedState_true, ← tariffDoneData_eq]; rfl

theorem State.completeOperation_false (s : State) (op : StoreOperation) :
    (s.completeOperation op false).settle = s.operationEnded op
      { s.store.slot op.slot with bytes := cutShort s.draws, state := .bad } .failed s.store.siteCopy (s.draws + 1) := by
  rw [State.operationEnded, ← tariffDoneData_eq]; rfl

/-- R125: the operation in flight overtaken by ISLAND. -/
theorem execSiteStateChangeStore_abort (ho : s.store.operation = some op) {c : SiteChange} {rest : List SiteChange}
    (hc : s.events.siteToStore = c :: rest) (hi : c.after = .island) :
    execSiteStateChangeStore s = .next ((s.setEvents { s.events with siteToStore := rest }).operationEnded op
      { s.store.slot op.slot with bytes := leftBehind s op, state := .bad } .aborted .island (s.draws + 1)) := by
  rw [State.operationEnded, ← tariffDoneData_eq]
  simp only [execSiteStateChangeStore, hc, hi, if_true, State.abortOperation, State.setStore_store, State.setEvents_store, ho]
  rfl

/-- R125: the copy moved, and nothing else. -/
theorem execSiteStateChangeStore_copy {c : SiteChange} {rest : List SiteChange} (hc : s.events.siteToStore = c :: rest)
    (h : c.after ≠ .island ∨ s.store.operation = none) :
    execSiteStateChangeStore s = .next ((s.setEvents { s.events with siteToStore := rest }).setStore
      { s.store with siteCopy := c.after }).settle := by
  simp only [execSiteStateChangeStore, hc]
  split
  · rename_i hi
    have ho := h.resolve_left (not_not.2 hi)
    simp only [State.abortOperation, State.setStore_store, State.setEvents_store, ho]
    rfl
  · rfl

end

/-- Settles O43: each phase by its own end, the three ends of an operation as one state with its slot, its result and its
copy of the site state. -/
theorem storeOperationRunsThroughItsPhases : Obligations.StoreOperationRunsThroughItsPhases := by
  refine ⟨fun s op ho hk => ?_, fun s => ⟨fun h => ?_, fun c rest hc h => ?_, fun ho => ⟨?_, ?_, ?_⟩⟩⟩
  · have honly : ∀ {ph : StorePhase}, op.phase ≠ ph → ∀ op', s.store.operation = some op' → op'.phase ≠ ph :=
      fun h op' ho' => Option.some.inj (ho.symm.trans ho') ▸ h
    intro k frame word
    refine ⟨execErasingEnd_erasing ho, execWritingEnd_writing ho, fun hp => ⟨?_, ?_⟩,
      fun hp => execErasingEnd_idle (honly hp), fun hp => execWritingEnd_idle (honly hp),
      fun hp => execOperationCompletion_idle (honly hp), fun c rest hc hi => ?_⟩
    · obtain ⟨hothers, huses, hx⟩ := s.operationEnded_slots hk (x := { s.store.slot op.slot with
        state := if op.kind = .program then .valid else .empty }) rfl .ok s.store.siteCopy s.draws
      have hexec := execOperationCompletion_verifying ho hp true
      rw [s.completeOperation_true op] at hexec
      exact ⟨_, hexec, ⟨rfl, hothers, huses⟩, hx⟩
    · obtain ⟨hothers, huses, hx⟩ := s.operationEnded_slots hk (x := { s.store.slot op.slot with
        bytes := cutShort s.draws, state := .bad }) rfl .failed s.store.siteCopy (s.draws + 1)
      have hexec := execOperationCompletion_verifying ho hp false
      rw [s.completeOperation_false op] at hexec
      exact ⟨_, hexec, ⟨rfl, hothers, huses⟩, congrArg TariffSlot.state hx⟩
    · obtain ⟨hothers, huses, hx⟩ := (s.setEvents { s.events with siteToStore := rest }).operationEnded_slots hk
        (x := { s.store.slot op.slot with bytes := leftBehind s op, state := .bad }) rfl .aborted .island (s.draws + 1)
      exact ⟨_, execSiteStateChangeStore_abort ho hc hi,
        ⟨rfl, hothers, huses⟩, congrArg TariffSlot.state hx⟩
  · simp only [exec, execSiteStateChangeStore, h]
    rfl
  · exact execSiteStateChangeStore_copy hc h
  · exact execErasingEnd_idle (by simp [ho])
  · exact execWritingEnd_idle (by simp [ho])
  · exact execOperationCompletion_idle (by simp [ho])

end Sys2Proof.Machine

namespace Sys2Proof.Machine

/-! ## RESTART and POWER_ON_RESET (R120, R121, R126, R169) -/

/-! ### The examination (R121) -/

theorem examine_eq_empty_iff {k : ℕ} {bytes : List Byte} : examine k bytes = .empty ↔ bytes = erasedPattern := by
  unfold examine; split_ifs <;> simp_all

theorem examine_eq_valid_iff {k : ℕ} {bytes : List Byte} : examine k bytes = .valid ↔
    bytes ≠ erasedPattern ∧ bytes.drop 35 = checkBytes (slotCheck k (bytes.take 35)) := by
  unfold examine; split_ifs <;> simp_all

/-! ### The operation in flight stopped (R126) -/

theorem TariffStore.slot_setSlot_ne (t : TariffStore) {k j : ℕ} (x : TariffSlot) (h : j ≠ k) :
    (t.setSlot k x).slot j = t.slot j := by
  by_cases hk : k < 8
  · rw [t.slot_setSlot k j x hk, if_neg h]
  · rw [t.setSlot_outside x hk]

section
variable (s : State)

@[simp] theorem State.stopAny_pending : s.stopAny.pending = s.pending := by unfold State.stopAny; split <;> rfl
@[simp] theorem State.stopAny_runTime : s.stopAny.runTime = s.runTime := by unfold State.stopAny; split <;> rfl
@[simp] theorem State.stopAny_links : s.stopAny.links = s.links := by unfold State.stopAny; split <;> rfl

variable {s} {k : ℕ}

theorem State.stopAny_slot_other (h : s.store.operation.map StoreOperation.slot ≠ some k) :
    s.stopAny.store.slot k = s.store.slot k := by
  unfold State.stopAny
  split
  · rfl
  · rename_i op ho
    exact s.store.slot_setSlot_ne _ fun e => h (by simp [ho, e])

theorem State.stopAny_slot_target {op : StoreOperation} (ho : s.store.operation = some op) (hk : op.slot < 8) :
    s.stopAny.store.slot op.slot = { s.store.slot op.slot with bytes := leftBehind s op, state := .bad } := by
  simp only [State.stopAny, ho]
  exact (s.store.slot_setSlot op.slot op.slot _ hk).trans (if_pos rfl)

/-- R125: a slot keeps its bytes unless its erasing or its writing is cut short. -/
theorem State.stopAny_bytes (hk : k < 8) (h : ∀ op, s.store.operation = some op → op.slot ≠ k ∨ op.phase = .verifying) :
    (s.stopAny.store.slot k).bytes = (s.store.slot k).bytes := by
  by_cases ht : s.store.operation.map StoreOperation.slot = some k
  · obtain ⟨op, ho, rfl⟩ := Option.map_eq_some_iff.1 ht
    have hp : op.phase = .verifying := (h op ho).resolve_left (not_not.2 rfl)
    rw [State.stopAny_slot_target ho hk]
    simp only [leftBehind, hp]
  · rw [State.stopAny_slot_other ht]

end

/-! ### RESTART (R169) -/

/-- What a RESTART leaves does not depend on the receiver of the link it comes on. -/
theorem State.restart_frameEnd (s : State) : (s.frameEnd .site).restart = s.restart := by
  have hstop : (s.frameEnd .site).stopAny = s.stopAny.frameEnd .site := by
    simp only [State.stopAny, State.frameEnd_store]
    split <;> rfl
  rw [State.restart, hstop]
  rfl

/-- A RESTART that is taken, in either mode. -/
theorem exec_restart_taken {s : State} {tag : Byte} {mode : ℕ} (hl : s.slotFree .site)
    (h : (mode = 0 ∧ s.sessions.table = [] ∧ s.queue.retained = []) ∨ mode = 1) :
    exec (.restart .site tag (.fits mode)) s = .next (s.restart.replied .site 0x0D#8 tag .ok []) := by
  refine serve_site_answered s.restart .ok [] hl rfl ?_
  have htaken : handleRestart (s.frameEnd .site) mode = ok (s.frameEnd .site).restart := by
    unfold handleRestart
    obtain ⟨rfl, hfree⟩ | rfl := h
    · exact if_pos hfree
    · rfl
  rw [htaken, s.restart_frameEnd]
  rfl

theorem exec_restart_outOfRange {s : State} {tag : Byte} {mode : ℕ} (hl : s.slotFree .site) (h : 2 ≤ mode) :
    exec (.restart .site tag (.fits mode)) s = .next (s.replied .site 0x0D#8 tag .outOfRange []) := by
  refine serve_site_answered s .outOfRange [] hl rfl ?_
  rw [handleRestart, if_neg (by omega), if_neg (by omega)]
  rfl

/-- R169: NORMAL while a session or a retained receipt is left. -/
theorem exec_restart_wrongState {s : State} {tag : Byte} (hl : s.slotFree .site)
    (h : s.sessions.table ≠ [] ∨ s.queue.retained ≠ []) :
    exec (.restart .site tag (.fits 0)) s = .next (s.replied .site 0x0D#8 tag .wrongState []) := by
  refine serve_site_answered s .wrongState [] hl rfl ?_
  rw [handleRestart, if_pos rfl]
  exact if_neg (not_and_or.2 h)

/-- R120: what a RESTART leaves of a slot. -/
theorem State.restart_slot (s : State) {k : ℕ} (hk : k < 8) :
    s.restart.store.slot k = { s.stopAny.store.slot k with uses := 0 } :=
  s.stopAny.store.slot_unused hk

/-! ### POWER_ON_RESET (R121) -/

/-- Every block at its reset value, the slots as they were left and examined. -/
def State.poweredOn (s : State) : State :=
  { State.reset with pending := s.pending, draws := s.stopAny.draws, store := s.stopAny.store.examined }

theorem exec_powerOnReset (s : State) : exec .powerOnReset s = .next s.poweredOn := by
  have hsettled : LinkController.reset.settle = LinkController.reset := by decide
  simp only [exec, execPowerOnReset, done, State.settle, State.stopAny_pending]
  exact congrArg (fun c => Host.Outcome.next (s.poweredOn.setLinks c)) hsettled

theorem State.poweredOn_slot (s : State) {k : ℕ} (hk : k < 8) : s.poweredOn.store.slot k =
    { s.stopAny.store.slot k with state := examine k (s.stopAny.store.slot k).bytes, uses := 0 } :=
  s.stopAny.store.slot_examined hk

/-- Settles O13: RESTART by its checks, then both resets slot by slot from the slots as the stopped operation left them. -/
theorem restartAndPowerOnReset : Obligations.RestartAndPowerOnReset := by
  refine ⟨fun s tag mode hl => ?_, fun s => ?_⟩
  · refine ⟨exec_restart_outOfRange hl, fun hm h => hm ▸ exec_restart_wrongState hl h, fun h => ?_⟩
    refine ⟨_, exec_restart_taken hl h, ?_, ?_, fun k hk => ?_⟩
    · simp only [State.replied, State.restart, State.stopAny_pending, State.stopAny_runTime]
      rfl
    · simp only [State.replied, State.restart, State.stopAny_links, State.stopAny_runTime]
      rfl
    · have hslot : (s.restart.replied .site 0x0D#8 tag .ok []).store.slot k = { s.stopAny.store.slot k with uses := 0 } :=
        s.restart_slot hk
      rw [hslot]
      refine ⟨rfl, fun h => by rw [State.stopAny_slot_other h], fun h => ?_⟩
      obtain ⟨op, ho, rfl⟩ := Option.map_eq_some_iff.1 h
      rw [State.stopAny_slot_target ho hk]
  · refine ⟨_, exec_powerOnReset s, rfl, fun k hk => ?_⟩
    rw [s.poweredOn_slot hk]
    exact ⟨rfl, examine_eq_empty_iff, examine_eq_valid_iff, examine_ne_busy k _, State.stopAny_bytes hk⟩

end Sys2Proof.Machine

namespace Sys2Proof.Machine

/-! ## The image of a slot (R121, R122, R177) -/

/-! ### The CRC-16 tells two slot numbers apart (R175) -/

/-- The bit that falls out of the register comes back as the lowest bit of the polynomial. -/
theorem crcBit_getLsbD_zero (c : Check) : (crcBit c).getLsbD 0 = c.getLsbD 15 := by
  unfold crcBit
  split
  · rename_i h; simp [h]
  · rename_i h; simpa using h

theorem crcBit_injective : Function.Injective crcBit := by
  intro c d h
  have htop : c.getLsbD 15 = d.getLsbD 15 := by rw [← crcBit_getLsbD_zero, h, crcBit_getLsbD_zero]
  have hrest : c <<< 1 = d <<< 1 := by
    unfold crcBit at h
    rw [htop] at h
    split at h
    · exact (BitVec.xor_left_inj _).1 h
    · exact h
  refine BitVec.eq_of_getLsbD_eq fun i hi => ?_
  by_cases e : i = 15
  · rw [e, htop]
  · have := congrArg (fun v : Check => v.getLsbD (i + 1)) hrest
    simpa [show i + 1 < 16 by omega, hi] using this

theorem crcByte_injective (b : Byte) : Function.Injective fun c => crcByte c b := by
  intro c d h
  unfold crcByte at h
  exact (BitVec.xor_left_inj _).1 (by simpa only [crcBit_injective.eq_iff] using h)

/-- Bytes that follow keep two registers apart. -/
theorem crc_foldl_injective (bytes : List Byte) : Function.Injective fun c => bytes.foldl crcByte c := by
  induction bytes with
  | nil => exact fun _ _ h => h
  | cons b rest ih => exact fun c d h => crcByte_injective b (ih h)

/-- The register after the number of one of the eight slots. -/
theorem crcByte_slot_injective : ∀ j k : Fin 8, crcByte 0xFFFF#16 (byte j) = crcByte 0xFFFF#16 (byte k) → j = k := by
  decide

theorem slotCheck_injective {j k : ℕ} (hj : j ≤ 7) (hk : k ≤ 7) (kept : List Byte) (h : slotCheck j kept = slotCheck k kept) :
    j = k := by
  have hfirst : crcByte 0xFFFF#16 (byte j) = crcByte 0xFFFF#16 (byte k) := crc_foldl_injective kept h
  exact congrArg Fin.val (crcByte_slot_injective ⟨j, by omega⟩ ⟨k, by omega⟩ hfirst)

theorem checkBytes_injective : Function.Injective checkBytes := by
  intro c d h
  have hn := congrArg ofLe h
  unfold checkBytes at hn
  rw [ofLe_le_of_lt c.isLt, ofLe_le_of_lt d.isLt] at hn
  exact BitVec.eq_of_toNat_eq hn

/-! ### The bytes of the image (R177) -/

/-- The numbers at the front of a slot's image, the length of the label the last of them. -/
def tariffCells (f : TariffFields) : List (ℕ × ℕ) :=
  [(2, f.id), (2, f.solarRate), (2, f.batteryRate), (2, f.gridRate), (1, f.idleGrace), (2, f.idleRate), (3, f.idleCap),
    (3, f.step), (2, f.perStep), (3, f.allowanceCap), (1, (f.label.getD []).length)]

/-- The image is these numbers, the label, its padding and the check. -/
theorem slotImage_eq (k : ℕ) (f : TariffFields) : slotImage k f = packed (tariffCells f) ++ (f.label.getD [] ++
    (List.replicate (12 - (f.label.getD []).length) 0x00#8 ++ checkBytes (slotCheck k (tariffKept f)))) := by
  simp only [slotImage, tariffKept, tariffFixed, tariffCells, byte_cons, packed_cons, packed_nil, List.append_assoc,
    List.append_nil]

theorem tariffCells_length (f : TariffFields) : (packed (tariffCells f)).length = 23 := by
  simp [packed_length, tariffCells]

theorem tariffKept_length {f : TariffFields} (h : (f.label.getD []).length ≤ 12) : (tariffKept f).length = 35 := by
  simp only [tariffKept, List.length_append, List.length_cons, tariffFixed_length, List.length_replicate]
  omega

/-- The numbers of the image come back from it. -/
theorem slotImage_laid (k : ℕ) (f : TariffFields) : Laid (slotImage k f)
    [(0, 2, f.id), (2, 2, f.solarRate), (4, 2, f.batteryRate), (6, 2, f.gridRate), (8, 1, f.idleGrace),
      (9, 2, f.idleRate), (11, 3, f.idleCap), (14, 3, f.step), (17, 2, f.perStep), (19, 3, f.allowanceCap),
      (22, 1, (f.label.getD []).length)] :=
  .of_packed (slotImage_eq k f) fun _ hx => hx

/-- An erased slot shows 255 where the image has a length of at most 12. -/
theorem slotImage_ne_erased (k : ℕ) {f : TariffFields} (h : (f.label.getD []).length ≤ 12) :
    slotImage k f ≠ erasedPattern := by
  intro e
  have hlength := (slotImage_laid k f).row (o := 22) (k := 1) (n := (f.label.getD []).length) (by simp)
  rw [e, show field erasedPattern 22 1 = 255 by decide] at hlength
  omega

/-- The examination compares the check of its own slot with the one in the image (R121). -/
theorem examine_slotImage (j k : ℕ) {f : TariffFields} (h : (f.label.getD []).length ≤ 12) :
    examine j (slotImage k f) = if slotCheck k (tariffKept f) = slotCheck j (tariffKept f) then .valid else .bad := by
  have hkept := tariffKept_length h
  have htake : (slotImage k f).take 35 = tariffKept f := List.take_left' hkept
  have hdrop : (slotImage k f).drop 35 = checkBytes (slotCheck k (tariffKept f)) := List.drop_left' hkept
  rw [examine, if_neg (slotImage_ne_erased k h), htake, hdrop]
  exact if_congr checkBytes_injective.eq_iff rfl rfl

/-- Settles O44: the check tells the slot, and every field is a number of the image within its bytes. -/
theorem slotImageReadsBack : Obligations.SlotImageReadsBack := by
  intro k f hk hf
  obtain ⟨⟨-, hid, hsolar, hbattery, hgrid, hgrace, hrate, hcap, hstep, hper, hallow⟩, t, ht, hlen, -⟩ := tariffInRange_iff.1 hf
  have hlabel : (f.label.getD []).length ≤ 12 := by rw [ht]; exact hlen
  refine ⟨?_, ?_, fun j hj hne => ?_, ?_⟩
  · rw [slotImage, List.length_append, tariffKept_length hlabel, checkBytes_length]
  · rw [examine_slotImage k k hlabel, if_pos rfl]
  · rw [examine_slotImage j k hlabel, if_neg fun e => hne (slotCheck_injective hj hk _ e.symm)]
  · have hrow : ∀ {o n v : ℕ}, (o, n, v) ∈ _ → v < 256 ^ n → field (slotImage k f) o n = v :=
      fun hx hv => ((slotImage_laid k f).row hx).trans (Nat.mod_eq_of_lt hv)
    have hlength : field (slotImage k f) 22 1 = (f.label.getD []).length := hrow (by simp) (by omega)
    have hdrop : (slotImage k f).drop 23 = f.label.getD [] ++ (List.replicate (12 - (f.label.getD []).length) 0x00#8 ++
        checkBytes (slotCheck k (tariffKept f))) := by
      rw [slotImage_eq]
      exact List.drop_left' (tariffCells_length f)
    rw [readTariff, hlength, hdrop, Nat.min_eq_right hlabel, List.take_left, hrow (v := f.id) (by simp) (by omega),
      hrow (v := f.solarRate) (by simp) (by omega), hrow (v := f.batteryRate) (by simp) (by omega),
      hrow (v := f.gridRate) (by simp) (by omega), hrow (v := f.idleGrace) (by simp) (by omega),
      hrow (v := f.idleRate) (by simp) (by omega), hrow (v := f.idleCap) (by simp) (by omega),
      hrow (v := f.step) (by simp) (by omega), hrow (v := f.perStep) (by simp) (by omega),
      hrow (v := f.allowanceCap) (by simp) (by omega)]

end Sys2Proof.Machine

namespace Sys2Proof.Machine

/-! ## Pricing and the receipts (R130, R134, R135, R143 to R145, R147, R150, R159, R160) -/

section
variable (s : State)

/-! ### A receipt enters the queue -/

/-- R150, R159, R160: the queue with the receipt at its tail, and the notices of its levels. -/
theorem State.takeReceipt_eq (r : Receipt) : s.takeReceipt r = { s with
    links := s.links.receiptTaken (s.queue.push r) r.number
    queue := s.queue.push r } := by
  have hraise : ∀ (u : State) (c : Prop) [Decidable c] (k : NoticeKind) (d : ℕ),
      (if c then u.raise k d else u) = u.setLinks (if c then u.links.raise k d else u.links) := fun u c _ k d => by
    split <;> rfl
  simp only [State.takeReceipt, hraise]
  rfl

/-- R21, R144, R145: a receipt in the queue and its session out of the table, before the freed entry serves the port wait
list. -/
def State.receiptEntered (r : Receipt) : State :=
  { s with
    links := (s.links.receiptTaken (s.queue.push r) r.number).raise .sessionChange r.session
    sessions := { s.sessions with table := s.sessions.table.filter fun y => y.number != r.session }
    queue := s.queue.push r }

theorem State.takeReceipt_leaveTable (r : Receipt) :
    (s.takeReceipt r).leaveTable r.session = (s.receiptEntered r).serveWaiting := by
  rw [s.takeReceipt_eq]; rfl

/-- R144: a receipt that joins the wait list. -/
def State.receiptWaits (r : Receipt) : State := s.setBuilder { s.builder with waiting := s.builder.waiting ++ [r] }

theorem ReceiptQueue.isFull_eq_false_iff {q : ReceiptQueue} : q.isFull = false ↔ q.retained.length < 64 := by
  simp [ReceiptQueue.isFull]

/-! ### One pricing event -/

/-- R130, R143, R147: the slot released, the receipt's number taken and the receipt copied to the ring. -/
def State.priced (slot : ℕ) (r : Receipt) : State :=
  { s with
    store := s.store.setSlot slot { s.store.slot slot with uses := (s.store.slot slot).uses - 1 }
    builder := { s.builder with
      next := if s.builder.next + 1 < 4294967296 then s.builder.next + 1 else 1
      ring := s.builder.ring.setIfInBounds s.builder.ringPosition (some r)
      ringPosition := (s.builder.ringPosition + 1) % 16 } }

/-- R136: the receipt of a session bound to a slot. -/
def State.receiptOf (x : Session) (slot : ℕ) : Receipt :=
  price x (readTariff (s.store.slot slot).bytes) s.builder.next s.links.clock

variable {s} {x : Session} {slot : ℕ}

theorem State.priceSession_eq (hslot : x.slot = some slot) :
    s.priceSession x = (s.priced slot (s.receiptOf x slot)).placeReceipt x.number (s.receiptOf x slot) := by
  simp only [State.priceSession, hslot, Option.getD_some]
  rfl

/-- R144: with room and no receipt waiting the receipt enters the queue. -/
theorem State.priceSession_enters (hslot : x.slot = some slot) (hw : s.builder.waiting = [])
    (hroom : s.queue.retained.length < 64) :
    s.priceSession x = ((s.priced slot (s.receiptOf x slot)).receiptEntered (s.receiptOf x slot)).serveWaiting := by
  rw [State.priceSession_eq hslot, State.placeReceipt, if_pos ⟨hw, ReceiptQueue.isFull_eq_false_iff.2 hroom⟩]
  exact State.takeReceipt_leaveTable _ (s.receiptOf x slot)

/-- R144: otherwise the receipt waits, and so does its session. -/
theorem State.priceSession_waits (hslot : x.slot = some slot) (hfind : s.sessions.find x.number = some x)
    (h : s.builder.waiting ≠ [] ∨ 64 ≤ s.queue.retained.length) :
    s.priceSession x = ((s.priced slot (s.receiptOf x slot)).receiptWaits (s.receiptOf x slot)).transition x.number
      fun _ => { x with state := .waitQueue } := by
  have hno : ¬ (s.builder.waiting = [] ∧ s.queue.isFull = false) := fun ⟨hw, hq⟩ =>
    h.elim (fun h => h hw) fun h => Nat.not_le.2 (ReceiptQueue.isFull_eq_false_iff.1 hq) h
  rw [State.priceSession_eq hslot, State.placeReceipt]
  exact (if_neg hno).trans (State.transition_const _ x _ hfind)

end

/-! ### A session that is not in ACTIVE goes on -/

theorem SessionController.find_update_same {c : SessionController} {n : ℕ} {x y : Session} (hx : c.find n = some x)
    (hy : y.number = n) : (c.update n fun _ => y).find n = some y := by
  have hsame : ((fun z : Session => z.number == n) ∘ fun z => if z.number = n then y else z) =
      fun z : Session => z.number == n := by
    funext z
    by_cases e : z.number = n <;> simp [e, hy]
  have hnum : x.number = n := (find_spec hx).2
  show List.find? _ (c.table.map _) = _
  rw [List.find?_map, hsame, show c.table.find? (fun z => z.number == n) = some x from hx, Option.map_some, if_pos hnum]

/-- R12, R25: a change of state outside ACTIVE, on which nothing but SESSION_CHANGE follows. -/
theorem State.transition_outside {s : State} {n : ℕ} {x y : Session} (hfind : s.sessions.find n = some x)
    (hx : x.state ≠ .active) (hy : y.state ≠ .active) (hne : x.state ≠ y.state) :
    s.transition n (fun _ => y) = { s with
      links := s.links.raise .sessionChange y.number
      sessions := s.sessions.update n fun _ => carryTimers s.runTime s.sessions.dormantDelay x y } := by
  have hcand : x.isCandidate = y.isCandidate := by simp [Session.isCandidate, hx, hy]
  rw [State.transition_eq _ _ hfind, if_neg hne, if_pos hcand, if_neg (c := x.state = .active ∧ _) fun h => hx h.1, List.append_nil]
  rfl

/-! ### HAND_OVER (R134) -/

section
variable {s : State} {x : Session} {rest : List ℕ} (hev : s.events.handOvers = x.number :: rest)
  (hfind : s.sessions.find x.number = some x) (hst : x.state = .closing) (ho : x.handedOver = true)
include hev hfind hst ho

theorem execHandOver_prices (hp : s.builder.pricing = []) (hop : s.store.operation = none) :
    execHandOver s = .next ((s.setEvents { s.events with handOvers := rest }).priceSession x).settle := by
  simp only [execHandOver, hev, State.takeHandOver, State.setEvents_sessions, hfind]
  rw [if_pos ⟨hst, ho⟩, if_pos ⟨hp, hop⟩]
  rfl

theorem execHandOver_defers (h : s.builder.pricing ≠ [] ∨ s.store.operation.isSome = true) :
    execHandOver s = .next (((s.setEvents { s.events with handOvers := rest }).setBuilder
      { s.builder with pricing := s.builder.pricing ++ [x.number] }).transition x.number
        fun _ => { x with state := .pricing }).settle := by
  have hno : ¬ (s.builder.pricing = [] ∧ s.store.operation = none) := fun ⟨hp, hop⟩ =>
    h.elim (fun h => h hp) fun h => by simp [hop] at h
  simp only [execHandOver, hev, State.takeHandOver, State.setEvents_sessions, hfind]
  rw [if_pos ⟨hst, ho⟩, if_neg (by exact hno)]
  refine congrArg (fun u : State => Host.Outcome.next u.settle) (State.transition_const _ x _ ?_)
  exact hfind

end

/-- Settles O46: one pricing event at the hand-over, whose receipt enters the queue or waits, or a place on the pricing
list. -/
theorem handOverPricesOrDefers : Obligations.HandOverPricesOrDefers := by
  intro s x slot rest hev hfind hst ho hslot hlt hring receipt taken
  have hreleased : ∀ j, (s.store.setSlot slot { s.store.slot slot with uses := (s.store.slot slot).uses - 1 }).slot j =
      if j = slot then { s.store.slot j with uses := (s.store.slot j).uses - 1 } else s.store.slot j := fun j => by
    rw [s.store.slot_setSlot slot j _ hlt]
    split
    · rename_i e; rw [e]
    · rfl
  have hcopied : (s.builder.ring.setIfInBounds s.builder.ringPosition (some receipt))[s.builder.ringPosition]? =
      some (some receipt) := by simp [hring]
  let u : State := s.setEvents { s.events with handOvers := rest }
  have hprices : s.builder.pricing = [] → s.store.operation = none →
      execHandOver s = .next (u.priceSession x).settle := execHandOver_prices hev hfind hst ho
  have henters : s.builder.pricing = [] → s.store.operation = none → s.builder.waiting = [] →
      s.queue.retained.length < 64 →
      execHandOver s = .next ((u.priced slot receipt).receiptEntered receipt).serveWaiting.settle :=
    fun hp hop hw hroom => (hprices hp hop).trans <| congrArg (fun u : State => Host.Outcome.next u.settle) <|
      State.priceSession_enters (s := u) hslot hw hroom
  refine ⟨henters, fun hp hop hw hroom hports => ?_, fun hp hop h => ?_, execHandOver_defers hev hfind hst ho⟩
  · have hexec := henters hp hop hw hroom
    rw [State.serveWaiting_nil (s := (u.priced slot receipt).receiptEntered receipt) hports] at hexec
    exact ⟨_, hexec, ⟨rfl, hreleased, rfl, hcopied, rfl, rfl, rfl⟩, rfl, hw, rfl, rfl⟩
  · have hexec := hprices hp hop
    rw [State.priceSession_waits (s := u) hslot hfind h,
      State.transition_outside (s := (u.priced slot (u.receiptOf x slot)).receiptWaits (u.receiptOf x slot)) hfind
        (by simp [hst]) (by simp) (by simp [hst])] at hexec
    refine ⟨_, hexec, ⟨rfl, hreleased, rfl, hcopied, rfl, rfl, rfl⟩, rfl, rfl, ?_⟩
    exact congrArg (Option.map Session.state) (SessionController.find_update_same
      (y := carryTimers s.runTime s.sessions.dormantDelay x { x with state := .waitQueue }) hfind rfl)

/-! ### STORE_FREE (R135) -/

/-- The head of the pricing list priced, off the list. -/
theorem State.priceHead_eq {s : State} {x : Session} (hfind : s.sessions.find x.number = some x) (hst : x.state = .pricing) :
    s.priceHead x.number =
      (s.setBuilder { s.builder with pricing := s.builder.pricing.drop 1 }).priceSession x := by
  simp only [State.priceHead, State.setBuilder_sessions, hfind, hst, if_true]

/-! ### ROOM_EVENT (R145) -/

section
variable (s : State)

/-- What serves the port wait list leaves of the Receipt Builder and the Receipt Queue. -/
def State.SameReceipts (t : State) : Prop := t.builder = s.builder ∧ t.queue = s.queue

theorem State.transition_sameReceipts (n : ℕ) (f : Session → Session) : s.SameReceipts (s.transition n f) := by
  cases hx : s.sessions.find n with
  | none => rw [s.transition_none _ _ hx]; exact ⟨rfl, rfl⟩
  | some x => rw [s.transition_eq f hx]; exact ⟨rfl, rfl⟩

theorem State.freeVend_sameReceipts (n : ℕ) : s.SameReceipts (s.freeVend n) := by
  unfold State.freeVend
  split
  · exact ⟨rfl, rfl⟩
  · split
    · unfold State.authorizeSession
      split
      · exact (s.setStore _).transition_sameReceipts _ _
      · exact ⟨rfl, rfl⟩
    · exact ⟨rfl, rfl⟩

theorem State.serveWaiting_sameReceipts : s.SameReceipts s.serveWaiting := by
  unfold State.serveWaiting
  split
  · exact ⟨rfl, rfl⟩
  · split
    · exact ⟨rfl, rfl⟩
    · rw [State.createSession_eq]
      exact State.freeVend_sameReceipts _ _

/-- R145: the head of the wait list moved into the queue, its session out of the table and the freed entry served. -/
def State.served (r : Receipt) : State :=
  (State.receiptEntered { s with builder := { s.builder with waiting := s.builder.waiting.drop 1 } } r).serveWaiting

theorem State.served_sameReceipts (r : Receipt) : (s.served r).builder.waiting = s.builder.waiting.drop 1 ∧
    (s.served r).queue.retained.length = s.queue.retained.length + 1 := by
  obtain ⟨hb, hq⟩ :=
    (State.receiptEntered { s with builder := { s.builder with waiting := s.builder.waiting.drop 1 } } r).serveWaiting_sameReceipts
  exact ⟨congrArg ReceiptBuilder.waiting hb, by rw [State.served, hq]; simp [State.receiptEntered, ReceiptQueue.push]⟩

/-- R145: waiting receipts are served oldest first, as far as there is room. -/
theorem State.drain_eq : State.drain s.builder.waiting.length s =
    (s.builder.waiting.take (min s.builder.waiting.length (64 - s.queue.retained.length))).foldl State.served s := by
  generalize hw : s.builder.waiting = rs
  induction rs generalizing s with
  | nil => rfl
  | cons r rest ih =>
    simp only [List.length_cons, State.drain, hw]
    by_cases hroom : s.queue.retained.length < 64
    · have hfree := ReceiptQueue.isFull_eq_false_iff.2 hroom
      have hserved : ((s.setBuilder { s.builder with waiting := rest }).takeReceipt r).leaveTable r.session =
          s.served r := by
        rw [State.takeReceipt_leaveTable, State.served, hw]
        rfl
      obtain ⟨hwaiting, hlen⟩ := s.served_sameReceipts r
      have hmoved : min (rest.length + 1) (64 - s.queue.retained.length) =
          min rest.length (64 - (s.served r).queue.retained.length) + 1 := by omega
      rw [if_neg (by simp [hfree]), hserved, ih _ (by rw [hwaiting, hw]; rfl), hmoved, List.take_succ_cons,
        List.foldl_cons]
    · have hfull : s.queue.isFull = true := decide_eq_true (Nat.not_lt.1 hroom)
      rw [if_pos hfull, show 64 - s.queue.retained.length = 0 by omega, Nat.min_zero]
      rfl

/-- With no port waiting the receipts served do nothing but enter the queue and take their sessions out of the table. -/
theorem State.foldl_served (rs : List Receipt) (hports : s.sessions.waiting = []) :
    ∃ links, rs.foldl State.served s = { s with
      links := links
      sessions := { s.sessions with
        table := s.sessions.table.filter fun y => !(rs.map Receipt.session).contains y.number }
      builder := { s.builder with waiting := s.builder.waiting.drop rs.length }
      queue := { s.queue with retained := s.queue.retained ++ rs } } := by
  induction rs generalizing s with
  | nil => exact ⟨s.links, by simp⟩
  | cons r rest ih =>
    have hserved : s.served r =
        State.receiptEntered { s with builder := { s.builder with waiting := s.builder.waiting.drop 1 } } r :=
      State.serveWaiting_nil hports
    obtain ⟨links, h⟩ := ih (s.served r) (by rw [hserved]; exact hports)
    have hleft : (s.sessions.table.filter fun y => y.number != r.session).filter
        (fun y => !(rest.map Receipt.session).contains y.number) =
        s.sessions.table.filter fun y => !((r :: rest).map Receipt.session).contains y.number := by
      rw [List.filter_filter]
      congr 1
      funext y
      rw [List.map_cons, List.contains_cons, Bool.not_or, Bool.and_comm]
      rfl
    have hdrop : (s.builder.waiting.drop 1).drop rest.length = s.builder.waiting.drop (r :: rest).length := by
      rw [List.drop_drop, List.length_cons, Nat.add_comm]
    have htail : s.queue.retained ++ [r] ++ rest = s.queue.retained ++ r :: rest := List.append_assoc ..
    refine ⟨links, ?_⟩
    rw [List.foldl_cons, h, hserved, ← hleft, ← hdrop, ← htail]
    rfl

end

/-- Settles O47: the store-free event by what the pricing list holds; the room event as a fold over the receipts it
serves. -/
theorem storeFreeAndRoomServeTheirLists : Obligations.StoreFreeAndRoomServeTheirLists := by
  intro s entered
  refine ⟨fun n hn => ?_, fun n hn => ?_⟩
  · intro used
    refine ⟨fun h => execStoreFree_used hn h, fun x slot rest hop hp hfind hst hslot => ?_⟩
    intro receipt priced
    have hhead : execStoreFree s = .next ((s.setEvents (if rest = [] then used else s.events)).setBuilder
        { s.builder with pricing := rest } |>.priceSession x).settle := by
      rw [execStoreFree_head hn hop hp]
      have hev : (if rest = [] then s.setEvents used else s) = s.setEvents (if rest = [] then used else s.events) := by
        split <;> rfl
      rw [hev, State.priceHead_eq (s := s.setEvents (if rest = [] then used else s.events)) hfind hst]
      simp only [State.setEvents_builder, hp]
      rfl
    have hnext : ∀ {u : State}, ((s.setEvents (if rest = [] then used else s.events)).setBuilder
        { s.builder with pricing := rest }).priceSession x = u → execStoreFree s = .next u.settle := fun h => h ▸ hhead
    exact ⟨fun hw hroom => hnext (State.priceSession_enters hslot hw hroom),
      fun h => hnext (State.priceSession_waits hslot hfind h)⟩
  · intro moved served
    have hexec : execRoomEvent s = .next (((s.builder.waiting.take moved).foldl State.served
        (s.setEvents { s.events with rooms := n })).settle) := by
      simp only [execRoomEvent, hn]
      exact congrArg (fun u : State => Host.Outcome.next u.settle) (s.setEvents { s.events with rooms := n }).drain_eq
    refine ⟨hexec, fun hports => ?_⟩
    obtain ⟨links, h⟩ := (s.setEvents { s.events with rooms := n }).foldl_served (s.builder.waiting.take moved) hports
    have hmoved : (s.builder.waiting.take moved).length = moved := by
      rw [List.length_take]
      exact Nat.min_eq_left (Nat.min_le_left _ _)
    rw [h, hmoved] at hexec
    exact ⟨_, hexec, rfl, rfl⟩

end Sys2Proof.Machine

namespace Sys2Proof.Machine

/-! ## The price (R136 to R142) -/

/-! ### A figure for each source -/

/-- One figure of the three replaced. -/
def BySource.set (x : BySource) (k : Source) (n : ℕ) : BySource :=
  match k with
  | .solar => { x with solar := n }
  | .battery => { x with battery := n }
  | .grid => { x with grid := n }

theorem BySource.get_set (x : BySource) (k m : Source) (n : ℕ) :
    (x.set m n).get k = if k = m then n else x.get k := by
  cases m <;> cases k <;> rfl

/-! ### The order of the sources (R138) -/

/-- R138: among equal rates the grid is first, then the battery, then the sun. -/
def Source.place : Source → ℕ
  | .grid => 0
  | .battery => 1
  | .solar => 2

/-- R138: the allowance is taken from `m` before it is taken from `k`. -/
def Source.Before (rate : BySource) (m k : Source) : Prop :=
  rate.get k < rate.get m ∨ rate.get k = rate.get m ∧ m.place < k.place

section
variable {rate : BySource} {m k : Source}

theorem Source.Before.rate_le (h : Source.Before rate m k) : rate.get k ≤ rate.get m := by
  obtain hlt | ⟨heq, -⟩ := h
  · exact hlt.le
  · exact heq.le

theorem Source.Before.asymm (h : Source.Before rate m k) : ¬ Source.Before rate k m := by
  unfold Source.Before at *
  omega

theorem Source.Before.ne (h : Source.Before rate m k) : m ≠ k := by
  rintro rfl
  exact h.asymm h

variable (rate) in
theorem insertByRate_perm (x : Source) (l : List Source) : (insertByRate rate x l).Perm (x :: l) := by
  induction l with
  | nil => exact .refl _
  | cons y rest ih =>
    unfold insertByRate
    split
    · exact .refl _
    · exact (ih.cons y).trans (.swap x y rest)

/-- A source that is behind those of a list at equal rates is put where the order by rate wants it. -/
theorem insertByRate_pairwise_before {x : Source} {l : List Source} (hl : l.Pairwise (Source.Before rate))
    (hx : ∀ y ∈ l, y.place < x.place) : (insertByRate rate x l).Pairwise (Source.Before rate) := by
  induction l with
  | nil => exact List.pairwise_singleton _ _
  | cons y rest ih =>
    obtain ⟨hy, hrest⟩ := List.pairwise_cons.1 hl
    obtain ⟨hyx, hrestx⟩ := List.forall_mem_cons.1 hx
    unfold insertByRate
    split
    · next hdearer =>
      refine List.pairwise_cons.2 ⟨List.forall_mem_cons.2 ⟨.inl hdearer, fun z hz => ?_⟩, hl⟩
      exact .inl ((hy z hz).rate_le.trans_lt hdearer)
    · next hnot =>
      refine List.pairwise_cons.2 ⟨fun z hz => ?_, ih hrest hrestx⟩
      obtain rfl | hz := List.mem_cons.1 ((insertByRate_perm rate x rest).subset hz)
      · unfold Source.Before
        omega
      · exact hy z hz

variable (rate)

theorem sourceOrder_perm : (sourceOrder rate).Perm [.solar, .battery, .grid] :=
  (insertByRate_perm rate _ _).trans ((insertByRate_perm rate _ _).cons _)

theorem mem_sourceOrder (k : Source) : k ∈ sourceOrder rate :=
  (sourceOrder_perm rate).mem_iff.2 (by cases k <;> simp)

theorem sourceOrder_nodup : (sourceOrder rate).Nodup := (sourceOrder_perm rate).nodup_iff.2 (by decide)

theorem sourceOrder_pairwise_before : (sourceOrder rate).Pairwise (Source.Before rate) := by
  have hgrid : [Source.grid].Pairwise (Source.Before rate) := List.pairwise_singleton _ _
  have hbattery : (insertByRate rate .battery [.grid]).Pairwise (Source.Before rate) :=
    insertByRate_pairwise_before hgrid (by decide)
  refine insertByRate_pairwise_before hbattery fun y hy => ?_
  have hplace : ∀ z ∈ [Source.battery, Source.grid], z.place < Source.solar.place := by decide
  exact hplace y ((insertByRate_perm rate .battery [.grid]).subset hy)

/-- The figures along the order are the three figures. -/
theorem sum_get_sourceOrder (x : BySource) : ((sourceOrder rate).map x.get).sum = x.total := by
  rw [((sourceOrder_perm rate).map x.get).sum_eq]
  simp [BySource.get, BySource.total, Nat.add_assoc]

end

/-! ### The allowance taken from the sources in turn (R138) -/

section
variable {energy : BySource} {x k : Source} {rest l : List Source}

/-- The source at the head gives up what it can, and the sources after it the remainder. -/
theorem takeAllowance_cons (left : ℕ) (taken : BySource) : takeAllowance energy left (x :: rest) taken =
    takeAllowance energy (left - min left (energy.get x)) rest (taken.set x (min left (energy.get x))) := by
  cases x <;> rfl

theorem takeAllowance_get_of_notMem (left : ℕ) (taken : BySource) (hk : k ∉ l) :
    (takeAllowance energy left l taken).get k = taken.get k := by
  induction l generalizing left taken with
  | nil => rfl
  | cons x rest ih =>
    obtain ⟨hne, hrest⟩ := not_or.1 (List.mem_cons.not.1 hk)
    rw [takeAllowance_cons, ih _ _ hrest, BySource.get_set, if_neg hne]

theorem takeAllowance_get_head (left : ℕ) (taken : BySource) (hx : x ∉ rest) :
    (takeAllowance energy left (x :: rest) taken).get x = min left (energy.get x) := by
  rw [takeAllowance_cons, takeAllowance_get_of_notMem _ _ hx, BySource.get_set, if_pos rfl]

/-- No source gives up more than the allowance, nor more than its energy. -/
theorem takeAllowance_get_le (left : ℕ) (taken : BySource) (hl : l.Nodup) (hk : k ∈ l) :
    (takeAllowance energy left l taken).get k ≤ min left (energy.get k) := by
  induction l generalizing left taken with
  | nil => cases hk
  | cons x rest ih =>
    obtain ⟨hx, hrest⟩ := List.nodup_cons.1 hl
    obtain rfl | hk := List.mem_cons.1 hk
    · exact (takeAllowance_get_head left taken hx).le
    · rw [takeAllowance_cons]
      exact (ih _ _ hrest hk).trans (min_le_min_right _ (Nat.sub_le _ _))

/-- The allowance is all taken, as far as the sources have energy. -/
theorem takeAllowance_sum (left : ℕ) (taken : BySource) (hl : l.Nodup) :
    (l.map (takeAllowance energy left l taken).get).sum = min left (l.map energy.get).sum := by
  induction l generalizing left taken with
  | nil => exact (Nat.min_zero _).symm
  | cons x rest ih =>
    obtain ⟨hx, hrest⟩ := List.nodup_cons.1 hl
    rw [List.map_cons, List.sum_cons, takeAllowance_get_head left taken hx, takeAllowance_cons, ih _ _ hrest,
      List.map_cons, List.sum_cons]
    omega

/-- A source gives something up only when those before it have given up all their energy. -/
theorem takeAllowance_drains_before {rate : BySource} {m : Source} (left : ℕ) (taken : BySource)
    (hl : l.Pairwise (Source.Before rate)) (hm : m ∈ l) (hk : k ∈ l) (hmk : Source.Before rate m k)
    (hpos : 0 < (takeAllowance energy left l taken).get k) :
    (takeAllowance energy left l taken).get m = energy.get m := by
  induction l generalizing left taken with
  | nil => cases hm
  | cons x rest ih =>
    obtain ⟨hx, hrest⟩ := List.pairwise_cons.1 hl
    have hfresh : x ∉ rest := fun h => (hx x h).ne rfl
    obtain rfl | hkrest := List.mem_cons.1 hk
    · obtain rfl | hmrest := List.mem_cons.1 hm
      · exact absurd rfl hmk.ne
      · exact absurd (hx m hmrest) hmk.asymm
    obtain rfl | hmrest := List.mem_cons.1 hm
    · have hremains : 0 < left - min left (energy.get m) := by
        rw [takeAllowance_cons] at hpos
        exact hpos.trans_le ((takeAllowance_get_le _ _ (hrest.imp Source.Before.ne) hkrest).trans (min_le_left _ _))
      rw [takeAllowance_get_head left taken hfresh]
      omega
    · rw [takeAllowance_cons] at hpos ⊢
      exact ih _ _ hrest hmrest hkrest hpos

end

section
variable (energy rate : BySource) (applied : ℕ)

theorem allowanceTaken_get_le (k : Source) : (allowanceTaken energy rate applied).get k ≤ energy.get k :=
  (takeAllowance_get_le _ _ (sourceOrder_nodup rate) (mem_sourceOrder rate k)).trans (min_le_right _ _)

theorem allowanceTaken_total : (allowanceTaken energy rate applied).total = min applied energy.total := by
  rw [← sum_get_sourceOrder rate, ← sum_get_sourceOrder rate energy]
  exact takeAllowance_sum _ _ (sourceOrder_nodup rate)

theorem allowanceTaken_drains_before {energy rate : BySource} {applied : ℕ} {m k : Source}
    (hmk : Source.Before rate m k) (hpos : 0 < (allowanceTaken energy rate applied).get k) :
    (allowanceTaken energy rate applied).get m = energy.get m :=
  takeAllowance_drains_before _ _ (sourceOrder_pairwise_before rate) (mem_sourceOrder rate m) (mem_sourceOrder rate k)
    hmk hpos

end

/-! ### The figures of a receipt -/

/-- R114, R136: the three energies of a session are the whole of its total. -/
theorem Session.energy_total {x : Session} (hx : x.EnergyWf) : x.energy.total = x.total := by
  obtain ⟨-, hacc⟩ := hx
  simp only [Session.energy, BySource.total, Session.gridWh, Session.solarWh, Session.batteryWh]
  omega

section
variable (x : Session) (t : Tariff) (number : ℕ) (clock : SiteClock)

theorem price_billed_get (k : Source) : (price x t number clock).billed.get k =
    (price x t number clock).energy.get k - (price x t number clock).taken.get k := by
  cases k <;> rfl

theorem price_line_get (k : Source) : (price x t number clock).line.get k =
    lineAmount ((price x t number clock).billed.get k) (t.rate.get k) := by
  cases k <;> rfl

/-- R138: a source that gives something up leaves nothing billed at those before it. -/
theorem price_billed_eq_zero_of_before {x : Session} {t : Tariff} {number : ℕ} {clock : SiteClock} {m k : Source}
    (hmk : Source.Before t.rate m k) (hpos : 0 < (price x t number clock).taken.get k) :
    (price x t number clock).billed.get m = 0 := by
  have hdrained : (price x t number clock).taken.get m = (price x t number clock).energy.get m :=
    allowanceTaken_drains_before hmk hpos
  rw [price_billed_get, hdrained, Nat.sub_self]

/-- R138: the allowances taken sum to the allowance applied, as a session has the energy for it. -/
theorem price_taken_total (hx : x.EnergyWf) :
    (price x t number clock).taken.total = (price x t number clock).applied := by
  refine (allowanceTaken_total _ _ _).trans (min_eq_left ?_)
  rw [Session.energy_total hx]
  exact min_le_right _ _

end

/-- Settles O45: the copied fields by evaluation of `price`; the allowance by what the sources give up in their order. -/
theorem priceFollowsTheTariff : Obligations.PriceFollowsTheTariff := by
  intro x t number clock hx r
  have hslot : ∀ k, x.slot = some k → r.slot = k := fun k h => congrArg (Option.getD · 0) h
  have hauthorized : ∀ k, x.authorized = some k → r.authorized = k := fun k h => congrArg (Option.getD · 0) h
  have hended : ∀ k, x.ended = some k → r.ended = k := fun k h => congrArg (Option.getD · 0) h
  have hsources : ∀ k : Source, r.taken.get k ≤ r.energy.get k ∧ r.billed.get k = r.energy.get k - r.taken.get k ∧
      r.line.get k = (r.billed.get k * t.rate.get k + 50000) / 100000 := fun k =>
    ⟨allowanceTaken_get_le _ _ _ k, price_billed_get x t number clock k, price_line_get x t number clock k⟩
  have hdearer : ∀ k m : Source, t.rate.get k < t.rate.get m → 0 < r.taken.get k → r.billed.get m = 0 :=
    fun k m h => price_billed_eq_zero_of_before (.inl h)
  have hequal : ∀ k m : Source, m.place < k.place → t.rate.get k = t.rate.get m → 0 < r.taken.get k →
      r.billed.get m = 0 :=
    fun k m hplace h => price_billed_eq_zero_of_before (.inr ⟨h, hplace⟩)
  exact ⟨rfl, rfl, rfl, rfl, rfl, hslot, rfl, rfl, rfl, hauthorized, hended, rfl, rfl, rfl, rfl, rfl, rfl, rfl, rfl,
    rfl, Session.energy_total hx, rfl, rfl, rfl, price_taken_total x t number clock hx,
    hsources, hdearer, hequal .battery .grid (by decide), hequal .solar .battery (by decide),
    hequal .solar .grid (by decide), rfl, rfl⟩

end Sys2Proof.Machine

namespace Sys2Proof.Machine

/-! ## The settings of the links and of the queue levels (R159, R166, R171) -/

theorem NoticeKind.number_range (k : NoticeKind) : 1 ≤ k.number ∧ k.number ≤ 16 := by cases k <;> decide

theorem NoticeKind.number_injective : Function.Injective NoticeKind.number := fun k m => by
  cases k <;> cases m <;> decide

theorem LinkController.route_put (c : LinkController) (k m : NoticeKind) (r : NoticeRoute) :
    ({ c with routes := put c.routes k.number r } : LinkController).route m = if m = k then r else c.route m := by
  obtain ⟨h1, h2⟩ := k.number_range
  refine (nth_put _ _ _ _ _ h1 h2).trans ?_
  simp only [NoticeKind.number_injective.eq_iff]
  rfl

theorem routeOf_eq_none_iff {code : ℕ} : routeOf code = none ↔ 3 < code := by
  unfold routeOf
  split_ifs <;> simp <;> omega

section
variable (s : State) {f : RouteFields}

theorem handleSetNoticeRoute_outOfRange (h : f.kind < 1 ∨ 16 < f.kind ∨ 3 < f.route ∨ 7 < f.priority) :
    handleSetNoticeRoute s f = refuse s .outOfRange := by
  unfold handleSetNoticeRoute
  split
  · rfl
  · next r hr =>
    have hroute : ¬ 3 < f.route := fun hbig => by simp [routeOf_eq_none_iff.2 hbig] at hr
    exact if_neg (by omega)

theorem handleSetNoticeRoute_inRange {r : Route} (hr : routeOf f.route = some r) (h1 : 1 ≤ f.kind) (h2 : f.kind ≤ 16)
    (hp : f.priority ≤ 7) : handleSetNoticeRoute s f =
      ok (s.setLinks { s.links with routes := put s.links.routes f.kind { route := r, priority := f.priority } }) := by
  rw [handleSetNoticeRoute, hr]
  exact if_pos ⟨h1, h2, hp⟩

end

/-- Settles O7: each of the three handlers by its range check; the route written is read back. -/
theorem linkAndQueueSettingsAreReplaced : Obligations.LinkAndQueueSettingsAreReplaced := by
  refine ⟨fun s tag hl => ⟨fun f hg h1 h2 h3 => ?_, fun f hout => ?_, fun k f r hk hr hp => ?_, fun f hout => ?_⟩,
    fun s tag f hl => ⟨fun h1 h2 h3 h4 => ?_, fun hout => ?_⟩⟩
  · exact serve_site_answered _ _ _ hl rfl (if_pos ⟨decide_eq_true hg, h1, h2, h3⟩)
  · refine serve_site_answered s .outOfRange [] hl rfl (if_neg fun ⟨hg, h1, h2, h3⟩ => ?_)
    have hg' : f.grant ≤ 1 := of_decide_eq_true hg
    omega
  · obtain ⟨h1, h2⟩ := k.number_range
    refine ⟨{ s.links with routes := put s.links.routes k.number { route := r, priority := f.priority } }, ?_, rfl,
      (s.links.route_put k k _).trans (if_pos rfl), fun m hm => (s.links.route_put k m _).trans (if_neg hm)⟩
    refine serve_site_answered _ _ _ hl rfl ?_
    rw [handleSetNoticeRoute_inRange _ hr (by omega) (by omega) hp, hk]
    rfl
  · exact serve_site_answered s .outOfRange [] hl rfl (handleSetNoticeRoute_outOfRange _ hout)
  · exact serve_site_answered _ _ _ hl rfl (if_pos ⟨h1, h2, h3, h4⟩)
  · exact serve_site_answered s .outOfRange [] hl rfl (if_neg (by omega))

end Sys2Proof.Machine

namespace Sys2Proof.Machine

/-! ## The requests of the Receipt Queue (R151 to R157) -/

/-- The queue replaced, with a room event when receipts were removed (R151). -/
def State.requeued (s : State) (q : ReceiptQueue) (removed : ℕ) : State :=
  { s with queue := q, events := { s.events with rooms := s.events.rooms + if removed = 0 then 0 else 1 } }

theorem State.roomIf_setQueue (s : State) (q : ReceiptQueue) (removed : ℕ) :
    (s.setQueue q).roomIf removed = s.requeued q removed := by
  unfold State.roomIf State.requeued
  split <;> rfl

/-! ### What each request makes of the queue -/

section
variable {s : State}

theorem handleReadReceipt_empty (h : s.queue.read = s.queue.retained.length) : handleReadReceipt s () =
    { state := s.requeued s.queue 0, status := .empty,
      body := [byte s.queue.retained.length, byte s.builder.waiting.length] } := by
  rw [handleReadReceipt, h, List.getElem?_length]
  rfl

/-- R153: without a mark the read position is the head, and the receipt read is removed. -/
theorem handleReadReceipt_unmarked {r : Receipt} {rest : List Receipt} (hm : s.queue.mark = false)
    (hread : s.queue.read = 0) (h : s.queue.retained = r :: rest) : handleReadReceipt s () =
      { state := s.requeued { s.queue with retained := rest } 1, status := .ok,
        body := [byte rest.length, 0] ++ r.bytes } := by
  have hhead : s.queue.retained[s.queue.read]? = some r := by rw [hread, h]; rfl
  have hleft : s.queue.afterRead = { s.queue with retained := rest } := by simp [ReceiptQueue.afterRead, hm, hread, h]
  rw [handleReadReceipt, hhead]
  simp only [hleft, State.roomIf_setQueue, ReceiptQueue.unread, hread, hm, Nat.sub_zero]
  rfl

/-- R153: under a mark the read position moves past the receipt read, and none is removed. -/
theorem handleReadReceipt_marked {r : Receipt} (hm : s.queue.mark = true)
    (h : s.queue.retained[s.queue.read]? = some r) : handleReadReceipt s () =
      { state := s.requeued { s.queue with read := s.queue.read + 1 } 0, status := .ok,
        body := [byte (s.queue.retained.length - s.queue.read - 1), 1] ++ r.bytes } := by
  have hleft : s.queue.afterRead = { s.queue with read := s.queue.read + 1 } := if_pos hm
  simp only [handleReadReceipt, h, hleft, State.roomIf_setQueue, ReceiptQueue.unread, hm, Nat.sub_sub]
  rfl

/-- R154: what has been read is removed; without a mark that is nothing. -/
theorem handleSetMark_eq (hread : s.queue.mark = false → s.queue.read = 0) : handleSetMark s () =
    { state := s.requeued { s.queue with retained := s.queue.retained.drop s.queue.read, read := 0, mark := true }
        s.queue.read
      status := .ok, body := [byte s.queue.read, byte (s.queue.retained.length - s.queue.read)] } := by
  cases hm : s.queue.mark with
  | true => simp [handleSetMark, hm, State.roomIf_setQueue, ReceiptQueue.dropDelivered]
  | false => simp [handleSetMark, hm, State.roomIf_setQueue, hread hm]

theorem handleRewind_marked (hm : s.queue.mark = true) : handleRewind s () =
    { state := s.requeued { s.queue with read := 0 } 0, status := .ok, body := [byte s.queue.retained.length] } :=
  if_pos hm

theorem handleRewind_unmarked (hm : s.queue.mark = false) : handleRewind s () = refuse s .noMark :=
  if_neg (by simp [hm])

theorem handleReleaseMark_marked (hm : s.queue.mark = true) : handleReleaseMark s () =
    { state := s.requeued { s.queue with retained := s.queue.retained.drop s.queue.read, read := 0, mark := false }
        s.queue.read
      status := .ok, body := [byte s.queue.read] } := by
  rw [handleReleaseMark, if_pos hm, State.roomIf_setQueue]
  rfl

theorem handleReleaseMark_unmarked (hm : s.queue.mark = false) : handleReleaseMark s () = refuse s .noMark :=
  if_neg (by simp [hm])

theorem handleFlushQueue_eq (s : State) : handleFlushQueue s () =
    { state := s.requeued { s.queue with retained := [], read := 0, mark := false } s.queue.retained.length
      status := .ok, body := [byte s.queue.retained.length] } := by
  rw [handleFlushQueue, State.roomIf_setQueue]

end

/-- A request of the queue on the site link, by what its handler makes of the queue. -/
theorem serve_requeued {code tag : Byte} {handle : State → Unit → Handled} {s : State} {q : ReceiptQueue} {removed : ℕ}
    {status : Status} {body : List Byte} (hl : s.slotFree .site) (hpart : s.links.part = .live)
    (hh : handle (s.frameEnd .site) () =
      { state := (s.frameEnd .site).requeued q removed, status := status, body := body }) :
    serve .site code tag false .liveOnly noGrant handle (.fits ()) s =
      .next ((s.requeued q removed).replied .site code tag status body) :=
  serve_site_answered _ _ _ hl (Allowed.liveOnly_live hpart) hh

/-- Settles O48: each request by what its handler makes of the queue, with a mark and without. -/
theorem queueRequestsKeepTheReceipts : Obligations.QueueRequestsKeepTheReceipts := by
  intro s tag hl hpart hwf
  obtain ⟨-, -, hread, -⟩ := hwf
  refine ⟨fun h => ?_, fun r rest hm h => ?_, fun r hm h => ?_, ?_, fun hm => ?_, fun hm => ?_, fun hm => ⟨?_, ?_⟩, ?_⟩
  · exact serve_requeued hl hpart (handleReadReceipt_empty h)
  · exact serve_requeued hl hpart (handleReadReceipt_unmarked hm (hread hm) h)
  · exact serve_requeued hl hpart (handleReadReceipt_marked hm h)
  · exact serve_requeued hl hpart (handleSetMark_eq hread)
  · exact serve_requeued hl hpart (handleRewind_marked hm)
  · exact serve_requeued hl hpart (handleReleaseMark_marked hm)
  · exact serve_requeued hl hpart (handleRewind_unmarked hm)
  · exact serve_requeued hl hpart (handleReleaseMark_unmarked hm)
  · exact serve_requeued hl hpart (handleFlushQueue_eq _)

end Sys2Proof.Machine

namespace Sys2Proof.Machine

/-! ## What a link has to send (R162, R163)

The invariant of the transmitters reads the transmitter, the receive slot and the refusal holder of each link and nothing
else. Raises, receivers and all the blocks behind the links leave these alone, so most commands keep the invariant for that
reason; a reply placed, a refusal, the end of a frame and the resets are looked at one by one. -/

/-- The transmitter of a link, its receive slot and its refusal holder. -/
structure Outgoing where
  transmitter : Transmitter
  slot : Option Reply
  holder : Option Reply

def LinkPort.outgoing (p : LinkPort) : Outgoing :=
  { transmitter := p.transmitter, slot := p.slot, holder := p.holder }

def LinkController.outgoing (c : LinkController) (l : Link) : Outgoing := (c.port l).outgoing

/-! ### One port -/

section
variable {p q : LinkPort} {c d : LinkController} {l m : Link}

theorem LinkPort.holdsWhatItSends_congr (h : p.outgoing = q.outgoing) : p.holdsWhatItSends = q.holdsWhatItSends := by
  simp only [LinkPort.outgoing, Outgoing.mk.injEq] at h
  obtain ⟨htransmitter, hslot, hholder⟩ := h
  simp only [LinkPort.holdsWhatItSends, htransmitter, hslot, hholder]

/-- R162: a FREE slot is not the one whose reply is being sent, so a reply can be placed in it. -/
theorem LinkPort.holdsWhatItSends_place (h : p.holdsWhatItSends = true) (hslot : p.slot = none) (r : Reply) :
    ({ p with slot := some r } : LinkPort).holdsWhatItSends = true := by
  unfold LinkPort.holdsWhatItSends at h ⊢
  cases ht : p.transmitter with
  | idle => rfl
  | sending source frame =>
    cases source with
    | slot => simp [ht, hslot] at h
    | holder => simpa [ht] using h
    | notice | detached => rfl

/-- R162: likewise an empty refusal holder. -/
theorem LinkPort.holdsWhatItSends_refuse (h : p.holdsWhatItSends = true) (hholder : p.holder = none) (r : Reply) :
    ({ p with holder := some r } : LinkPort).holdsWhatItSends = true := by
  unfold LinkPort.holdsWhatItSends at h ⊢
  cases ht : p.transmitter with
  | idle => rfl
  | sending source frame =>
    cases source with
    | slot => simpa [ht] using h
    | holder => simp [ht, hholder] at h
    | notice | detached => rfl

/-- R163: an IDLE transmitter that begins takes what the slot or the holder holds. -/
theorem LinkPort.holdsWhatItSends_begin (h : p.holdsWhatItSends = true) (c : LinkController) :
    (c.begin p).holdsWhatItSends = true := by
  unfold LinkController.begin
  split
  · exact h
  · split
    · next hslot => simp [LinkPort.holdsWhatItSends, hslot]
    · next hslot hholder => simp [LinkPort.holdsWhatItSends, hholder]
    · split
      · exact h
      · rfl
    · exact h

/-- R163: after the end of a frame the transmitter is IDLE. -/
theorem LinkPort.holdsWhatItSends_sent (p : LinkPort) (source : TransmitSource) :
    (p.sent source).holdsWhatItSends = true := by
  cases source <;> rfl

/-- R169: a frame that outlives a RESTART has no place any more. -/
theorem LinkPort.holdsWhatItSends_restart (p : LinkPort) : p.restart.holdsWhatItSends = true := by
  unfold LinkPort.holdsWhatItSends LinkPort.restart Transmitter.detach
  cases p.transmitter <;> rfl

/-! ### Both links -/

theorem LinkController.wf_iff : c.Wf ↔ ∀ l, (c.port l).holdsWhatItSends = true :=
  ⟨fun ⟨hsite, htill⟩ l => by cases l <;> assumption, fun h => ⟨h .site, h .till⟩⟩

theorem LinkController.wf_of_outgoing (h : d.outgoing = c.outgoing) (hc : c.Wf) : d.Wf :=
  wf_iff.2 fun l => (LinkPort.holdsWhatItSends_congr (congrFun h l)).trans (wf_iff.1 hc l)

theorem LinkController.wf_setPort (hc : c.Wf) (h : p.holdsWhatItSends = true) : (c.setPort l p).Wf :=
  wf_iff.2 fun m => by
    rw [port_setPort]
    split
    · exact h
    · exact wf_iff.1 hc m

theorem LinkController.wf_settle (hc : c.Wf) : c.settle.Wf :=
  ⟨LinkPort.holdsWhatItSends_begin hc.1 c, LinkPort.holdsWhatItSends_begin hc.2 c⟩

@[simp] theorem LinkController.outgoing_raise (c : LinkController) (k : NoticeKind) (data : ℕ) :
    (c.raise k data).outgoing = c.outgoing := by
  funext l
  cases l
  · change LinkPort.outgoing (if _ then _ else _) = _
    split <;> rfl
  · change LinkPort.outgoing (if _ then _ else _) = _
    split <;> rfl

/-- R161: a receiver changed. -/
theorem LinkController.outgoing_setPort (h : p.outgoing = (c.port l).outgoing) :
    (c.setPort l p).outgoing = c.outgoing := by
  funext m
  unfold LinkController.outgoing
  rw [port_setPort]
  split
  · next hm => rw [hm, h]
  · rfl

@[simp] theorem State.frameEnd_outgoing (s : State) (l : Link) : (s.frameEnd l).links.outgoing = s.links.outgoing :=
  LinkController.outgoing_setPort rfl

@[simp] theorem State.collect_outgoing (s : State) (l : Link) (gathered : List Byte) :
    (s.collect l gathered).links.outgoing = s.links.outgoing :=
  LinkController.outgoing_setPort rfl

theorem slotFree_of_outgoing {s t : State} (h : t.links.outgoing = s.links.outgoing) (hl : s.slotFree l) : t.slotFree l :=
  (congrArg Outgoing.slot (congrFun h l)).trans hl

/-- R162: a refusal goes to an empty holder only. -/
theorem State.wf_refuseBusy {s : State} (hs : s.links.Wf) (l : Link) (kind tag : Byte) :
    (s.refuseBusy l kind tag).links.Wf := by
  unfold State.refuseBusy
  split
  · exact hs
  · next hholder =>
    exact LinkController.wf_setPort hs (LinkPort.holdsWhatItSends_refuse (LinkController.wf_iff.1 hs l) hholder _)

theorem State.wf_place {s : State} (hs : s.links.Wf) (hl : s.slotFree l) (r : Reply) : (s.place l r).links.Wf :=
  LinkController.wf_setPort hs (LinkPort.holdsWhatItSends_place (LinkController.wf_iff.1 hs l) hl r)

theorem State.wf_unknownFrame {s : State} (hs : s.links.Wf) (l : Link) (kind tag : Byte) :
    (s.unknownFrame l kind tag).links.Wf := by
  have hf : (s.frameEnd l).links.Wf := LinkController.wf_of_outgoing (s.frameEnd_outgoing l) hs
  simp only [State.unknownFrame]
  split
  · exact State.wf_refuseBusy hf l kind tag
  · next hl => exact State.wf_place hf hl _

end

end Sys2Proof.Machine

namespace Sys2Proof.Machine

/-! ### The blocks behind the links only raise notices -/

section
variable (s : State)

theorem foldl_outgoing {α : Type} {f : State → α → State} (hf : ∀ s a, (f s a).links.outgoing = s.links.outgoing)
    (xs : List α) : (xs.foldl f s).links.outgoing = s.links.outgoing :=
  foldl_keeps (P := fun t => t.links.outgoing = s.links.outgoing) (fun a h => (hf _ a).trans h) xs rfl

/-! #### The Site Balance Unit and the Power Allocator -/

@[simp] theorem State.recompute_outgoing : s.recompute.links.outgoing = s.links.outgoing := by
  simp only [State.recompute]; split <;> simp

@[simp] theorem State.changeSite_outgoing (n : SiteState) : (s.changeSite n).links.outgoing = s.links.outgoing := by
  simp [State.changeSite]

@[simp] theorem State.followGrid_outgoing (g : Option Bool) : (s.followGrid g).links.outgoing = s.links.outgoing := by
  unfold State.followGrid
  split
  case h_2 => split <;> simp
  all_goals simp [State.enterIsland, State.enterRestoring]

@[simp] theorem State.checkOverrun_outgoing (w : ℤ) (b : Bool) :
    (s.checkOverrun w b).links.outgoing = s.links.outgoing := by
  unfold State.checkOverrun; split <;> simp

@[simp] theorem State.freshen_outgoing (a b : Bool) : (s.freshen a b).links.outgoing = s.links.outgoing := by
  unfold State.freshen; split <;> simp

@[simp] theorem State.takeReport_outgoing (r : Report) : (s.takeReport r).links.outgoing = s.links.outgoing := by
  unfold State.takeReport; split <;> simp

@[simp] theorem State.makeStale_outgoing (u : ℕ) : (s.makeStale u).links.outgoing = s.links.outgoing := by
  unfold State.makeStale; split_ifs <;> simp

@[simp] theorem State.takeHealth_outgoing (h : HealthChange) : (s.takeHealth h).links.outgoing = s.links.outgoing := by
  unfold State.takeHealth; split_ifs <;> simp [State.startPhantom, State.endPhantom]

@[simp] theorem State.takeRound_outgoing : s.takeRound.links.outgoing = s.links.outgoing := rfl

@[simp] theorem State.roundOrPend_outgoing : s.roundOrPend.links.outgoing = s.links.outgoing := by
  unfold State.roundOrPend; split <;> simp

@[simp] theorem State.takeEarly_outgoing : s.takeEarly.links.outgoing = s.links.outgoing := by
  unfold State.takeEarly; split_ifs <;> simp

@[simp] theorem State.takeApplied_outgoing : s.takeApplied.links.outgoing = s.links.outgoing := by
  simp only [State.takeApplied]; split_ifs <;> simp

/-! #### The Battery Dispatch Unit and the Field Link Controller -/

@[simp] theorem State.computeCommand_outgoing (t : DispatchTrigger) :
    (s.computeCommand t).links.outgoing = s.links.outgoing := rfl

@[simp] theorem State.checkStanding_outgoing : s.checkStanding.links.outgoing = s.links.outgoing := by
  unfold State.checkStanding; split <;> simp

@[simp] theorem State.evaluateAllowance_outgoing : s.evaluateAllowance.links.outgoing = s.links.outgoing := by
  rw [s.evaluateAllowance_eq]; rfl

@[simp] theorem State.applyUrgent_outgoing (n : ℕ) : (s.applyUrgent n).links.outgoing = s.links.outgoing := by
  simp only [State.applyUrgent]; split_ifs <;> simp

@[simp] theorem State.replyValid_outgoing (t : Transaction) (p : List Byte) :
    (s.replyValid t p).links.outgoing = s.links.outgoing := by
  rw [s.replyValid_eq]; dsimp only; split <;> simp

@[simp] theorem State.replyMissed_outgoing (t : Transaction) : (s.replyMissed t).links.outgoing = s.links.outgoing := by
  simp only [State.replyMissed]; split <;> simp [State.healthChanged_eq]

/-! #### The Session Controller -/

@[simp] theorem State.transition_outgoing (n : ℕ) (f : Session → Session) :
    (s.transition n f).links.outgoing = s.links.outgoing := by
  cases hx : s.sessions.find n with
  | none => rw [s.transition_none _ _ hx]
  | some x => rw [s.transition_eq f hx]; dsimp only; split <;> simp

@[simp] theorem State.setPortState_outgoing (p : ℕ) (st : PortState) :
    (s.setPortState p st).links.outgoing = s.links.outgoing := rfl

@[simp] theorem State.lockoutAlone_outgoing (sent p : ℕ) :
    (s.lockoutAlone sent p).links.outgoing = s.links.outgoing := by
  unfold State.lockoutAlone; split <;> rfl

@[simp] theorem State.holdPort_outgoing (p : ℕ) (r : HoldReason) (add : Bool) :
    (s.holdPort p r add).links.outgoing = s.links.outgoing := by
  unfold State.holdPort; split <;> simp

@[simp] theorem State.authorizeSession_outgoing (n : ℕ) (who : Authorizer) (customer : Text) (departure : Option ℕ) :
    (s.authorizeSession n who customer departure).links.outgoing = s.links.outgoing := by
  unfold State.authorizeSession; split <;> simp

@[simp] theorem State.freeVend_outgoing (n : ℕ) : (s.freeVend n).links.outgoing = s.links.outgoing := by
  unfold State.freeVend
  split
  · rfl
  · split <;> simp

@[simp] theorem State.createSession_outgoing (p : ℕ) : (s.createSession p).links.outgoing = s.links.outgoing := by
  simp [State.createSession_eq, State.openSession]

@[simp] theorem State.serveWaiting_outgoing : s.serveWaiting.links.outgoing = s.links.outgoing := by
  unfold State.serveWaiting
  split
  · rfl
  · split <;> simp

@[simp] theorem State.removeSession_outgoing (n : ℕ) : (s.removeSession n).links.outgoing = s.links.outgoing := rfl

@[simp] theorem State.abandon_outgoing (x : Session) (st : PortState) :
    (s.abandon x st).links.outgoing = s.links.outgoing := by
  simp [State.abandon]

@[simp] theorem State.applyFault_outgoing (p : ℕ) (fault : Bool) :
    (s.applyFault p fault).links.outgoing = s.links.outgoing := by
  simp only [State.applyFault]; split_ifs <;> simp

@[simp] theorem State.applyDemand_outgoing (p : ℕ) : (s.applyDemand p).links.outgoing = s.links.outgoing := by
  unfold State.applyDemand; split <;> simp

@[simp] theorem State.completeClosing_outgoing (x : Session) (c e : Bool) :
    (s.completeClosing x c e).links.outgoing = s.links.outgoing := rfl

@[simp] theorem State.tryComplete_outgoing (p : ℕ) : (s.tryComplete p).links.outgoing = s.links.outgoing := by
  unfold State.tryComplete
  split
  · rfl
  · split
    · split <;> simp
    · rfl

@[simp] theorem State.applyToSession_outgoing (x : Session) (r : ChargerReport) :
    (s.applyToSession x r).links.outgoing = s.links.outgoing := by
  simp only [State.applyToSession]
  split
  · split <;> simp
  · split <;> simp
  · split <;> simp
  · split <;> simp
  · split <;> simp
  · rfl
  · rfl

@[simp] theorem State.applyConnection_outgoing (r : ChargerReport) :
    (s.applyConnection r).links.outgoing = s.links.outgoing := by
  unfold State.applyConnection
  split
  · split <;> simp
  · simp
  · simp
  · split <;> simp
  · rfl

@[simp] theorem State.takeChargerReport_outgoing (r : ChargerReport) :
    (s.takeChargerReport r).links.outgoing = s.links.outgoing := by
  unfold State.takeChargerReport; split <;> simp

@[simp] theorem State.noticeUrgent_outgoing (n : ℕ) (a b : SessionClass) :
    (s.noticeUrgent n a b).links.outgoing = s.links.outgoing := by
  unfold State.noticeUrgent; split <;> simp

@[simp] theorem State.takeEntry_outgoing (e : CandidateEntry) : (s.takeEntry e).links.outgoing = s.links.outgoing := by
  unfold State.takeEntry
  split
  · rfl
  · split <;> simp

@[simp] theorem State.takeResult_outgoing (r : AllocationResult) : (s.takeResult r).links.outgoing = s.links.outgoing :=
  foldl_outgoing s State.takeEntry_outgoing r.entries

@[simp] theorem State.reclassify_outgoing (high urgent n : ℕ) :
    (s.reclassify high urgent n).links.outgoing = s.links.outgoing := by
  unfold State.reclassify; split <;> simp

@[simp] theorem State.followSite_outgoing (c : SiteChange) : (s.followSite c).links.outgoing = s.links.outgoing := by
  simp only [State.followSite]
  split_ifs
  · exact foldl_outgoing s (fun _ _ => State.transition_outgoing ..) _
  · exact foldl_outgoing s (fun _ _ => State.transition_outgoing ..) _
  · rfl

/-! #### The Receipt Builder, the Receipt Queue, the Tariff Store and the Metering Unit -/

@[simp] theorem State.takeReceipt_outgoing (r : Receipt) : (s.takeReceipt r).links.outgoing = s.links.outgoing := by
  simp only [State.takeReceipt]; split_ifs <;> simp

@[simp] theorem State.roomIf_outgoing (n : ℕ) : (s.roomIf n).links.outgoing = s.links.outgoing := by
  unfold State.roomIf; split <;> simp

@[simp] theorem State.leaveTable_outgoing (n : ℕ) : (s.leaveTable n).links.outgoing = s.links.outgoing := by
  simp [State.leaveTable]

@[simp] theorem State.placeReceipt_outgoing (n : ℕ) (r : Receipt) :
    (s.placeReceipt n r).links.outgoing = s.links.outgoing := by
  unfold State.placeReceipt; split <;> simp

@[simp] theorem State.priceSession_outgoing (x : Session) : (s.priceSession x).links.outgoing = s.links.outgoing := by
  simp [State.priceSession]

@[simp] theorem State.takeHandOver_outgoing (n : ℕ) : (s.takeHandOver n).links.outgoing = s.links.outgoing := by
  unfold State.takeHandOver
  split
  · rfl
  · split_ifs <;> simp

@[simp] theorem State.priceHead_outgoing (n : ℕ) : (s.priceHead n).links.outgoing = s.links.outgoing := by
  simp only [State.priceHead]
  split
  · rfl
  · split <;> simp

@[simp] theorem State.drain_outgoing (fuel : ℕ) : (State.drain fuel s).links.outgoing = s.links.outgoing := by
  induction fuel generalizing s with
  | zero => rfl
  | succ fuel ih =>
    unfold State.drain
    split
    · rfl
    · split
      · rfl
      · simp [ih]

@[simp] theorem State.completeOperation_outgoing (op : StoreOperation) (verified : Bool) :
    (s.completeOperation op verified).links.outgoing = s.links.outgoing :=
  LinkController.outgoing_raise ..

@[simp] theorem State.abortOperation_outgoing : s.abortOperation.links.outgoing = s.links.outgoing := by
  unfold State.abortOperation
  split
  · rfl
  · exact LinkController.outgoing_raise ..

@[simp] theorem State.takeReading_outgoing (r : MeterReading) : (s.takeReading r).links.outgoing = s.links.outgoing := by
  have hfirst : ∀ n, (s.applyFirstReading r n).links.outgoing = s.links.outgoing := fun n => by
    simp only [State.applyFirstReading]; split <;> rfl
  have happly : ∀ n m k, (s.applyReading r n m k).links.outgoing = s.links.outgoing := fun n m k => by
    simp only [State.applyReading]
    split <;> split <;> simp [State.logDiscrepancy]
  simp only [State.takeReading, State.sendReadingApplied_links]
  split
  · rfl
  · split
    · exact hfirst _
    · exact happly _ _ _

end

end Sys2Proof.Machine

namespace Sys2Proof.Machine

/-! ### The requests' owners leave what the links have to send -/

section
variable (s : State)

theorem handleSetSite_outgoing (f : SiteFields) : (handleSetSite s f).state.links.outgoing = s.links.outgoing := by
  simp only [handleSetSite, setBuilder_next_ite]
  split_ifs <;> simp [ok, refuse]

theorem handleSetFeeder_outgoing (f : FeederFields) : (handleSetFeeder s f).state.links.outgoing = s.links.outgoing := by
  unfold handleSetFeeder; split <;> rfl

theorem handleSetPort_outgoing (f : PortFields) : (handleSetPort s f).state.links.outgoing = s.links.outgoing := by
  have hconfigured : ∀ e, (s.configurePort f.port e).links.outgoing = s.links.outgoing := fun e => by cases e <;> rfl
  unfold handleSetPort
  split
  · rfl
  · split
    · split
      · rfl
      · split
        · exact hconfigured (some _)
        · exact hconfigured none
    · rfl

theorem handleSetUnit_outgoing (f : UnitFields) : (handleSetUnit s f).state.links.outgoing = s.links.outgoing := by
  unfold handleSetUnit
  split
  · rfl
  · split_ifs <;> rfl

theorem handleSetBatteryPolicy_outgoing (f : PolicyFields) :
    (handleSetBatteryPolicy s f).state.links.outgoing = s.links.outgoing := by
  simp only [handleSetBatteryPolicy]; split_ifs <;> simp [ok, refuse]

theorem handleSetTimers_outgoing (f : TimerFields) : (handleSetTimers s f).state.links.outgoing = s.links.outgoing := by
  simp only [handleSetTimers]; split <;> rfl

theorem handleSetWatermarks_outgoing (f : WatermarkFields) :
    (handleSetWatermarks s f).state.links.outgoing = s.links.outgoing := by
  simp only [handleSetWatermarks]; split_ifs <;> rfl

theorem handleSetNoticeRoute_outgoing (f : RouteFields) :
    (handleSetNoticeRoute s f).state.links.outgoing = s.links.outgoing := by
  unfold handleSetNoticeRoute
  split
  · rfl
  · split
    · funext l; cases l <;> rfl
    · rfl

theorem handleSetTillAccess_outgoing (f : TillFields) :
    (handleSetTillAccess s f).state.links.outgoing = s.links.outgoing := by
  unfold handleSetTillAccess
  split
  · funext l; cases l <;> rfl
  · rfl

theorem handleSetQueueLevels_outgoing (f : LevelFields) :
    (handleSetQueueLevels s f).state.links.outgoing = s.links.outgoing := by
  unfold handleSetQueueLevels; split <;> rfl

theorem handleSetTime_outgoing (t : ℕ) : (handleSetTime s t).state.links.outgoing = s.links.outgoing := by
  unfold handleSetTime
  split
  · funext l; cases l <;> rfl
  · rfl

theorem State.goLive_outgoing : s.goLive.links.outgoing = s.links.outgoing := by
  have hpart : ({ s.links with part := .live } : LinkController).outgoing = s.links.outgoing := by
    funext l; cases l <;> rfl
  simp [State.goLive, hpart]

theorem handleGoLive_outgoing (u : Unit) : (handleGoLive s u).state.links.outgoing = s.links.outgoing := by
  unfold handleGoLive
  split
  · rfl
  · exact s.goLive_outgoing

theorem handleAuthorize_outgoing (who : Authorizer) (f : AuthorizeFields) :
    (handleAuthorize who s f).state.links.outgoing = s.links.outgoing := by
  unfold handleAuthorize
  split
  · split
    · rfl
    · split_ifs <;> simp [refuse]
  · rfl

theorem handleHold_outgoing (add : Bool) (p : ℕ) : (handleHold add s p).state.links.outgoing = s.links.outgoing := by
  unfold handleHold
  split
  · split
    · rfl
    · split <;> simp [ok, refuse]
  · rfl

theorem handleStopSession_outgoing (n : ℕ) : (handleStopSession s n).state.links.outgoing = s.links.outgoing := by
  unfold handleStopSession
  split
  · rfl
  · split <;> simp [ok, refuse]

theorem handleSetDeparture_outgoing (f : DepartureFields) :
    (handleSetDeparture s f).state.links.outgoing = s.links.outgoing := by
  unfold handleSetDeparture
  split
  · rfl
  · split <;> rfl

theorem handleLinkPurchase_outgoing (f : PurchaseFields) :
    (handleLinkPurchase s f).state.links.outgoing = s.links.outgoing := by
  simp only [handleLinkPurchase]
  split
  · split
    · rfl
    · split_ifs <;> rfl
  · rfl

theorem startOperation_outgoing (k : ℕ) (o : StoreKind) (image : List Byte) :
    (startOperation s k o image).state.links.outgoing = s.links.outgoing := by
  unfold startOperation; split <;> rfl

theorem handleProgramTariff_outgoing (f : ProgramFields) :
    (handleProgramTariff s f).state.links.outgoing = s.links.outgoing := by
  unfold handleProgramTariff
  split
  · exact startOperation_outgoing ..
  · rfl

theorem handleEraseTariff_outgoing (k : ℕ) : (handleEraseTariff s k).state.links.outgoing = s.links.outgoing := by
  unfold handleEraseTariff
  split
  · exact startOperation_outgoing ..
  · rfl

theorem handleActivateTariff_outgoing (k : ℕ) : (handleActivateTariff s k).state.links.outgoing = s.links.outgoing := by
  unfold handleActivateTariff; split_ifs <;> rfl

theorem handleReadReceipt_outgoing (u : Unit) : (handleReadReceipt s u).state.links.outgoing = s.links.outgoing := by
  unfold handleReadReceipt; split <;> simp

theorem handleSetMark_outgoing (u : Unit) : (handleSetMark s u).state.links.outgoing = s.links.outgoing := by
  simp [handleSetMark]

theorem handleRewind_outgoing (u : Unit) : (handleRewind s u).state.links.outgoing = s.links.outgoing := by
  unfold handleRewind; split <;> rfl

theorem handleReleaseMark_outgoing (u : Unit) : (handleReleaseMark s u).state.links.outgoing = s.links.outgoing := by
  unfold handleReleaseMark; split <;> simp [refuse]

theorem handleFlushQueue_outgoing (u : Unit) : (handleFlushQueue s u).state.links.outgoing = s.links.outgoing := by
  simp [handleFlushQueue]

end

/-! ### A command completes and keeps the links -/

/-- An outcome of a state is a next one, and the links' invariant goes over to it. -/
def KeepsLinks (s : State) (o : Host.Outcome State Fault Refusal) : Prop :=
  ∃ t, o = .next t ∧ (s.links.Settled → s.links.Wf → t.links.Settled ∧ t.links.Wf)

section
variable {s t : State}

theorem keepsLinks_nothing : KeepsLinks s (nothing s) := ⟨s, rfl, And.intro⟩

/-- R163: every command that acts ends with both transmitters having chosen. -/
theorem keepsLinks_done (h : s.links.Wf → t.links.Wf) : KeepsLinks s (done t) :=
  ⟨t.settle, rfl, fun _ hs => ⟨settled_of_done (s := t) rfl, LinkController.wf_settle (h hs)⟩⟩

theorem keepsLinks_done_of_outgoing (h : t.links.outgoing = s.links.outgoing) : KeepsLinks s (done t) :=
  keepsLinks_done (LinkController.wf_of_outgoing h)

/-- What a request's owner has to leave for the reply to be placed (R162): the links' invariant, and a slot that is
FREE. -/
def LeavesSlots {α : Type} (handle : State → α → Handled) : Prop :=
  ∀ s f, s.links.Wf → (handle s f).state.links.Wf ∧ ∀ l, s.slotFree l → (handle s f).state.slotFree l

theorem leavesSlots_of_outgoing {α : Type} {handle : State → α → Handled}
    (h : ∀ s f, (handle s f).state.links.outgoing = s.links.outgoing) : LeavesSlots handle :=
  fun s f hs => ⟨LinkController.wf_of_outgoing (h s f) hs, fun _ => slotFree_of_outgoing (h s f)⟩

/-- R169: after a RESTART both slots are FREE, and what is being sent has lost its place. -/
theorem handleRestart_leavesSlots : LeavesSlots handleRestart := by
  intro s mode hs
  have hrestart : s.restart.links.Wf ∧ ∀ l, s.slotFree l → s.restart.slotFree l :=
    ⟨⟨LinkPort.holdsWhatItSends_restart _, LinkPort.holdsWhatItSends_restart _⟩, fun l _ => by cases l <;> rfl⟩
  unfold handleRestart
  split_ifs
  · exact hrestart
  · exact ⟨hs, fun _ => id⟩
  · exact hrestart
  · exact ⟨hs, fun _ => id⟩

theorem leavesSlots_answer {α : Type} {handle : State → α → Handled} (h : LeavesSlots handle) (l : Link) (till : Bool)
    (al : Allowed) (g : State → α → Bool) (p : Payload α) (hs : s.links.Wf) (hl : s.slotFree l) :
    (answer l till al g handle p s).state.links.Wf ∧ (answer l till al g handle p s).state.slotFree l := by
  unfold answer
  split
  · exact ⟨hs, hl⟩
  · split
    · exact ⟨hs, hl⟩
    · split
      · exact ⟨hs, hl⟩
      · split
        · exact ⟨hs, hl⟩
        · next f _ _ _ =>
          obtain ⟨hwf, hfree⟩ := h s f hs
          exact ⟨hwf, hfree l hl⟩

/-- R162, R164: a request, refused BUSY or answered. -/
theorem keepsLinks_serve {α : Type} {handle : State → α → Handled} (h : LeavesSlots handle) (l : Link) (kind tag : Byte)
    (till : Bool) (al : Allowed) (g : State → α → Bool) (p : Payload α) :
    KeepsLinks s (serve l kind tag till al g handle p s) := by
  have hframe : s.links.Wf → (s.frameEnd l).links.Wf := LinkController.wf_of_outgoing (s.frameEnd_outgoing l)
  simp only [serve]
  split
  · exact keepsLinks_done fun hs => State.wf_refuseBusy (hframe hs) l kind tag
  · next hl =>
    refine keepsLinks_done fun hs => ?_
    obtain ⟨hwf, hfree⟩ := leavesSlots_answer h l till al g p (hframe hs) hl
    exact State.wf_place hwf hfree _

/-- A request whose owner leaves what the links have to send. -/
theorem keepsLinks_request {α : Type} {handle : State → α → Handled}
    (h : ∀ s f, (handle s f).state.links.outgoing = s.links.outgoing) {l : Link} {kind tag : Byte} {till : Bool}
    {al : Allowed} {g : State → α → Bool} {p : Payload α} : KeepsLinks s (serve l kind tag till al g handle p s) :=
  keepsLinks_serve (leavesSlots_of_outgoing h) ..

/-! #### The commands of the links themselves -/

theorem keepsLinks_powerOnReset : KeepsLinks s (execPowerOnReset s) := keepsLinks_done fun _ => ⟨rfl, rfl⟩

theorem keepsLinks_transmitEnd (l : Link) : KeepsLinks s (execTransmitEnd l s) := by
  unfold execTransmitEnd
  split
  · exact keepsLinks_nothing
  · exact keepsLinks_done fun hs => LinkController.wf_setPort hs (LinkPort.holdsWhatItSends_sent ..)

theorem keepsLinks_busyRefusal (l : Link) (kind tag : Byte) : KeepsLinks s (execBusyRefusal l kind tag s) := by
  unfold execBusyRefusal
  split
  · exact keepsLinks_nothing
  · exact keepsLinks_done fun hs =>
      State.wf_refuseBusy (LinkController.wf_of_outgoing (s.frameEnd_outgoing l) hs) l kind tag

theorem keepsLinks_unknownKind (l : Link) (kind tag : Byte) : KeepsLinks s (execUnknownKind l kind tag s) := by
  unfold execUnknownKind
  split
  · exact keepsLinks_nothing
  · exact keepsLinks_done fun hs => State.wf_unknownFrame hs l kind tag

theorem keepsLinks_siteClockTick : KeepsLinks s (execSiteClockTick s) :=
  keepsLinks_done_of_outgoing (by funext l; cases l <;> rfl)

/-- Every command but a received byte; the events and timers behind the links stand together by the shape of their
meaning. -/
theorem keepsLinks_exec_of_ne (i : Instr) (hb : ∀ l b, i ≠ .receivedByte l b) : KeepsLinks s (exec i s) := by
  have hsame : ∀ {α : Type} {handle : State → α → Handled}, (∀ s f, (handle s f).state = s) →
      ∀ s f, (handle s f).state.links.outgoing = s.links.outgoing := fun h s f => by rw [h s f]
  cases i with
  | powerOnReset => exact keepsLinks_powerOnReset
  | busyRefusal l kind tag => exact keepsLinks_busyRefusal l kind tag
  | unknownKind l kind tag => exact keepsLinks_unknownKind l kind tag
  | transmitEnd l => exact keepsLinks_transmitEnd l
  | siteClockTick => exact keepsLinks_siteClockTick
  | restart l tag p => exact keepsLinks_serve handleRestart_leavesSlots ..
  | setSite l tag p => exact keepsLinks_request handleSetSite_outgoing
  | setFeeder l tag p => exact keepsLinks_request handleSetFeeder_outgoing
  | setPort l tag p => exact keepsLinks_request handleSetPort_outgoing
  | setUnit l tag p => exact keepsLinks_request handleSetUnit_outgoing
  | setBatteryPolicy l tag p => exact keepsLinks_request handleSetBatteryPolicy_outgoing
  | setTimers l tag p => exact keepsLinks_request handleSetTimers_outgoing
  | setWatermarks l tag p => exact keepsLinks_request handleSetWatermarks_outgoing
  | setNoticeRoute l tag p => exact keepsLinks_request handleSetNoticeRoute_outgoing
  | setTillAccess l tag p => exact keepsLinks_request handleSetTillAccess_outgoing
  | setQueueLevels l tag p => exact keepsLinks_request handleSetQueueLevels_outgoing
  | setTime l tag p => exact keepsLinks_request handleSetTime_outgoing
  | goLive l tag p => exact keepsLinks_request handleGoLive_outgoing
  | authorize l tag p => exact keepsLinks_request fun s => handleAuthorize_outgoing s _
  | holdPort l tag p => exact keepsLinks_request fun s => handleHold_outgoing s true
  | releasePort l tag p => exact keepsLinks_request fun s => handleHold_outgoing s false
  | stopSession l tag p => exact keepsLinks_request handleStopSession_outgoing
  | setDeparture l tag p => exact keepsLinks_request handleSetDeparture_outgoing
  | linkPurchase l tag p => exact keepsLinks_request handleLinkPurchase_outgoing
  | programTariff l tag p => exact keepsLinks_request handleProgramTariff_outgoing
  | eraseTariff l tag p => exact keepsLinks_request handleEraseTariff_outgoing
  | activateTariff l tag p => exact keepsLinks_request handleActivateTariff_outgoing
  | readReceipt l tag p => exact keepsLinks_request handleReadReceipt_outgoing
  | setMark l tag p => exact keepsLinks_request handleSetMark_outgoing
  | rewind l tag p => exact keepsLinks_request handleRewind_outgoing
  | releaseMark l tag p => exact keepsLinks_request handleReleaseMark_outgoing
  | flushQueue l tag p => exact keepsLinks_request handleFlushQueue_outgoing
  | clearDiscrepancy l tag p => exact keepsLinks_request fun _ _ => rfl
  | sessionStatus l tag p => exact keepsLinks_request (hsame handleSessionStatus_state)
  | portStatus l tag p => exact keepsLinks_request (hsame handlePortStatus_state)
  | readTariff l tag p => exact keepsLinks_request (hsame handleReadTariff_state)
  | receiptCopy l tag p => exact keepsLinks_request (hsame handleReceiptCopy_state)
  | queueStatus l tag p => exact keepsLinks_request (hsame handleQueueStatus_state)
  | readDiscrepancy l tag p => exact keepsLinks_request (hsame handleReadDiscrepancy_state)
  | siteStatus l tag p => exact keepsLinks_request (hsame handleSiteStatus_state)
  | allocStatus l tag p => exact keepsLinks_request (hsame handleAllocStatus_state)
  | unitStatus l tag p => exact keepsLinks_request (hsame handleUnitStatus_state)
  | receivedByte l b => exact absurd rfl (hb l b)
  | activationEvent =>
    simp only [exec, execActivationEvent]
    split
    · exact keepsLinks_nothing
    · exact keepsLinks_done_of_outgoing (foldl_outgoing _ State.freeVend_outgoing _)
  | reclassification =>
    simp only [exec, execReclassification]
    split
    · exact keepsLinks_done_of_outgoing (foldl_outgoing _ (fun _ _ => State.reclassify_outgoing ..) _)
    · exact keepsLinks_nothing
  | allocationResultSessions | restoreTimerExpiry =>
    simp only [exec, execAllocationResultSessions, execRestoreTimerExpiry]
    split
    · exact keepsLinks_done_of_outgoing (by simp)
    · exact keepsLinks_nothing
  | interByteTimeout _ | frameDiscard _ | chargerReport _ | chargerTarget _ | readingApplied _ | siteStateChangeSessions
  | chargerHealthChange _ | reportArrival _ | staleTimerExpiry _ | unitHealthChange _ | dischargeAllowanceChange
  | roundPeriodExpiry | spacingTimerExpiry | resultApplied | allocationResultField | allocationResultDispatch
  | batteryReport | batteryFreshnessChange | siteStateChangeDispatch | readingApplication _ | handOver | roomEvent =>
    simp only [exec, execInterByteTimeout, execFrameDiscard, execChargerReport, execChargerTarget, execReadingApplied,
      execSiteStateChangeSessions, execChargerHealthChange, execReportArrival, execStaleTimerExpiry,
      execUnitHealthChange, execDischargeAllowanceChange, execRoundPeriodExpiry, execSpacingTimerExpiry,
      execResultApplied, execAllocationResultField, execAllocationResultDispatch, execBatteryReport,
      execBatteryFreshnessChange, execSiteStateChangeDispatch, execReadingApplication, execHandOver, execRoomEvent]
    split
    · exact keepsLinks_nothing
    · exact keepsLinks_done_of_outgoing (by simp)
  | earlyRequest | siteStateChangeStore =>
    simp only [exec, execEarlyRequest, execSiteStateChangeStore]
    split
    · exact keepsLinks_nothing
    · refine keepsLinks_done_of_outgoing ?_
      split <;> simp
  | storeFree =>
    simp only [exec, execStoreFree]
    split
    · exact keepsLinks_nothing
    · split
      · refine keepsLinks_done_of_outgoing ((State.priceHead_outgoing ..).trans ?_)
        split <;> rfl
      · exact keepsLinks_done_of_outgoing rfl
  | pollEnd | replyTimeout | fallbackHoldExpiry _ =>
    simp only [exec, execPollEnd, execReplyTimeout, execFallbackHoldExpiry]
    split
    · exact keepsLinks_nothing
    · split
      · exact keepsLinks_nothing
      · exact keepsLinks_done_of_outgoing (by simp)
  | authorizationTimeout _ | dormantTimeout _ | idleSecondTick _ | closingTimeout _ | dispatchHandover | erasingEnd
  | writingEnd | operationCompletion _ =>
    simp only [exec, execAuthorizationTimeout, execDormantTimeout, execIdleSecondTick, execClosingTimeout,
      execDispatchHandover, execErasingEnd, execWritingEnd, execOperationCompletion]
    split
    · exact keepsLinks_nothing
    · split
      · exact keepsLinks_done_of_outgoing (by simp)
      · exact keepsLinks_nothing
  | fieldReply f =>
    simp only [exec, execFieldReply]
    split
    · exact keepsLinks_nothing
    · split
      · exact keepsLinks_nothing
      · refine keepsLinks_done_of_outgoing ?_
        split <;> simp

/-- R161: a byte is gathered, discarded with its frame, or completes a frame, which is the request of its kind. -/
theorem keepsLinks_receivedByte (l : Link) (b : Byte) : KeepsLinks s (execReceivedByte l b s) := by
  unfold execReceivedByte
  split
  · split
    · exact keepsLinks_done_of_outgoing (s.collect_outgoing l [])
    · exact keepsLinks_nothing
  · split
    · exact keepsLinks_done_of_outgoing (s.collect_outgoing l _)
    · exact keepsLinks_done_of_outgoing (s.frameEnd_outgoing l)
    · next kind tag payload _ =>
      obtain ⟨i, hi, e⟩ | e := completeFrame_cases l kind tag payload s
      · exact e ▸ keepsLinks_exec_of_ne i hi
      · exact e ▸ keepsLinks_done fun hs => State.wf_unknownFrame hs l kind tag

theorem keepsLinks_exec (i : Instr) : KeepsLinks s (exec i s) := by
  by_cases hi : ∃ l b, i = .receivedByte l b
  · obtain ⟨l, b, rfl⟩ := hi
    exact keepsLinks_receivedByte l b
  · exact keepsLinks_exec_of_ne i fun l b e => hi ⟨l, b, e⟩

end

/-- Settles O51: a step is a command, which completes and keeps the links, or leaves them alone. -/
theorem everyStepCompletesAndKeepsTheLinks : Obligations.EveryStepCompletesAndKeepsTheLinks := by
  intro s
  unfold step
  split
  · exact ⟨s.idle, rfl, And.intro⟩
  · next c rest _ => exact keepsLinks_exec (s := { s with pending := rest }) c

end Sys2Proof.Machine

namespace Sys2Proof.Machine

/-! ## The site clock (R170) -/

/-- Settles O6: the tick by the meaning of its command, SET_TIME as a request its owner answers. -/
theorem siteClockTicksAndIsSet : Obligations.SiteClockTicksAndIsSet :=
  fun _ => ⟨rfl, fun _ _ htime hl => serve_site_answered _ _ _ hl rfl (if_pos htime)⟩

/-! ## The receiver (R161) -/

/-! ### What the bytes gathered make -/

section
variable {n : Byte} {rest body check : List Byte}

theorem gathering_badLength (h : n.toNat < 2 ∨ 242 < n.toNat) : gathering (n :: rest) = .discard := if_pos h

theorem gathering_short (h2 : 2 ≤ n.toNat) (h242 : n.toNat ≤ 242) (h : rest.length < n.toNat + 2) :
    gathering (n :: rest) = .goesOn := by
  rw [gathering, if_neg (by omega), if_pos h]

theorem gathering_wrongCheck (h2 : 2 ≤ n.toNat) (h242 : n.toNat ≤ 242) (hbody : body.length = n.toNat)
    (hcheck : check.length = 2) (hwrong : check ≠ checkBytes (crc16 (n :: body))) :
    gathering (n :: (body ++ check)) = .discard := by
  have hlong : ¬ (body ++ check).length < n.toNat + 2 := by rw [List.length_append]; omega
  rw [gathering, if_neg (by omega), if_neg hlong, List.take_left' hbody, List.drop_left' hbody, if_neg hwrong]

theorem gathering_complete {kind tag : Byte} {payload : List Byte} (hn : n.toNat = payload.length + 2)
    (h242 : n.toNat ≤ 242) (hcheck : check = checkBytes (crc16 (n :: kind :: tag :: payload))) :
    gathering (n :: kind :: tag :: (payload ++ check)) = .complete kind tag payload := by
  have hbody : (kind :: tag :: payload).length = n.toNat := hn.symm
  have htake : (kind :: tag :: (payload ++ check)).take n.toNat = kind :: tag :: payload := List.take_left' hbody
  have hdrop : (kind :: tag :: (payload ++ check)).drop n.toNat = check := List.drop_left' hbody
  have hlong : ¬ (kind :: tag :: (payload ++ check)).length < n.toNat + 2 := by
    have := congrArg List.length hcheck
    simp only [checkBytes_length] at this
    simp only [List.length_cons, List.length_append]
    omega
  rw [gathering, if_neg (by omega), if_neg hlong, htake, hdrop, if_pos hcheck]

end

/-! ### What a byte makes of a receiver -/

section
variable {l : Link} {s : State} {bytes : List Byte} {expiry : ℕ} {b : Byte}

theorem execReceivedByte_goesOn (hr : (s.links.port l).receiver = .collecting bytes expiry)
    (h : gathering (bytes ++ [b]) = .goesOn) : execReceivedByte l b s = done (s.collect l (bytes ++ [b])) := by
  simp only [execReceivedByte, hr, h]

theorem execReceivedByte_discard (hr : (s.links.port l).receiver = .collecting bytes expiry)
    (h : gathering (bytes ++ [b]) = .discard) : execReceivedByte l b s = done (s.frameEnd l) := by
  simp only [execReceivedByte, hr, h]

theorem execReceivedByte_complete {kind tag : Byte} {payload : List Byte}
    (hr : (s.links.port l).receiver = .collecting bytes expiry)
    (h : gathering (bytes ++ [b]) = .complete kind tag payload) :
    execReceivedByte l b s = completeFrame l kind tag payload s := by
  simp only [execReceivedByte, hr, h]

theorem execReceivedByte_start (hr : (s.links.port l).receiver = .hunting) :
    execReceivedByte l 0xA5#8 s = done (s.collect l []) := by
  simp only [execReceivedByte, hr, if_true]

theorem execReceivedByte_hunting (hr : (s.links.port l).receiver = .hunting) (hb : b ≠ 0xA5#8) :
    execReceivedByte l b s = .next s := by
  simp only [execReceivedByte, hr, if_neg hb, nothing]

theorem execInterByteTimeout_collecting (hr : (s.links.port l).receiver = .collecting bytes expiry) :
    execInterByteTimeout l s = done ((s.reach expiry).frameEnd l) := by
  simp only [execInterByteTimeout, hr]

theorem execFrameDiscard_collecting (hr : (s.links.port l).receiver = .collecting bytes expiry) :
    execFrameDiscard l s = done (s.frameEnd l) := by
  simp only [execFrameDiscard, hr]

end

/-- Settles O2: each clause by what the bytes gathered with the new one make. -/
theorem receiverCollectsAndDiscards : Obligations.ReceiverCollectsAndDiscards := by
  intro l s bytes expiry
  refine ⟨fun hr => ⟨fun b hb => execReceivedByte_hunting hr hb, execReceivedByte_start hr⟩,
    fun hr => ⟨execInterByteTimeout_collecting hr, execFrameDiscard_collecting hr, ?_, ?_, ?_, ?_⟩⟩
  · intro n hnone hbad
    exact execReceivedByte_discard hr (by rw [hnone]; exact gathering_badLength hbad)
  · intro n body check hbytes h2 h242 hbody b hwrong
    refine execReceivedByte_discard hr ?_
    rw [hbytes, List.cons_append, List.append_assoc]
    exact gathering_wrongCheck h2 h242 hbody rfl hwrong
  · intro b n rest hbytes h2 h242 hshort
    exact execReceivedByte_goesOn hr (by rw [hbytes]; exact gathering_short h2 h242 hshort)
  · intro n kind tag payload check b hbytes hn h242 hcheck
    refine execReceivedByte_complete hr ?_
    rw [hbytes, List.cons_append, List.cons_append, List.cons_append, List.append_assoc]
    exact gathering_complete hn h242 hcheck

/-! ## The checks of a complete frame (R162, R164 to R166) -/

/-- What R165 and R166 say of a kind: whether the till may send it, and in which part state it is allowed. -/
abbrev KindIs (kind : Byte) (till : Bool) (al : Allowed) : Prop :=
  (till = true ↔ kind ∈ tillKinds) ∧ (al = .liveOnly ↔ kind ∈ liveOnlyKinds) ∧ (al = .setupOnly ↔ kind ∈ setupOnlyKinds)

/-- A request is served on its link under its kind, whatever its owner makes of it. -/
inductive IsServed (c : Instr) (h : RequestHead) : Prop where
  | intro {α : Type} {till : Bool} {al : Allowed} {g : State → α → Bool} {handle : State → α → Handled} {p : Payload α}
      (hexec : ∀ s, exec c s = serve h.link h.kind h.tag till al g handle p s) (hfits : h.fits = fitting p)
      (hkind : KindIs h.kind till al)

theorem IsServed.of_serve {α : Type} {c : Instr} {l : Link} {kind tag : Byte} {till : Bool} {al : Allowed}
    {g : State → α → Bool} {handle : State → α → Handled} {p : Payload α}
    (hexec : ∀ s, exec c s = serve l kind tag till al g handle p s) (hkind : KindIs kind till al) :
    IsServed c ⟨l, kind, tag, fitting p⟩ := .intro hexec rfl hkind

/-- R164 to R166: the three lists of kinds are the ones the requests' meanings go by. -/
theorem isServed {c : Instr} {h : RequestHead} (hc : requestHead c = some h) : IsServed c h := by
  cases c with
  | powerOnReset | interByteTimeout | frameDiscard | busyRefusal | unknownKind | transmitEnd | siteClockTick | pollEnd
  | fieldReply | replyTimeout | chargerReport | chargerTarget | readingApplied | authorizationTimeout | dormantTimeout
  | idleSecondTick | closingTimeout | allocationResultSessions | reclassification | siteStateChangeSessions
  | chargerHealthChange | activationEvent | reportArrival | staleTimerExpiry | unitHealthChange | fallbackHoldExpiry
  | restoreTimerExpiry | dischargeAllowanceChange | earlyRequest | roundPeriodExpiry | spacingTimerExpiry | resultApplied
  | allocationResultField | allocationResultDispatch | batteryReport | batteryFreshnessChange | siteStateChangeDispatch
  | dispatchHandover | readingApplication | erasingEnd | writingEnd | operationCompletion | siteStateChangeStore | handOver
  | storeFree | roomEvent | receivedByte => cases hc
  | _ =>
    cases hc
    exact .of_serve (fun _ => rfl) (by decide)

/-! ### Refusals -/

section
variable {s : State} {l : Link}

theorem done_refuseBusy_frameEnd (s : State) (l : Link) (kind tag : Byte) :
    done ((s.frameEnd l).refuseBusy l kind tag) = .next (s.refusedBusy l kind tag) := by
  cases l <;>
  · simp only [State.frameEnd, LinkController.port, LinkController.setPort, State.refuseBusy, done, State.settle,
      State.refusedBusy, State.setLinks]
    split <;> simp_all

theorem execBusyRefusal_held (hl : ¬ s.slotFree l) (kind tag : Byte) :
    execBusyRefusal l kind tag s = .next (s.refusedBusy l kind tag) := by
  unfold execBusyRefusal
  split
  · next hfree => exact absurd hfree hl
  · exact done_refuseBusy_frameEnd s l kind tag

theorem execUnknownKind_free (hl : s.slotFree l) {kind : Byte} (hkind : isRequestKind kind = false) (tag : Byte) :
    execUnknownKind l kind tag s = .next (s.replied l kind tag .unknownKind []) := by
  have hfree : (s.frameEnd l).slotFree l := slotFree_of_outgoing (s.frameEnd_outgoing l) hl
  have hfree' : ((s.frameEnd l).links.port l).slot = none := hfree
  simp only [execUnknownKind, hkind, State.unknownFrame, hfree']
  exact done_place_frameEnd ..

section
variable {α : Type} {till : Bool} {al : Allowed} {g : State → α → Bool} {handle : State → α → Handled} {p : Payload α}

/-- R166: a kind that the till may not send. -/
theorem serve_notPermitted (hl : s.slotFree .till) (kind tag : Byte) (h : till = false) :
    serve .till kind tag till al g handle p s = .next (s.replied .till kind tag .notPermitted []) :=
  serve_refused _ _ _ _ _ _ _ _ _ _ hl (if_pos ⟨rfl, h⟩)

/-- R164 step 3: before the part state is looked at. -/
theorem serve_badLength (hl : s.slotFree l) (kind tag : Byte) (hfrom : l = .till → till = true) (h : fitting p = false) :
    serve l kind tag till al g handle p s = .next (s.replied l kind tag .badLength []) := by
  refine serve_refused _ _ _ _ _ _ _ _ _ _ hl ?_
  cases p with
  | fits f => cases h
  | misfit => exact if_neg fun ⟨hl, ht⟩ => by simp [hfrom hl] at ht

/-- R165: a kind that the part state does not allow. -/
theorem serve_wrongPart (hl : s.slotFree l) (kind tag : Byte) (hfrom : l = .till → till = true) (h : fitting p = true)
    {status : Status} (hpart : al.refusal s.links.part = some status) :
    serve l kind tag till al g handle p s = .next (s.replied l kind tag status []) := by
  refine serve_refused _ _ _ _ _ _ _ _ _ _ hl ?_
  have hpart' : al.refusal (s.frameEnd l).links.part = some status := by rwa [State.frameEnd_part]
  cases p with
  | misfit => cases h
  | fits f =>
    rw [answer, if_neg fun ⟨hl, ht⟩ => by simp [hfrom hl] at ht]
    simp only [hpart']

/-- R166: an AUTHORIZE from the till without the grant, or for a port outside the till range. -/
theorem serve_notGranted {f : α} (hl : s.slotFree .till) (kind tag : Byte) (hal : al.refusal s.links.part = none)
    (hg : g (s.frameEnd .till) f = false) :
    serve .till kind tag true al g handle (.fits f) s = .next (s.replied .till kind tag .notPermitted []) := by
  refine serve_refused _ _ _ _ _ _ _ _ _ _ hl ?_
  simp [answer, hal, hg]

end

theorem tillGrant_eq_false {f : AuthorizeFields}
    (h : s.links.tillGrant = false ∨ f.port < s.links.tillFirst ∨ s.links.tillLast < f.port) : tillGrant s f = false := by
  rw [tillGrant, Bool.and_eq_false_iff]
  exact h.imp_right fun h => decide_eq_false (by omega)

/-! ### Every request kind is the kind of a request (R175) -/

/-- One request of each kind. -/
def requestOfEachKind : List Instr :=
  [.setSite .site 0 .misfit, .setFeeder .site 0 .misfit, .setPort .site 0 .misfit, .setUnit .site 0 .misfit,
   .setBatteryPolicy .site 0 .misfit, .setTimers .site 0 .misfit, .setWatermarks .site 0 .misfit,
   .setNoticeRoute .site 0 .misfit, .setTillAccess .site 0 .misfit, .setQueueLevels .site 0 .misfit,
   .setTime .site 0 .misfit, .goLive .site 0 .misfit, .restart .site 0 .misfit, .authorize .site 0 .misfit,
   .holdPort .site 0 .misfit, .releasePort .site 0 .misfit, .stopSession .site 0 .misfit, .setDeparture .site 0 .misfit,
   .sessionStatus .site 0 .misfit, .portStatus .site 0 .misfit, .linkPurchase .site 0 .misfit,
   .programTariff .site 0 .misfit, .eraseTariff .site 0 .misfit, .activateTariff .site 0 .misfit,
   .readTariff .site 0 .misfit, .readReceipt .site 0 .misfit, .setMark .site 0 .misfit, .rewind .site 0 .misfit,
   .releaseMark .site 0 .misfit, .flushQueue .site 0 .misfit, .receiptCopy .site 0 .misfit, .queueStatus .site 0 .misfit,
   .readDiscrepancy .site 0 .misfit, .clearDiscrepancy .site 0 .misfit, .siteStatus .site 0 .misfit,
   .allocStatus .site 0 .misfit, .unitStatus .site 0 .misfit]

theorem isRequestKind_mem : ∀ kind : Byte, isRequestKind kind = true →
    kind ∈ (requestOfEachKind.filterMap requestHead).map RequestHead.kind := by decide

theorem not_isRequestKind {kind : Byte} (h : ∀ c h, requestHead c = some h → h.kind ≠ kind) :
    isRequestKind kind = false := by
  rw [← Bool.not_eq_true]
  intro hkind
  obtain ⟨head, hhead, e⟩ := List.mem_map.1 (isRequestKind_mem kind hkind)
  obtain ⟨c, -, hc⟩ := List.mem_filterMap.1 hhead
  exact h c head hc e

end

/-- Settles O4: each request is served under its kind, and each check of R164 answers for every request at once. -/
theorem requestsAreCheckedInOrder : Obligations.RequestsAreCheckedInOrder := by
  refine ⟨⟨fun l kind tag s hl => execBusyRefusal_held hl kind tag, fun c h s hc hl => ?_⟩,
    fun l kind tag s hl hkind => execUnknownKind_free hl (not_isRequestKind hkind) tag,
    ⟨fun c h s hc htill hkind hl => ?_, fun tag f s hl hpart hgrant => ?_⟩, fun c h s hc hl hfrom => ?_⟩
  · obtain ⟨hexec, -, -⟩ := isServed hc
    rw [hexec, serve_held _ _ _ _ _ _ _ _ _ hl]
  · obtain ⟨hexec, -, hlist, -⟩ := isServed hc
    rw [hexec, htill]
    exact serve_notPermitted hl _ _ (by rwa [← Bool.not_eq_true, hlist])
  · exact serve_notGranted hl _ _ (Allowed.liveOnly_live hpart) ((tillGrant_frameEnd s .till f).trans (tillGrant_eq_false hgrant))
  · obtain @⟨_, till, al, _, _, _, hexec, hfits, hlist, hlive, hsetup⟩ := isServed hc
    have hmay : h.link = .till → till = true := fun htill => by
      rw [hlist]
      exact hfrom.resolve_left (by simp [htill])
    refine ⟨fun hf => ?_, fun hf hpart hkind => ?_, fun hf hpart hkind => ?_⟩
    · exact (hexec s).trans (serve_badLength hl _ _ hmay (hfits ▸ hf))
    · exact (hexec s).trans (serve_wrongPart hl _ _ hmay (hfits ▸ hf) (by rw [hlive.2 hkind, hpart]; rfl))
    · exact (hexec s).trans (serve_wrongPart hl _ _ hmay (hfits ▸ hf) (by rw [hsetup.2 hkind, hpart]; rfl))

end Sys2Proof.Machine

namespace Sys2Proof.Machine

/-! ## A request read back from its bytes (R174, R176, R177) -/

/-! ### Numbers and texts -/

theorem mem_of_mem_rowsFrom {cells : List (ℕ × ℕ)} {o : ℕ} {x : ℕ × ℕ × ℕ} (h : x ∈ rowsFrom o cells) : x.2 ∈ cells := by
  induction cells generalizing o with
  | nil => cases h
  | cons c cells ih =>
    obtain h | h := List.mem_cons.1 h
    · rw [h]; exact List.mem_cons_self
    · exact List.mem_cons_of_mem _ (ih h)

/-- Numbers within their sizes are read back from where they stand. -/
theorem fields_of_packed {bytes rest : List Byte} {cells : List (ℕ × ℕ)} (hb : bytes = packed cells ++ rest)
    (hw : ∀ c ∈ cells, c.2 < 256 ^ c.1) : ∀ x ∈ rowsFrom 0 cells, field bytes x.1 x.2.1 = x.2.2 := fun x hx =>
  (Laid.of_packed hb (fun _ => id) x hx).trans (Nat.mod_eq_of_lt (hw _ (mem_of_mem_rowsFrom hx)))

theorem fixedPayload_packed {α : Type} {bytes : List Byte} {cells : List (ℕ × ℕ)} {read : List Byte → α} {f : α} {n : ℕ}
    (hb : bytes = packed cells) (hn : (cells.map Prod.fst).sum = n) (hw : ∀ c ∈ cells, c.2 < 256 ^ c.1)
    (hread : (∀ x ∈ rowsFrom 0 cells, field bytes x.1 x.2.1 = x.2.2) → read bytes = f) :
    fixedPayload n read bytes = .fits f := by
  have hlength : bytes.length = n := by rw [hb, packed_length, hn]
  rw [fixedPayload, if_pos hlength, hread (fields_of_packed (by rw [hb, List.append_nil]) hw)]

/-- R174: a text that a frame can carry is read back; its length is never 0xFF, which stands for an absent one. -/
theorem lastText_textBytes {n : ℕ} {t : Text} (h : t.wf n = true) : lastText (textBytes t) = some t := by
  cases t with
  | none => rfl
  | some bytes =>
    have hlength : n + 1 + bytes.length ≤ 240 := of_decide_eq_true h
    have hbyte : (byte bytes.length).toNat = bytes.length := by
      rw [byte, BitVec.toNat_ofNat]; exact Nat.mod_eq_of_lt (by omega)
    have hpresent : byte bytes.length ≠ 0xFF#8 := fun e => by
      rw [e] at hbyte
      have : (0xFF#8).toNat = 255 := rfl
      omega
    simp only [textBytes, lastText, if_neg hpresent, hbyte, if_true]

theorem textPayload_packed {α : Type} {bytes : List Byte} {cells : List (ℕ × ℕ)} {t : Text} {read : List Byte → Text → α}
    {f : α} {n : ℕ} (hb : bytes = packed cells ++ textBytes t) (hn : (cells.map Prod.fst).sum = n)
    (hw : ∀ c ∈ cells, c.2 < 256 ^ c.1) (ht : t.wf n = true)
    (hread : (∀ x ∈ rowsFrom 0 cells, field bytes x.1 x.2.1 = x.2.2) → read bytes t = f) :
    textPayload n read bytes = .fits f := by
  have hfront : (packed cells).length = n := by rw [packed_length, hn]
  have hlong : ¬ bytes.length < n := by rw [hb, List.length_append]; omega
  have hdrop : bytes.drop n = textBytes t := by rw [hb]; exact List.drop_left' hfront
  rw [textPayload, if_neg hlong, hdrop, lastText_textBytes ht]
  simp only [hread (fields_of_packed hb hw)]

/-! ### Each layout -/

theorem emptyOf_nil : emptyOf [] = .fits () := rfl

theorem numberOf_le {k n : ℕ} (h : fitsBytes k n = true) : numberOf k (le k n) = .fits n := by
  refine fixedPayload_packed (cells := [(k, n)]) (by simp [packed_cons, packed_nil]) (by simp) (by simpa using h) fun hr => ?_
  simpa [rowsFrom] using hr

theorem siteOf_siteFieldBytes {f : SiteFields} (h : f.wf = true) : siteOf (siteFieldBytes f) = .fits f := by
  refine fixedPayload_packed (cells := [(2, f.importLimit), (2, f.margin), (2, f.exportLimit), (2, f.storePeak),
    (2, f.fallback), (4, f.nextReceipt)]) (by simp [siteFieldBytes, packed_cons, packed_nil]) rfl
    (by simpa [SiteFields.wf, and_assoc] using h) fun hr => ?_
  simp [rowsFrom] at hr
  simp [hr]

theorem feederOf_feederFieldBytes {f : FeederFields} (h : f.wf = true) : feederOf (feederFieldBytes f) = .fits f := by
  refine fixedPayload_packed (cells := [(1, f.feeder), (2, f.cap)]) (by simp [feederFieldBytes, packed_cons, packed_nil])
    rfl (by simpa [FeederFields.wf] using h) fun hr => ?_
  simp [rowsFrom] at hr
  simp [hr]

theorem portOf_portFieldBytes {f : PortFields} (h : f.wf = true) : portOf (portFieldBytes f) = .fits f := by
  refine fixedPayload_packed (cells := [(1, f.port), (1, f.present), (1, f.feeder), (1, f.cls), (2, f.ratedMax),
    (1, f.minimum), (1, f.address), (1, f.freeVend)]) (by simp [portFieldBytes, packed_cons, packed_nil]) rfl
    (by simpa [PortFields.wf, and_assoc] using h) fun hr => ?_
  simp [rowsFrom] at hr
  simp [hr]

theorem unitOf_unitFieldBytes {f : UnitFields} (h : f.wf = true) : unitOf (unitFieldBytes f) = .fits f := by
  refine fixedPayload_packed (cells := [(1, f.kind), (1, f.inverter), (1, f.address), (4, f.rated), (1, f.present)])
    (by simp [unitFieldBytes, packed_cons, packed_nil]) rfl (by simpa [UnitFields.wf, and_assoc] using h) fun hr => ?_
  simp [rowsFrom] at hr
  simp [hr]

theorem policyOf_policyFieldBytes {f : PolicyFields} (h : f.wf = true) : policyOf (policyFieldBytes f) = .fits f := by
  refine fixedPayload_packed (cells := [(2, f.hardFloor), (2, f.softReserve), (2, f.fullLimit), (4, f.dischargeCap),
    (4, f.chargeCap), (4, f.topUp)]) (by simp [policyFieldBytes, packed_cons, packed_nil]) rfl
    (by simpa [PolicyFields.wf, and_assoc] using h) fun hr => ?_
  simp [rowsFrom] at hr
  simp [hr]

theorem timersOf_timerFieldBytes {f : TimerFields} (h : f.wf = true) : timersOf (timerFieldBytes f) = .fits f := by
  refine fixedPayload_packed (cells := [(2, f.authorization), (2, f.dormant), (2, f.closing), (2, f.stale), (2, f.restore),
    (2, f.fallbackHold), (2, f.period), (2, f.reply)]) (by simp [timerFieldBytes, packed_cons, packed_nil]) rfl
    (by simpa [TimerFields.wf, and_assoc] using h) fun hr => ?_
  simp [rowsFrom] at hr
  simp [hr]

theorem watermarksOf_watermarkFieldBytes {f : WatermarkFields} (h : f.wf = true) :
    watermarksOf (watermarkFieldBytes f) = .fits f := by
  refine fixedPayload_packed (cells := [(1, f.high), (1, f.urgent)])
    (by simp [watermarkFieldBytes, packed_cons, packed_nil]) rfl (by simpa [WatermarkFields.wf] using h) fun hr => ?_
  simp [rowsFrom] at hr
  simp [hr]

theorem noticeRouteOf_routeFieldBytes {f : RouteFields} (h : f.wf = true) : noticeRouteOf (routeFieldBytes f) = .fits f := by
  refine fixedPayload_packed (cells := [(1, f.kind), (1, f.route), (1, f.priority)])
    (by simp [routeFieldBytes, packed_cons, packed_nil]) rfl (by simpa [RouteFields.wf, and_assoc] using h) fun hr => ?_
  simp [rowsFrom] at hr
  simp [hr]

theorem tillOf_tillFieldBytes {f : TillFields} (h : f.wf = true) : tillOf (tillFieldBytes f) = .fits f := by
  refine fixedPayload_packed (cells := [(1, f.grant), (1, f.first), (1, f.last)])
    (by simp [tillFieldBytes, packed_cons, packed_nil]) rfl (by simpa [TillFields.wf, and_assoc] using h) fun hr => ?_
  simp [rowsFrom] at hr
  simp [hr]

theorem levelsOf_levelFieldBytes {f : LevelFields} (h : f.wf = true) : levelsOf (levelFieldBytes f) = .fits f := by
  refine fixedPayload_packed (cells := [(1, f.notify), (1, f.high)]) (by simp [levelFieldBytes, packed_cons, packed_nil])
    rfl (by simpa [LevelFields.wf] using h) fun hr => ?_
  simp [rowsFrom] at hr
  simp [hr]

theorem authorizeOf_authorizeFieldBytes {f : AuthorizeFields} (h : f.wf = true) :
    authorizeOf (authorizeFieldBytes f) = .fits f := by
  simp only [AuthorizeFields.wf, Bool.and_eq_true] at h
  refine textPayload_packed (cells := [(1, f.port), (4, f.departure)])
    (by simp [authorizeFieldBytes, packed_cons, packed_nil]) rfl (by simpa using h.1) h.2 fun hr => ?_
  simp [rowsFrom] at hr
  simp [hr]

theorem setDepartureOf_departureFieldBytes {f : DepartureFields} (h : f.wf = true) :
    setDepartureOf (departureFieldBytes f) = .fits f := by
  refine fixedPayload_packed (cells := [(2, f.session), (4, f.departure)])
    (by simp [departureFieldBytes, packed_cons, packed_nil]) rfl (by simpa [DepartureFields.wf] using h) fun hr => ?_
  simp [rowsFrom] at hr
  simp [hr]

theorem purchaseOf_purchaseFieldBytes {f : PurchaseFields} (h : f.wf = true) :
    purchaseOf (purchaseFieldBytes f) = .fits f := by
  simp only [PurchaseFields.wf, Bool.and_eq_true] at h
  refine textPayload_packed (cells := [(2, f.session), (3, f.amount)])
    (by simp [purchaseFieldBytes, packed_cons, packed_nil]) rfl (by simpa using h.1) h.2 fun hr => ?_
  simp [rowsFrom] at hr
  simp [hr]

theorem programOf_programFieldBytes {f : ProgramFields} (h : f.wf = true) : programOf (programFieldBytes f) = .fits f := by
  simp only [ProgramFields.wf, TariffFields.wf, Bool.and_eq_true] at h
  obtain ⟨hslot, hrecord, hlabel⟩ := h
  refine textPayload_packed (cells := [(1, f.slot), (2, f.record.id), (2, f.record.solarRate), (2, f.record.batteryRate),
    (2, f.record.gridRate), (1, f.record.idleGrace), (2, f.record.idleRate), (3, f.record.idleCap), (3, f.record.step),
    (2, f.record.perStep), (3, f.record.allowanceCap)])
    (by simp [programFieldBytes, tariffFieldBytes, packed_cons, packed_nil]) rfl
    (by simpa [and_assoc] using And.intro hslot hrecord) hlabel fun hr => ?_
  simp [rowsFrom] at hr
  simp [tariffAt, hr]

theorem copyOf_copyFieldBytes {f : CopyFields} (h : f.wf = true) : copyOf (copyFieldBytes f) = .fits f := by
  refine fixedPayload_packed (cells := [(1, f.selector), (2, f.value)]) (by simp [copyFieldBytes, packed_cons, packed_nil])
    rfl (by simpa [CopyFields.wf] using h) fun hr => ?_
  simp [rowsFrom] at hr
  simp [hr]

/-! ### Each request -/

/-- A payload that a frame carries is read back, when its layout is. -/
theorem reads_back {α : Type} {lay : α → List Byte} {read : List Byte → Payload α} {check : α → Bool} {p : Payload α}
    {payload : List Byte} (hread : ∀ {f}, check f = true → read (lay f) = .fits f) (hw : p.wf check = true)
    (hp : payloadBytes lay p = some payload) : read payload = p := by
  cases p with
  | misfit => cases hp
  | fits f => cases hp; exact hread hw

theorem reads_back_empty {p : Payload Unit} {payload : List Byte} (hp : payloadBytes (fun _ => []) p = some payload) :
    emptyOf payload = p := by
  cases p with
  | misfit => cases hp
  | fits f => cases hp; rfl

/-- R164, R175, R176: the complete frame of a request is the request. -/
theorem completeFrame_request {c : Instr} {h : RequestHead} {payload : List Byte} (hw : c.wf = true)
    (hc : requestHead c = some h) (hp : requestPayload c = some payload) (s : State) :
    completeFrame h.link h.kind h.tag payload s = exec c s := by
  cases c with
  | setSite l tag p => cases hc; exact congrArg (execSetSite l tag · s) (reads_back siteOf_siteFieldBytes hw hp)
  | setFeeder l tag p => cases hc; exact congrArg (execSetFeeder l tag · s) (reads_back feederOf_feederFieldBytes hw hp)
  | setPort l tag p => cases hc; exact congrArg (execSetPort l tag · s) (reads_back portOf_portFieldBytes hw hp)
  | setUnit l tag p => cases hc; exact congrArg (execSetUnit l tag · s) (reads_back unitOf_unitFieldBytes hw hp)
  | setBatteryPolicy l tag p =>
    cases hc; exact congrArg (execSetBatteryPolicy l tag · s) (reads_back policyOf_policyFieldBytes hw hp)
  | setTimers l tag p => cases hc; exact congrArg (execSetTimers l tag · s) (reads_back timersOf_timerFieldBytes hw hp)
  | setWatermarks l tag p =>
    cases hc; exact congrArg (execSetWatermarks l tag · s) (reads_back watermarksOf_watermarkFieldBytes hw hp)
  | setNoticeRoute l tag p =>
    cases hc; exact congrArg (execSetNoticeRoute l tag · s) (reads_back noticeRouteOf_routeFieldBytes hw hp)
  | setTillAccess l tag p => cases hc; exact congrArg (execSetTillAccess l tag · s) (reads_back tillOf_tillFieldBytes hw hp)
  | setQueueLevels l tag p =>
    cases hc; exact congrArg (execSetQueueLevels l tag · s) (reads_back levelsOf_levelFieldBytes hw hp)
  | setTime l tag p => cases hc; exact congrArg (execSetTime l tag · s) (reads_back numberOf_le hw hp)
  | goLive l tag p => cases hc; exact congrArg (execGoLive l tag · s) (reads_back_empty hp)
  | restart l tag p => cases hc; exact congrArg (execRestart l tag · s) (reads_back numberOf_le hw hp)
  | authorize l tag p =>
    cases hc; exact congrArg (execAuthorize l tag · s) (reads_back authorizeOf_authorizeFieldBytes hw hp)
  | holdPort l tag p => cases hc; exact congrArg (execHoldPort l tag · s) (reads_back numberOf_le hw hp)
  | releasePort l tag p => cases hc; exact congrArg (execReleasePort l tag · s) (reads_back numberOf_le hw hp)
  | stopSession l tag p => cases hc; exact congrArg (execStopSession l tag · s) (reads_back numberOf_le hw hp)
  | setDeparture l tag p =>
    cases hc; exact congrArg (execSetDeparture l tag · s) (reads_back setDepartureOf_departureFieldBytes hw hp)
  | sessionStatus l tag p => cases hc; exact congrArg (execSessionStatus l tag · s) (reads_back numberOf_le hw hp)
  | portStatus l tag p => cases hc; exact congrArg (execPortStatus l tag · s) (reads_back numberOf_le hw hp)
  | linkPurchase l tag p =>
    cases hc; exact congrArg (execLinkPurchase l tag · s) (reads_back purchaseOf_purchaseFieldBytes hw hp)
  | programTariff l tag p =>
    cases hc; exact congrArg (execProgramTariff l tag · s) (reads_back programOf_programFieldBytes hw hp)
  | eraseTariff l tag p => cases hc; exact congrArg (execEraseTariff l tag · s) (reads_back numberOf_le hw hp)
  | activateTariff l tag p => cases hc; exact congrArg (execActivateTariff l tag · s) (reads_back numberOf_le hw hp)
  | readTariff l tag p => cases hc; exact congrArg (execReadTariff l tag · s) (reads_back numberOf_le hw hp)
  | readReceipt l tag p => cases hc; exact congrArg (execReadReceipt l tag · s) (reads_back_empty hp)
  | setMark l tag p => cases hc; exact congrArg (execSetMark l tag · s) (reads_back_empty hp)
  | rewind l tag p => cases hc; exact congrArg (execRewind l tag · s) (reads_back_empty hp)
  | releaseMark l tag p => cases hc; exact congrArg (execReleaseMark l tag · s) (reads_back_empty hp)
  | flushQueue l tag p => cases hc; exact congrArg (execFlushQueue l tag · s) (reads_back_empty hp)
  | receiptCopy l tag p => cases hc; exact congrArg (execReceiptCopy l tag · s) (reads_back copyOf_copyFieldBytes hw hp)
  | queueStatus l tag p => cases hc; exact congrArg (execQueueStatus l tag · s) (reads_back_empty hp)
  | readDiscrepancy l tag p => cases hc; exact congrArg (execReadDiscrepancy l tag · s) (reads_back_empty hp)
  | clearDiscrepancy l tag p => cases hc; exact congrArg (execClearDiscrepancy l tag · s) (reads_back_empty hp)
  | siteStatus l tag p => cases hc; exact congrArg (execSiteStatus l tag · s) (reads_back numberOf_le hw hp)
  | allocStatus l tag p => cases hc; exact congrArg (execAllocStatus l tag · s) (reads_back numberOf_le hw hp)
  | unitStatus l tag p => cases hc; exact congrArg (execUnitStatus l tag · s) (reads_back numberOf_le hw hp)
  | _ => cases hc

/-- What the laws of the operands say of every request, its length in a frame among it. -/
theorem request_statement {c : Instr} {h : RequestHead} (hc : requestHead c = some h) : Laws.LinkOperands.Statement c := by
  cases c with
  | setSite l tag p => exact Laws.LinkOperands.setSite l tag p
  | setFeeder l tag p => exact Laws.LinkOperands.setFeeder l tag p
  | setPort l tag p => exact Laws.LinkOperands.setPort l tag p
  | setUnit l tag p => exact Laws.LinkOperands.setUnit l tag p
  | setBatteryPolicy l tag p => exact Laws.LinkOperands.setBatteryPolicy l tag p
  | setTimers l tag p => exact Laws.LinkOperands.setTimers l tag p
  | setWatermarks l tag p => exact Laws.LinkOperands.setWatermarks l tag p
  | setNoticeRoute l tag p => exact Laws.LinkOperands.setNoticeRoute l tag p
  | setTillAccess l tag p => exact Laws.LinkOperands.setTillAccess l tag p
  | setQueueLevels l tag p => exact Laws.LinkOperands.setQueueLevels l tag p
  | setTime l tag p => exact Laws.LinkOperands.setTime l tag p
  | goLive l tag p => exact Laws.LinkOperands.goLive l tag p
  | restart l tag p => exact Laws.LinkOperands.restart l tag p
  | authorize l tag p => exact Laws.LinkOperands.authorize l tag p
  | holdPort l tag p => exact Laws.LinkOperands.holdPort l tag p
  | releasePort l tag p => exact Laws.LinkOperands.releasePort l tag p
  | stopSession l tag p => exact Laws.LinkOperands.stopSession l tag p
  | setDeparture l tag p => exact Laws.LinkOperands.setDeparture l tag p
  | sessionStatus l tag p => exact Laws.LinkOperands.sessionStatus l tag p
  | portStatus l tag p => exact Laws.LinkOperands.portStatus l tag p
  | linkPurchase l tag p => exact Laws.LinkOperands.linkPurchase l tag p
  | programTariff l tag p => exact Laws.LinkOperands.programTariff l tag p
  | eraseTariff l tag p => exact Laws.LinkOperands.eraseTariff l tag p
  | activateTariff l tag p => exact Laws.LinkOperands.activateTariff l tag p
  | readTariff l tag p => exact Laws.LinkOperands.readTariff l tag p
  | readReceipt l tag p => exact Laws.LinkOperands.readReceipt l tag p
  | setMark l tag p => exact Laws.LinkOperands.setMark l tag p
  | rewind l tag p => exact Laws.LinkOperands.rewind l tag p
  | releaseMark l tag p => exact Laws.LinkOperands.releaseMark l tag p
  | flushQueue l tag p => exact Laws.LinkOperands.flushQueue l tag p
  | receiptCopy l tag p => exact Laws.LinkOperands.receiptCopy l tag p
  | queueStatus l tag p => exact Laws.LinkOperands.queueStatus l tag p
  | readDiscrepancy l tag p => exact Laws.LinkOperands.readDiscrepancy l tag p
  | clearDiscrepancy l tag p => exact Laws.LinkOperands.clearDiscrepancy l tag p
  | siteStatus l tag p => exact Laws.LinkOperands.siteStatus l tag p
  | allocStatus l tag p => exact Laws.LinkOperands.allocStatus l tag p
  | unitStatus l tag p => exact Laws.LinkOperands.unitStatus l tag p
  | _ => cases hc

theorem requestPayload_length {c : Instr} {h : RequestHead} {payload : List Byte} (hw : c.wf = true)
    (hc : requestHead c = some h) (hp : requestPayload c = some payload) : payload.length ≤ 240 := by
  obtain ⟨-, -, -, hlength⟩ := (request_statement hc).2 h hc
  exact hlength hw payload hp

/-! ## A frame byte by byte (R161) -/

section
variable {l : Link} {s t : State}

theorem LinkController.begin_receiver (c : LinkController) (p : LinkPort) (r : Receiver) :
    c.begin { p with receiver := r } = { c.begin p with receiver := r } := by
  have hnext : c.nextNotice { p with receiver := r } = c.nextNotice p := rfl
  have hentry : ∀ k, ({ p with receiver := r } : LinkPort).entry k = p.entry k := fun _ => rfl
  simp only [LinkController.begin, hnext, hentry]
  split
  · rfl
  · split
    · rfl
    · rfl
    · split <;> rfl
    · rfl

/-- A receiver gives no transmitter anything to send. -/
theorem LinkController.settled_setReceiver {c : LinkController} (h : c.Settled) (l : Link) (r : Receiver) :
    (c.setPort l { c.port l with receiver := r }).Settled := by
  have hsite : c.begin c.site = c.site := congrArg LinkController.site h
  have htill : c.begin c.till = c.till := congrArg LinkController.till h
  have hbegin : ∀ p, (c.setPort l { c.port l with receiver := r }).begin p = c.begin p :=
    LinkController.begin_congr (LinkController.setPort_routes ..)
  rw [LinkController.Settled, LinkController.settle, hbegin, hbegin]
  cases l
  · simp only [LinkController.setPort, LinkController.port, LinkController.begin_receiver, hsite, htill]
  · simp only [LinkController.setPort, LinkController.port, LinkController.begin_receiver, hsite, htill]

theorem done_collect (h : s.links.Settled) (l : Link) (gathered : List Byte) :
    done (s.collect l gathered) = .next (s.collect l gathered) :=
  congrArg (fun c => Host.Outcome.next (s.setLinks c)) (LinkController.settled_setReceiver h l _)

theorem State.receiver_collect (s : State) (l : Link) (gathered : List Byte) :
    ((s.collect l gathered).links.port l).receiver = .collecting gathered (s.runTime + 20) := by
  cases l <;> rfl

theorem State.collect_collect (s : State) (l : Link) (gathered more : List Byte) :
    (s.collect l gathered).collect l more = s.collect l more := by
  cases l <;> rfl

theorem State.frameEnd_collect (s : State) (l : Link) (gathered : List Byte) :
    (s.collect l gathered).frameEnd l = s.frameEnd l := by
  cases l <;> rfl

/-- A request does not see what its receiver gathered: its frame is taken off the line first. -/
theorem exec_collect {c : Instr} {h : RequestHead} (hc : requestHead c = some h) (s : State) (gathered : List Byte) :
    exec c (s.collect h.link gathered) = exec c s := by
  obtain ⟨hexec, -, -⟩ := isServed hc
  rw [hexec, hexec]
  simp only [serve, State.frameEnd_collect]

theorem feed_cons {b : Byte} {bytes : List Byte} (h : exec (.receivedByte l b) s = .next t) :
    feed l (b :: bytes) s = feed l bytes t := by
  simp only [feed, List.foldl_cons, h]

/-- The bytes of a frame that go on are gathered, and the last one completes it. -/
theorem feed_collect (hs : s.links.Settled) {kind tag last : Byte} {payload : List Byte} (bytes gathered : List Byte)
    (hon : ∀ more rest, bytes = more ++ rest → more ≠ [] → gathering (gathered ++ more) = .goesOn)
    (hlast : gathering (gathered ++ bytes ++ [last]) = .complete kind tag payload) :
    feed l (bytes ++ [last]) (s.collect l gathered) =
      completeFrame l kind tag payload (s.collect l (gathered ++ bytes)) := by
  induction bytes generalizing gathered with
  | nil =>
    rw [List.append_nil] at hlast ⊢
    exact execReceivedByte_complete (s.receiver_collect l gathered) hlast
  | cons b bytes ih =>
    have hb : exec (.receivedByte l b) (s.collect l gathered) = .next (s.collect l (gathered ++ [b])) :=
      calc execReceivedByte l b (s.collect l gathered)
        _ = done ((s.collect l gathered).collect l (gathered ++ [b])) :=
          execReceivedByte_goesOn (s.receiver_collect l gathered) (hon [b] bytes rfl (by simp))
        _ = .next (s.collect l (gathered ++ [b])) := by rw [s.collect_collect, done_collect hs]
    rw [List.cons_append, feed_cons hb, List.append_cons gathered b bytes]
    refine ih (gathered ++ [b]) (fun more rest e _ => ?_) ?_
    · rw [← List.append_cons]
      exact hon (b :: more) rest (by rw [e]; rfl) (by simp)
    · rw [← List.append_cons gathered b bytes]; exact hlast

/-- A frame that arrives on a HUNTING receiver reaches the request of its kind with its last byte. -/
theorem feed_frameBytes (hs : s.links.Settled) (hr : (s.links.port l).receiver = .hunting) (kind tag : Byte)
    {payload : List Byte} (hlength : payload.length ≤ 240) :
    ∃ gathered, feed l (frameBytes kind tag payload) s = completeFrame l kind tag payload (s.collect l gathered) := by
  let n := byte (payload.length + 2)
  have hn : n.toNat = payload.length + 2 := by
    rw [show n = byte (payload.length + 2) from rfl, byte, BitVec.toNat_ofNat]
    exact Nat.mod_eq_of_lt (by omega)
  obtain ⟨low, high, hcheck⟩ : ∃ low high, checkBytes (crc16 (n :: kind :: tag :: payload)) = [low, high] := ⟨_, _, rfl⟩
  let bytes := n :: kind :: tag :: (payload ++ [low])
  have hframe : frameBytes kind tag payload = 0xA5#8 :: (bytes ++ [high]) := by
    change 0xA5#8 :: (n :: kind :: tag :: payload ++ checkBytes (crc16 (n :: kind :: tag :: payload))) = _
    rw [hcheck]
    simp [bytes]
  have hstart : exec (.receivedByte l 0xA5#8) s = .next (s.collect l []) :=
    (execReceivedByte_start hr).trans (done_collect hs l [])
  refine ⟨bytes, ?_⟩
  rw [hframe, feed_cons hstart]
  refine feed_collect hs bytes [] (fun more rest e hmore => ?_) ?_
  · obtain ⟨m, more, rfl⟩ := List.exists_cons_of_ne_nil hmore
    have hlen := congrArg List.length e
    simp only [bytes, List.cons_append, List.cons.injEq] at e
    simp only [bytes, List.length_cons, List.length_append, List.length_nil] at hlen
    rw [List.nil_append, ← e.1]
    exact gathering_short (by omega) (by omega) (by omega)
  · have hcomplete := gathering_complete hn (by omega) hcheck.symm
    simpa [bytes] using hcomplete

end

/-- Settles O3: the frame reaches the request with its last byte, the operands read back are the ones laid out, and the
request does not see what the receiver gathered. -/
theorem requestSentByteByByteExecutes : Obligations.RequestSentByteByByteExecutes := by
  intro c h payload s hw hc hp hr hs
  obtain ⟨gathered, hfeed⟩ := feed_frameBytes hs hr h.kind h.tag (requestPayload_length hw hc hp)
  rw [hfeed, completeFrame_request hw hc hp, exec_collect hc]

end Sys2Proof.Machine

namespace Sys2Proof.Machine

/-! ## Notices and the transmitters (R163, R172, R173) -/

/-! ### Which notice is sent next (R173) -/

section
variable {c : LinkController} {p : LinkPort} {k : NoticeKind}

theorem LinkController.better_clear (hk : p.entry k = none) (best : Option NoticeKind) : c.better p best k = best := by
  cases best <;> simp [better, hk]

theorem LinkController.better_first (hk : (p.entry k).isSome = true) : c.better p none k = some k := by
  obtain ⟨e, he⟩ := Option.isSome_iff_exists.1 hk
  simp [better, he]

theorem LinkController.better_pending (hk : (p.entry k).isSome = true) (b : NoticeKind) :
    c.better p (some b) k = if (c.route b).priority < (c.route k).priority then some k else some b := by
  obtain ⟨e, he⟩ := Option.isSome_iff_exists.1 hk
  simp [better, he]

/-- What is chosen among some kinds is pending and one of them, or what was chosen before. -/
theorem LinkController.foldl_better_cases (kinds : List NoticeKind) (best : Option NoticeKind) :
    kinds.foldl (c.better p) best = best ∨
      ∃ b ∈ kinds, kinds.foldl (c.better p) best = some b ∧ (p.entry b).isSome = true := by
  induction kinds generalizing best with
  | nil => exact .inl rfl
  | cons m kinds ih =>
    obtain h | ⟨b, hb, h⟩ := ih (c.better p best m)
    · rw [List.foldl_cons, h]
      by_cases hm : (p.entry m).isSome = true
      · have hchoice : c.better p best m = best ∨ c.better p best m = some m := by
          cases best with
          | none => exact .inr (better_first hm)
          | some b =>
            rw [better_pending hm]
            split
            · exact .inr rfl
            · exact .inl rfl
        exact hchoice.imp_right fun e => ⟨m, List.mem_cons_self, e, hm⟩
      · exact .inl (better_clear (Option.not_isSome_iff_eq_none.1 hm) best)
    · exact .inr ⟨b, List.mem_cons_of_mem _ hb, h⟩

/-- A choice stands against kinds of no higher priority. -/
theorem LinkController.foldl_better_keeps (kinds : List NoticeKind)
    (h : ∀ m ∈ kinds, (p.entry m).isSome = true → (c.route m).priority ≤ (c.route k).priority) :
    kinds.foldl (c.better p) (some k) = some k := by
  induction kinds with
  | nil => rfl
  | cons m kinds ih =>
    obtain ⟨hm, hrest⟩ := List.forall_mem_cons.1 h
    have hstays : c.better p (some k) m = some k := by
      by_cases hpending : (p.entry m).isSome = true
      · rw [better_pending hpending, if_neg (Nat.not_lt.2 (hm hpending))]
      · exact better_clear (Option.not_isSome_iff_eq_none.1 hpending) _
    rw [List.foldl_cons, hstays, ih hrest]

theorem noticeKinds_ascending : noticeKinds.Pairwise fun a b => a.number < b.number := by decide

theorem mem_noticeKinds (k : NoticeKind) : k ∈ noticeKinds := by cases k <;> decide

theorem LinkController.nextNotice_none (h : ∀ k, p.entry k = none) : c.nextNotice p = none := by
  obtain hnone | ⟨b, -, -, hb⟩ := c.foldl_better_cases (p := p) noticeKinds none
  · exact hnone
  · simp [h b] at hb

/-- R173: the highest priority, and among equals the lowest number. Of the kinds before it in number order the pending ones
have lower priorities, and those after it do not replace it. -/
theorem LinkController.nextNotice_eq (hk : (p.entry k).isSome = true)
    (hbest : ∀ m, (p.entry m).isSome = true → m ≠ k → (c.route m).priority < (c.route k).priority ∨
      ((c.route m).priority = (c.route k).priority ∧ k.number < m.number)) : c.nextNotice p = some k := by
  obtain ⟨before, after, hkinds⟩ := List.append_of_mem (mem_noticeKinds k)
  have hbefore : ∀ m ∈ before, m.number < k.number := fun m hm => by
    have hsorted := noticeKinds_ascending
    rw [hkinds, List.pairwise_append] at hsorted
    exact hsorted.2.2 m hm k List.mem_cons_self
  have hchosen : c.better p (before.foldl (c.better p) none) k = some k := by
    obtain h | ⟨b, hb, h, hpending⟩ := c.foldl_better_cases (p := p) before none
    · rw [h, better_first hk]
    · have hnumber := hbefore b hb
      have hlower : (c.route b).priority < (c.route k).priority :=
        (hbest b hpending fun e => by simp [e] at hnumber).resolve_right fun h => by omega
      rw [h, better_pending hk, if_pos hlower]
  rw [nextNotice, hkinds, List.foldl_append, List.foldl_cons, hchosen]
  refine foldl_better_keeps after fun m _ hm => ?_
  by_cases e : m = k
  · rw [e]
  · have := hbest m hm e
    omega

/-! ### What an IDLE transmitter begins (R163) -/

section
variable (c) (hidle : p.transmitter = .idle)
include hidle

theorem LinkController.begin_slot {r : Reply} (hslot : p.slot = some r) :
    c.begin p = { p with transmitter := .sending .slot (.reply r) } := by
  simp only [begin, hidle, hslot]

theorem LinkController.begin_holder {r : Reply} (hslot : p.slot = none) (hholder : p.holder = some r) :
    c.begin p = { p with transmitter := .sending .holder (.reply r) } := by
  simp only [begin, hidle, hslot, hholder]

theorem LinkController.begin_nothing (hslot : p.slot = none) (hholder : p.holder = none) (hnext : c.nextNotice p = none) :
    c.begin p = p := by
  simp only [begin, hidle, hslot, hholder, hnext]

theorem LinkController.begin_notice {e : PendingNotice} (hslot : p.slot = none) (hholder : p.holder = none)
    (hnext : c.nextNotice p = some k) (hk : p.entry k = some e) :
    c.begin p = { p with transmitter := .sending .notice (.notice { kind := k, count := e.count, data := e.data }),
                         notices := put p.notices k.number none } := by
  simp only [begin, hidle, hslot, hholder, hnext, hk]

end

theorem LinkController.begin_sending (c : LinkController) {src : TransmitSource} {frame : LinkFrame}
    (h : p.transmitter = .sending src frame) : c.begin p = p := by
  simp only [begin, h]

theorem execTransmitEnd_sending {s : State} {l : Link} {src : TransmitSource} {frame : LinkFrame}
    (h : (s.links.port l).transmitter = .sending src frame) :
    execTransmitEnd l s = done (s.setLinks (s.links.setPort l ((s.links.port l).sent src))) := by
  simp only [execTransmitEnd, h]

/-! ### How raises gather (R172) -/

theorem LinkController.port_raise (c : LinkController) (k : NoticeKind) (data : ℕ) (l : Link) :
    (c.raise k data).port l = if (c.route k).route.reaches l = true then (c.port l).raise k data else c.port l := by
  cases l <;> rfl

theorem LinkPort.entry_raise (p : LinkPort) (k m : NoticeKind) (data : ℕ) :
    (p.raise k data).entry m = if m = k then some (PendingNotice.raised (p.entry k) data) else p.entry m := by
  obtain ⟨h1, h2⟩ := k.number_range
  refine (nth_put _ _ _ _ _ h1 h2).trans ?_
  simp only [NoticeKind.number_injective.eq_iff]
  rfl

theorem LinkController.entry_raise (c : LinkController) (k m : NoticeKind) (data : ℕ) (l : Link) :
    ((c.raise k data).port l).entry m = if m = k ∧ (c.route k).route.reaches l = true then
      some (PendingNotice.raised ((c.port l).entry k) data) else (c.port l).entry m := by
  rw [port_raise]
  by_cases hl : (c.route k).route.reaches l = true
  · simp only [hl, if_true, and_true, LinkPort.entry_raise]
  · rw [if_neg hl, if_neg fun h => hl h.2]

/-- A raise changes nothing of a port but its notices. -/
theorem LinkController.port_raise_frame (c : LinkController) (k : NoticeKind) (data : ℕ) (l : Link) :
    (c.raise k data).port l = { c.port l with notices := ((c.raise k data).port l).notices } := by
  rw [port_raise]
  split <;> rfl

/-! ### The bytes of what is sent (R163, R175, R180) -/

theorem replyKind_eq {kind : Byte} (h : kind.toNat < 128) : replyKind kind = kind + 0x80#8 := by
  rw [replyKind, if_pos h]
  exact BitVec.eq_of_toNat_eq (by simp)

theorem pollKind_charger {u : ℕ} (h : u ≤ 32) : pollKind u = 1 := if_pos h

theorem pollKind_inverter {u : ℕ} (h1 : 35 ≤ u) (h2 : u ≤ 38) : pollKind u = 4 := by
  rw [pollKind, if_neg (by omega), if_neg (by omega), if_neg (by omega), if_pos h2]

end

/-- Settles O5: the end of a frame, the choice, the raise and the bytes, each by its own lemmas. -/
theorem noticesGatherAndAreSentInOrder : Obligations.NoticesGatherAndAreSentInOrder := by
  refine ⟨fun l s frame => ⟨fun h => execTransmitEnd_sending h, fun h => execTransmitEnd_sending h,
      fun h => execTransmitEnd_sending h, fun h => execTransmitEnd_sending h⟩,
    fun c p => ⟨fun src frame h => c.begin_sending h, fun hidle => ⟨fun r hslot => c.begin_slot hidle hslot,
      fun r hslot hholder => c.begin_holder hidle hslot hholder,
      fun hslot hholder hclear => c.begin_nothing hidle hslot hholder (LinkController.nextNotice_none hclear),
      fun k e hslot hholder hk hbest => c.begin_notice hidle hslot hholder
        (LinkController.nextNotice_eq (by rw [hk]; rfl) hbest) hk⟩⟩,
    fun s k m data l => ⟨rfl, s.links.port_raise_frame k data l, (s.links.entry_raise k m data l).trans ?_⟩,
    fun kind tag status body hkind => ⟨by rw [mkReply, replyKind_eq hkind], ?_⟩, rfl, fun k count data => rfl,
    fun f t => ⟨fun m n hu hc => ?_, fun hu hc => ?_, fun hu hc => ?_, fun w h1 h2 hc => ?_, fun c hu hc => ?_⟩⟩
  · cases (s.links.port l).entry k <;> rfl
  · rw [mkReply, replyKind_eq hkind]
    rfl
  · rw [pollBytes, hc, pollKind_charger hu]
    cases m <;> rfl
  · rw [pollBytes, hc, hu]
    rfl
  · rw [pollBytes, hc, hu]
    rfl
  · rw [pollBytes, hc, pollKind_inverter h1 h2]
    rfl
  · rw [pollBytes, hc, hu]
    cases c <;> rfl

end Sys2Proof.Machine

namespace Sys2Proof.Machine

/-! ## Going live (R93, R94, R167, R168) -/

/-! ### The checks of GO_LIVE (R167) -/

/-- R167, item 2: the feeder a port is configured on is configured. -/
def State.PortFed (s : State) (p : Nat) : Prop :=
  ∀ e, s.sessions.entry p = some e → (nth s.allocator.feeders none e.feeder).isSome = true

/-- R167, item 3: the minimum of a port is not above its rated maximum. -/
def State.PortFits (s : State) (p : Nat) : Prop := ∀ e, s.sessions.entry p = some e → e.minimum ≤ e.ratedMax

theorem filter_portNumbers_first {q : Nat → Bool} {p : Nat} (hp : p ∈ portNumbers) (hq : q p = true)
    (hmin : ∀ r ∈ portNumbers, r < p → q r = false) : ∃ rest, portNumbers.filter q = p :: rest := by
  obtain ⟨before, rest, hsplit⟩ := List.append_of_mem hp
  have hsorted : (before ++ p :: rest).Pairwise (· < ·) := hsplit ▸ List.pairwise_lt_range'
  have hbefore : before.filter q = [] := List.filter_eq_nil_iff.2 fun r hr => by
    have hlt : r < p := (List.pairwise_append.1 hsorted).2.2 r hr p List.mem_cons_self
    simp [hmin r (by simp [hsplit, hr]) hlt]
  exact ⟨rest.filter q, by rw [hsplit, List.filter_append, hbefore, List.filter_cons_of_pos hq, List.nil_append]⟩

section
variable {c : SessionController} {test : PortEntry → Bool}

theorem SessionController.portsWhere_eq_nil (h : ∀ q ∈ portNumbers, ∀ e, c.entry q = some e → test e = false) :
    c.portsWhere test = [] :=
  List.filter_eq_nil_iff.2 fun q hq => by
    cases he : c.entry q with
    | none => simp
    | some e => simp [h q hq e he]

theorem SessionController.portsWhere_eq_cons {p : Nat} {e : PortEntry} (hp : p ∈ portNumbers) (he : c.entry p = some e)
    (ht : test e = true) (hmin : ∀ q ∈ portNumbers, q < p → ∀ e, c.entry q = some e → test e = false) :
    ∃ rest, c.portsWhere test = p :: rest :=
  filter_portNumbers_first hp (by simp [he, ht]) fun q hq hlt => by
    cases hx : c.entry q with
    | none => rfl
    | some x => simp [hmin q hq hlt x hx]

theorem SessionController.presentPorts_eq_nil_iff :
    c.presentPorts = [] ↔ ¬ ∃ p ∈ portNumbers, (c.entry p).isSome = true := by
  simp [SessionController.presentPorts, List.filter_eq_nil_iff]

end

section
variable {s : State}

theorem configFault_noPort (h : ¬ ∃ p ∈ portNumbers, (s.sessions.entry p).isSome = true) :
    configFault s = some (1, 0) :=
  if_pos (SessionController.presentPorts_eq_nil_iff.2 h)

theorem portsWhere_unfed_eq_nil (h : ∀ p ∈ portNumbers, s.PortFed p) :
    (s.sessions.portsWhere fun e => (nth s.allocator.feeders none e.feeder).isNone) = [] :=
  SessionController.portsWhere_eq_nil fun q hq e he => by simpa [Option.isSome_iff_ne_none] using h q hq e he

variable (h1 : ∃ p ∈ portNumbers, (s.sessions.entry p).isSome = true)
include h1

theorem presentPorts_ne_nil : s.sessions.presentPorts ≠ [] := fun hnil =>
  SessionController.presentPorts_eq_nil_iff.1 hnil h1

theorem configFault_unfed {p : Nat} (hp : p ∈ portNumbers) (hfed : ¬ s.PortFed p)
    (hmin : ∀ q ∈ portNumbers, q < p → s.PortFed q) : configFault s = some (2, p) := by
  obtain ⟨e, he, hnone⟩ : ∃ e, s.sessions.entry p = some e ∧ ¬ (nth s.allocator.feeders none e.feeder).isSome = true := by
    simpa [State.PortFed] using hfed
  obtain ⟨rest, hrest⟩ := SessionController.portsWhere_eq_cons (c := s.sessions)
    (test := fun e => (nth s.allocator.feeders none e.feeder).isNone) hp he (by simpa using hnone)
    fun q hq hlt e he => by simpa [Option.isSome_iff_ne_none] using hmin q hq hlt e he
  rw [configFault, if_neg (presentPorts_ne_nil h1), hrest]

variable (h2 : ∀ p ∈ portNumbers, s.PortFed p)
include h2

theorem configFault_unfit {p : Nat} (hp : p ∈ portNumbers) (hfit : ¬ s.PortFits p)
    (hmin : ∀ q ∈ portNumbers, q < p → s.PortFits q) : configFault s = some (3, p) := by
  obtain ⟨e, he, hlt⟩ : ∃ e, s.sessions.entry p = some e ∧ e.ratedMax < e.minimum := by
    simpa [State.PortFits] using hfit
  obtain ⟨rest, hrest⟩ := SessionController.portsWhere_eq_cons (c := s.sessions)
    (test := fun e => decide (e.ratedMax < e.minimum)) hp he (by simpa using hlt)
    fun q hq hlt e he => by simpa using hmin q hq hlt e he
  simp only [configFault, if_neg (presentPorts_ne_nil h1), portsWhere_unfed_eq_nil h2, hrest]

theorem configFault_fits (h3 : ∀ p ∈ portNumbers, s.PortFits p) : configFault s =
    if s.allocator.urgent ≤ s.allocator.high then some (4, 0)
    else if s.dispatch.policy.softReserve ≤ s.dispatch.policy.hardFloor ∨
        s.dispatch.policy.fullLimit ≤ s.dispatch.policy.softReserve then some (5, 0)
    else if (s.field.unit 33).present = false then some (6, 0)
    else if (s.field.unit 34).present = false then some (7, 0)
    else none := by
  have hnil := SessionController.portsWhere_eq_nil (c := s.sessions) (test := fun e => decide (e.ratedMax < e.minimum))
    fun q hq e he => by simpa using h3 q hq e he
  simp only [configFault, if_neg (presentPorts_ne_nil h1), portsWhere_unfed_eq_nil h2, hnil]

end

/-! ### The ports freed (R2, R168) -/

theorem foldl_freePorts_records (ps : List Nat) (c : SessionController) :
    let d := ps.foldl (fun c p => c.setRecord p { c.record p with state := some .free }) c
    d = { c with records := d.records } := by
  induction ps generalizing c with
  | nil => rfl
  | cons p ps ih => exact ih _

theorem foldl_freePorts_record (ps : List Nat) (c : SessionController) {q : Nat} (hq : q ∈ portNumbers) :
    (ps.foldl (fun c p => c.setRecord p { c.record p with state := some .free }) c).record q =
      if q ∈ ps then { c.record q with state := some .free } else c.record q := by
  induction ps generalizing c with
  | nil => simp
  | cons p ps ih =>
    rw [List.foldl_cons, ih, SessionController.record_setRecord_if]
    by_cases hp : q = p
    · subst hp
      simp [hq]
    · simp [hp]

theorem SessionController.freePorts_eq (c : SessionController) : c.freePorts = { c with records := c.freePorts.records } :=
  foldl_freePorts_records c.presentPorts c

theorem SessionController.record_freePorts (c : SessionController) {p : Nat} (hp : p ∈ portNumbers) :
    c.freePorts.record p = if (c.entry p).isSome then { c.record p with state := some .free } else c.record p := by
  rw [SessionController.freePorts, foldl_freePorts_record _ _ hp]
  simp [SessionController.presentPorts, hp]

/-! ### The poll cycle and the first poll (R93, R94) -/

/-- The groups of a run: 8 of its units each, the grid meter and the store meter after them (R93). -/
def pollGroups (run : List Nat) : List Nat :=
  (List.range ((run.length + 7) / 8)).flatMap fun g => (run.drop (8 * g)).take 8 ++ [33, 34]

@[simp] theorem pollGroups_nil : pollGroups [] = [] := rfl

/-- A run begins with the group of its first 8 units. -/
theorem pollGroups_of_ne_nil {run : List Nat} (h : run ≠ []) :
    pollGroups run = run.take 8 ++ 33 :: 34 :: pollGroups (run.drop 8) := by
  have hlen : (run.length + 7) / 8 = ((run.drop 8).length + 7) / 8 + 1 := by
    have := List.length_pos_iff.2 h
    rw [List.length_drop]
    omega
  rw [pollGroups, hlen, List.range_succ_eq_map, List.flatMap_cons, List.flatMap_map]
  simp [pollGroups, Nat.mul_succ, Nat.add_comm]

theorem withMeters_eq_append (left : Nat) (run : List Nat) : withMeters left run = run.take left ++
    33 :: 34 :: if run.drop left = [] then [] else withMeters 8 (run.drop left) := by
  induction left, run using withMeters.induct with
  | case1 left => simp [withMeters]
  | case2 u rest => simp [withMeters]
  | case3 left u rest ih => simp [withMeters, ih]

theorem withMeters_eq_pollGroups {run : List Nat} (h : run ≠ []) : withMeters 8 run = pollGroups run := by
  rw [withMeters_eq_append, pollGroups_of_ne_nil h]
  split
  · next hnil => rw [hnil, pollGroups_nil]
  · next hrest => rw [withMeters_eq_pollGroups hrest]
termination_by run.length
decreasing_by simp [List.length_pos_iff.2 h]

theorem pollCycle_eq_pollGroups (f : FieldLinkController) : pollCycle f = pollGroups (unitRun f) := by
  unfold pollCycle
  split
  · next hnil => rw [hnil, pollGroups_nil]
  · next hrun => exact withMeters_eq_pollGroups hrun

/-- R94, R168: with no urgent entry and an empty decrease set the first poll carries the target of the cycle's first unit. -/
theorem FieldLinkController.goLive_eq (f : FieldLinkController) : f.goLive = { f with
    urgent := [], decrease := []
    cycle := pollGroups (unitRun f)
    position := if unitRun f = [] then 0 else 1
    transaction := (unitRun f).head?.map fun u =>
      { unit := u, command := (f.unit u).target, urgent := false, timeout := f.replyTimeout, replyTimer := none } } := by
  cases hrun : unitRun f with
  | nil => simp [FieldLinkController.goLive, FieldLinkController.nextPoll, pollCycle_eq_pollGroups, hrun]
  | cons u rest =>
    have hcycle : pollGroups (u :: rest) = u :: (rest.take 7 ++ 33 :: 34 :: pollGroups (rest.drop 7)) :=
      pollGroups_of_ne_nil (List.cons_ne_nil u rest)
    have htarget (f : FieldLinkController) (h : f.decrease = []) : f.sendable u = (f.unit u).target := by
      unfold FieldLinkController.sendable
      split
      · next hc => rw [if_neg fun hd => hd.1 h, hc]
      · rfl
    simp [FieldLinkController.goLive, FieldLinkController.nextPoll, FieldLinkController.poll, FieldLinkController.advance,
      pollCycle_eq_pollGroups, hrun, hcycle, htarget, removeUrgent, FieldLinkController.unit]

@[simp] theorem FieldLinkController.goLive_units (f : FieldLinkController) : f.goLive.units = f.units := by
  rw [f.goLive_eq]

/-! ### Every block's go-live event (R168) -/

/-- The balance record reads the unit table and the port table, and of the balance unit not the restore timer. -/
theorem balanceOf_congr {f g : FieldLinkController} {c d : SessionController} (hu : g.units = f.units)
    (hp : d.ports = c.ports) (b : SiteBalanceUnit) (timer : Option Nat) :
    balanceOf g d { b with restoreTimer := timer } = balanceOf f c b := by
  have hunit : g.unit = f.unit := by
    funext u
    rw [FieldLinkController.unit, hu]
    rfl
  have hentry : d.entry = c.entry := by
    funext p
    rw [SessionController.entry, hp]
    rfl
  simp only [balanceOf, phantomOn, chargerPower, SessionController.presentPorts, balanceFlags, hunit, hentry]
  rfl

/-- R33, R43: entry to STARTING, where no record shows an overload, raises no notice. -/
theorem State.changeSite_starting (s : State) : s.changeSite .starting =
    (s.setBalance { s.balance.moved .starting with
      record := balanceOf s.field s.sessions (s.balance.moved .starting) }).sendSiteChange
        { before := s.balance.siteState, after := .starting } := by
  have hquiet : s.links.alarm s.balance.record (balanceOf s.field s.sessions (s.balance.moved .starting)) = s.links :=
    (LinkController.alarm_balanceOf ..).trans (s.links.overload_false _)
  rw [State.changeSite_eq, State.recompute_eq]
  exact congrArg (State.setLinks _) hquiet

/-- R168: the whole state after a GO_LIVE. -/
theorem State.goLive_eq (s : State) : s.goLive = { s with
    links := { s.links with part := .live }
    sessions := s.sessions.freePorts
    field := s.field.goLive
    balance := { s.balance with
      siteState := .starting, restoreTimer := none
      record := balanceOf s.field s.sessions { s.balance with siteState := .starting } }
    allocator := { s.allocator with periodTimer := some (s.runTime + 1000 * s.allocator.period) }
    events := { s.events with
      siteToSessions := s.events.siteToSessions ++ [{ before := s.balance.siteState, after := .starting }]
      siteToDispatch := s.events.siteToDispatch ++ [{ before := s.balance.siteState, after := .starting }]
      siteToStore := s.events.siteToStore ++ [{ before := s.balance.siteState, after := .starting }] } } := by
  have hports : s.sessions.freePorts.ports = s.sessions.ports := by rw [s.sessions.freePorts_eq]
  have hrecord : balanceOf s.field.goLive s.sessions.freePorts (s.balance.moved .starting) =
      balanceOf s.field s.sessions { s.balance with siteState := .starting } :=
    balanceOf_congr s.field.goLive_units hports { s.balance with siteState := .starting } none
  rw [State.goLive, State.changeSite_starting]
  simp only [State.setAllocator, State.setLinks, State.setBalance, State.sendSiteChange, State.setEvents, State.setField,
    State.setSessions, hrecord]
  rfl

/-! ### The obligation -/

section
variable {s : State} (hl : s.slotFree .site) (hs : s.links.part = .setup) (tag : Byte)
include hl hs

theorem exec_goLive_refused {code number : Nat} (h : configFault s = some (code, number)) :
    exec (.goLive .site tag (.fits ())) s = .next (s.replied .site 0x0C#8 tag .badConfig [byte code, byte number]) := by
  have hframe : configFault (s.frameEnd .site) = some (code, number) := h
  exact serve_site_answered s _ _ hl (by rw [hs]; rfl) (by rw [handleGoLive, hframe])

theorem exec_goLive_passed (h : configFault s = none) :
    exec (.goLive .site tag (.fits ())) s = .next (s.goLive.replied .site 0x0C#8 tag .ok []) := by
  have hframe : configFault (s.frameEnd .site) = none := h
  have hcomm : (s.frameEnd .site).goLive = s.goLive.frameEnd .site := by
    rw [State.goLive_eq, State.goLive_eq]
    rfl
  exact serve_site_answered s.goLive _ _ hl (by rw [hs]; rfl) (by rw [handleGoLive, hframe, hcomm]; rfl)

end

/-- Settles O12: the checks are the branches of `configFault`, each met by the first port or figure that fails it, and a
passing GO_LIVE is `State.goLive_eq` with its reply. -/
theorem goLiveChecksAndStarts : Obligations.GoLiveChecksAndStarts := by
  intro s tag hl hs refused fed fits c1 c2 c3 c4 c5
  have refuse {code number : Nat} (h : configFault s = some (code, number)) : refused code number :=
    exec_goLive_refused hl hs tag h
  have unordered_iff : (s.dispatch.policy.softReserve ≤ s.dispatch.policy.hardFloor ∨
      s.dispatch.policy.fullLimit ≤ s.dispatch.policy.softReserve) ↔ ¬ c5 := by
    simp [c5, imp_iff_not_or]
  refine ⟨fun h1 => refuse (configFault_noPort h1),
    fun p hp h1 hfed hmin => refuse (configFault_unfed h1 hp hfed hmin),
    fun p hp h1 h2 hfit hmin => refuse (configFault_unfit h1 h2 hp hfit hmin), ?_, ?_, ?_, ?_, ?_⟩
  · intro h1 h2 h3 h4
    exact refuse (by rw [configFault_fits h1 h2 h3, if_pos (Nat.not_lt.1 h4)])
  · intro h1 h2 h3 h4 h5
    exact refuse (by rw [configFault_fits h1 h2 h3, if_neg (Nat.not_le.2 h4), if_pos (unordered_iff.2 h5)])
  · intro h1 h2 h3 h4 h5 h33
    exact refuse (by
      rw [configFault_fits h1 h2 h3, if_neg (Nat.not_le.2 h4), if_neg (fun h => unordered_iff.1 h h5), if_pos h33])
  · intro h1 h2 h3 h4 h5 h33 h34
    exact refuse (by
      rw [configFault_fits h1 h2 h3, if_neg (Nat.not_le.2 h4), if_neg (fun h => unordered_iff.1 h h5),
        if_neg (by simp [h33]), if_pos h34])
  · intro h1 h2 h3 h4 h5 h33 h34
    have hpass : configFault s = none := by
      rw [configFault_fits h1 h2 h3, if_neg (Nat.not_le.2 h4), if_neg (fun h => unordered_iff.1 h h5),
        if_neg (by simp [h33]), if_neg (by simp [h34])]
    refine ⟨_, exec_goLive_passed hl hs tag hpass, ?_⟩
    rw [State.goLive_eq]
    refine ⟨?_, fun p hp => s.sessions.record_freePorts hp, s.field.goLive_eq, rfl⟩
    rw [s.sessions.freePorts_eq]
    rfl

end Sys2Proof.Machine

namespace Sys2Proof.Machine

/-! ### The queue of commands -/

section
variable {s : State}

theorem step_of_pending_cons {c : Instr} {rest : List Instr} (h : s.pending = c :: rest) :
    step s = exec c { s with pending := rest } := by
  rw [step, h]

theorem step_of_pending_nil (h : s.pending = []) : step s = .next s.idle := by
  rw [step, h]

end

/-- Settles O1: the two cases of `step`, on the pending commands; `State.idle` is the millisecond of the empty queue. -/
theorem stepRunsTheFrontCommand : Obligations.StepRunsTheFrontCommand := by
  refine ⟨fun c rest s => ?front, fun s => ?empty⟩
  case front => exact step_of_pending_cons (s := { s with pending := c :: rest }) rfl
  case empty => exact step_of_pending_nil (s := { s with pending := [] }) rfl

end Sys2Proof.Machine
